-- ==== Sys2Proof/Word.lean ====
section
/-! DEFINITION. The words of the Gradiscan 2240: a byte of the link and a 16-bit word (a converter's
sample, the timebase, the frame number). -/

namespace Sys2Proof

/-- A byte of the serial link (R173). -/
abbrev Byte := BitVec 8

/-- A 16-bit word: a sampled coil amplitude, a timebase value or a frame number. -/
abbrev Half := BitVec 16

end Sys2Proof
end

