-- ==== Sys2Proof/Syntax.lean ====
section
/-! DEFINITION. The commands: one constructor of `Instr` for each row of spec/opcode_table.json.

A row that the CPR takes from the command buffer has no operand here: its KIND, TAG and payload are
those of the oldest buffered command (R180). The other rows carry what the outside world brings. -/

namespace Sys2Proof

/-- A sensor sheet (R1). -/
inductive Sheet
  | s0
  | s1
  deriving DecidableEq, Repr

/-- The polarity of a sync edge (R28). -/
inductive Polarity
  | rising
  | falling
  deriving DecidableEq, Repr

/-- The level of a strap pin. -/
inductive Level
  | low
  | high
  deriving DecidableEq, Repr

/-- One value for each sheet. -/
structure PerSheet (α : Type) where
  s0 : α
  s1 : α
  deriving DecidableEq, Repr

/-- What the coils of a burst pick up while it listens (R11, R13, R14, R16): the amplitudes on the X
coils listened to, in ascending index; those on the Y coils of each sheet; and, on the counter coil
of a TIP burst, the ticks spanned by 64 cycles of the ringing and the lowest level of the ringing
during them. A coil past the end of its list picks up nothing. -/
structure Reading where
  x : List Half
  y : PerSheet (List Half)
  ringTicks : Nat
  ringLow : Half
  deriving DecidableEq, Repr

/-- The steps of the part, one for each row of the opcode table. -/
inductive Instr
  -- resets
  | resetnAssert
  | resetnRelease (layout linksel : Level)
  | commandReset
  -- receiving
  | receiveByte (b : Byte)
  | framerGapExpiry
  -- commands the CPR takes from the command buffer
  | unknownCommand
  | queryId
  | reset
  | setLayout
  | setPanel
  | setScan
  | setDisplay
  | setWord
  | channels
  | start
  | stop
  | release
  | loadProfile
  | dropProfile
  | readProfile
  | readTrack
  | hold
  | readFaults
  | clearFaults
  | setFaultPolicy
  | inject
  -- transmitting
  | transmitComplete
  | holdTimerExpiry
  -- frames and display sync
  | frameTimerExpiry
  | fsyncEdge (p : Polarity)
  | syncGapTimerExpiry
  | lockTimerExpiry
  | acquisitionTimeout
  -- bursts
  | excitationEnd (sh : Sheet)
  | lsyncEdge (p : Polarity)
  | listenGuardEnd (sh : Sheet)
  | alignTimeout (sh : Sheet)
  | burstComplete (sh : Sheet) (r : Reading)
  | driverOvercurrent (sh : Sheet)
  deriving DecidableEq, Repr

end Sys2Proof
end

