-- ==== Sys2Proof/Config.lean ====
section
/-! DEFINITION. What the part fixes, and the free values: constants without a body, one for each
choice the spec leaves open. Each is applied to the counter `State.free`. -/

namespace Sys2Proof.Config

/-- Family code (R184). -/
def familyCode : Nat := 0x2240

/-- Revision code (R184). -/
def revision : Nat := 1

/-- Most MOTION entries the report queue holds (R134). -/
def motionLimit : Nat := 48

/-- Commands the command buffer holds (R179). -/
def bufferSize : Nat := 4

/-- Replies that may be pending when a command is taken, less one (R180). -/
def replyLimit : Nat := 2

/-- Tool records the Profile Table holds (R120). -/
def toolLimit : Nat := 16

/-- The reload guard, in µs (R33). -/
def reloadGuard : Nat := 300

/-- The framer's gap limit, in µs (R177). -/
def framerGap : Nat := 1000

/-- The longest wait in ALIGN, in µs (R8). -/
def alignLimit : Nat := 64

/-- From the LSYNC edge to the start of listening, in µs (R8). -/
def listenGuard : Nat := 3

/-- One hold quantum, in µs (R147). -/
def holdQuantum : Nat := 256

/-- DESIGN CHOICE (log 6). Whether sheet 0's burst takes the armed DRIVER_TRIP when bursts on both
sheets enter EXCITE together; which does is not fixed (R20). -/
opaque freeTrip : Nat → Bool

/-- DESIGN CHOICE (log 7). How many of a close's reports stand after an ALERT of that close; their
order is not fixed (R133). -/
opaque freeAlertPlace : Nat → Nat

/-- DESIGN CHOICE (log 9). Whether a pending stop is carried out before a halting condition that
arose in the same close's processing (R37, R38, R159). -/
opaque freeStopFirst : Nat → Bool

/-- DESIGN CHOICE (log 11). For how long past the one bit time that R173 requires the line idles
between one frame and the next, in thirds of a µs. -/
opaque freeIdle : Nat → Nat

/-- DESIGN CHOICE (log 3). Which of several events due at one microsecond is taken first. -/
opaque freeDue : Nat → Nat

end Sys2Proof.Config
end

