-- ==== Sys2Proof/Machine/Types.lean ====
section
/-! DEFINITION. The kinds of data State is made of, block by block, with the spec's names. -/

namespace Sys2Proof.Machine

/-- One of the four frequency channels; each has one track slot. -/
inductive Channel
  | c0
  | c1
  | c2
  | c3
  deriving DecidableEq, Repr

def Channel.all : List Channel := [.c0, .c1, .c2, .c3]

def Channel.num : Channel → Nat
  | .c0 => 0
  | .c1 => 1
  | .c2 => 2
  | .c3 => 3

/-- The channel of a number, absent beyond 3. -/
def channelOf : Nat → Option Channel
  | 0 => some .c0
  | 1 => some .c1
  | 2 => some .c2
  | 3 => some .c3
  | _ => none

/-- The next channel in the cyclic order of R44. -/
def Channel.succ : Channel → Channel
  | .c0 => .c1
  | .c1 => .c2
  | .c2 => .c3
  | .c3 => .c0

/-- One value for each channel. -/
structure PerChannel (α : Type) where
  c0 : α
  c1 : α
  c2 : α
  c3 : α
  deriving DecidableEq, Repr

def PerChannel.get {α : Type} (v : PerChannel α) : Channel → α
  | .c0 => v.c0
  | .c1 => v.c1
  | .c2 => v.c2
  | .c3 => v.c3

def PerChannel.set {α : Type} (v : PerChannel α) (c : Channel) (a : α) : PerChannel α :=
  match c with
  | .c0 => { v with c0 := a }
  | .c1 => { v with c1 := a }
  | .c2 => { v with c2 := a }
  | .c3 => { v with c3 := a }

/-- The same value for every channel. -/
def everyChannel {α : Type} (a : α) : PerChannel α := ⟨a, a, a, a⟩

def PerChannel.map {α β : Type} (f : α → β) (v : PerChannel α) : PerChannel β :=
  ⟨f v.c0, f v.c1, f v.c2, f v.c3⟩

/-- The channels of a set. -/
def PerChannel.members (v : PerChannel Bool) : List Channel := Channel.all.filter v.get

def bothSheets : List Sheet := [.s0, .s1]

def otherSheet : Sheet → Sheet
  | .s0 => .s1
  | .s1 => .s0

def sheetGet {α : Type} (v : PerSheet α) : Sheet → α
  | .s0 => v.s0
  | .s1 => v.s1

def sheetSet {α : Type} (v : PerSheet α) (sh : Sheet) (a : α) : PerSheet α :=
  match sh with
  | .s0 => { v with s0 := a }
  | .s1 => { v with s1 := a }

/-- The same value for both sheets. -/
def everySheet {α : Type} (a : α) : PerSheet α := ⟨a, a⟩

/-- The ten faults of R152, in the order of their numbers. -/
inductive FaultId
  | linkCrc
  | linkFraming
  | cmdOverrun
  | syncLost
  | syncTimeout
  | frameCut
  | queueDrop
  | twin
  | profileMiss
  | driverTrip
  deriving DecidableEq, Repr

def FaultId.all : List FaultId :=
  [.linkCrc, .linkFraming, .cmdOverrun, .syncLost, .syncTimeout, .frameCut, .queueDrop, .twin,
    .profileMiss, .driverTrip]

/-- The fault number (R152). -/
def FaultId.num : FaultId → Nat
  | .linkCrc => 0
  | .linkFraming => 1
  | .cmdOverrun => 2
  | .syncLost => 3
  | .syncTimeout => 4
  | .frameCut => 5
  | .queueDrop => 6
  | .twin => 7
  | .profileMiss => 8
  | .driverTrip => 9

/-- One value for each fault. -/
structure PerFault (α : Type) where
  linkCrc : α
  linkFraming : α
  cmdOverrun : α
  syncLost : α
  syncTimeout : α
  frameCut : α
  queueDrop : α
  twin : α
  profileMiss : α
  driverTrip : α
  deriving DecidableEq, Repr

def PerFault.get {α : Type} (v : PerFault α) : FaultId → α
  | .linkCrc => v.linkCrc
  | .linkFraming => v.linkFraming
  | .cmdOverrun => v.cmdOverrun
  | .syncLost => v.syncLost
  | .syncTimeout => v.syncTimeout
  | .frameCut => v.frameCut
  | .queueDrop => v.queueDrop
  | .twin => v.twin
  | .profileMiss => v.profileMiss
  | .driverTrip => v.driverTrip

def PerFault.set {α : Type} (v : PerFault α) (f : FaultId) (a : α) : PerFault α :=
  match f with
  | .linkCrc => { v with linkCrc := a }
  | .linkFraming => { v with linkFraming := a }
  | .cmdOverrun => { v with cmdOverrun := a }
  | .syncLost => { v with syncLost := a }
  | .syncTimeout => { v with syncTimeout := a }
  | .frameCut => { v with frameCut := a }
  | .queueDrop => { v with queueDrop := a }
  | .twin => { v with twin := a }
  | .profileMiss => { v with profileMiss := a }
  | .driverTrip => { v with driverTrip := a }

/-- A value for each fault, from the fault. -/
def perFault {α : Type} (g : FaultId → α) : PerFault α :=
  ⟨g .linkCrc, g .linkFraming, g .cmdOverrun, g .syncLost, g .syncTimeout, g .frameCut,
    g .queueDrop, g .twin, g .profileMiss, g .driverTrip⟩

/-! ### Pins, layout and panel (chapters 1 and 10) -/

inductive Layout
  | single
  | dual
  deriving DecidableEq, Repr

inductive ResetCause
  | pin
  | command
  deriving DecidableEq, Repr

/-- What the pins have set. -/
structure Pins where
  /-- RESETN is low (R189). -/
  resetLow : Bool
  /-- LAYOUT as sampled at the last release of RESETN (R184). -/
  strapLayout : Layout
  /-- LINKSEL was high at the last release: 3 Mbit/s (R173). -/
  linkFast : Bool
  /-- The cause of the last reset (R188). -/
  cause : ResetCause
  deriving DecidableEq, Repr

/-- The panel geometry record (R3). In SINGLE `n1` is absent and held as 0. -/
structure Panel where
  n0 : Nat
  n1 : Nat
  yCount : Nat
  pitch : Nat
  originX : Nat
  originY : Nat
  width : Nat
  height : Nat
  deriving DecidableEq, Repr

/-- The five states of a burst engine (R7). -/
inductive EngineState
  | idle
  | paired
  | excite
  | align
  | listen
  deriving DecidableEq, Repr

/-- A sheet's burst engine (R7, R8). -/
structure Engine where
  st : EngineState
  /-- Position in the sheet's plan of the entry the engine is at. -/
  pos : Nat
  /-- µs waited in ALIGN. -/
  wait : Nat
  /-- µs since the LSYNC edge that ended the wait, absent before it. -/
  since : Option Nat
  /-- The burst in flight is marked unsynced. -/
  unsynced : Bool
  deriving DecidableEq, Repr

/-- The Coil Front End. -/
structure Cfe where
  layout : Layout
  fixed : Bool
  panel : Panel
  floor : PerSheet Nat
  threshold : PerSheet Nat
  engine : PerSheet Engine
  deriving DecidableEq, Repr

/-! ### Frames, scan state and display sync (chapter 2) -/

inductive ScanState
  | stopped
  | running
  | halted
  deriving DecidableEq, Repr

inductive LockState
  | unlocked
  | acquiring
  | locked
  deriving DecidableEq, Repr

/-- The current frame: none is open, it has plans, or it is planless (R24, R38, R39). -/
inductive FrameKind
  | noFrame
  | planned
  | planless
  deriving DecidableEq, Repr

/-- The four settings of SET_DISPLAY (R28). -/
structure Display where
  period : Nat
  tolerance : Nat
  frameSync : Polarity
  lineSync : Polarity
  deriving DecidableEq, Repr

/-- The Frame Timer and Sync Monitor. -/
structure Fts where
  timebase : Half
  latch : Nat
  period : Nat
  timerOn : Bool
  timer : Nat
  /-- µs since the last frame open, as far as the reload guard (R33). -/
  age : Nat
  frameNo : Half
  scan : ScanState
  stopReq : Bool
  frame : FrameKind
  display : Display
  lock : LockState
  capture : Option Half
  /-- The gap timer; in LOCKED, the lock timer (R29, R32). -/
  gap : Option Nat
  acq : Option Nat
  timeoutRaised : Bool
  consec : Nat
  /-- Interval judgements, oldest first; true is in tolerance (R32). -/
  history : List Bool
  deriving DecidableEq, Repr

/-! ### Planning (chapter 3) -/

/-- The scan settings less the frame period, which the reload latch holds (R49). -/
structure ScanSettings where
  detectMin : Nat
  confirm : Nat
  missWindow : Nat
  missLimit : Nat
  jump : Nat
  edgeReload : Bool
  align : Bool
  deriving DecidableEq, Repr

/-- The word settings (R95). -/
structure WordSettings where
  strict : Bool
  window : Nat
  debounce : Bool
  deriving DecidableEq, Repr

/-- A burst of a plan, by kind (R41). -/
inductive Burst
  | probe
  | tip (c : Channel) (wx wy : Nat) (straddling : Bool)
  | collar (c : Channel) (wx wy : Nat) (straddling : Bool)
  | search (c : Channel) (band : Nat)
  deriving DecidableEq, Repr

inductive RunState
  | planned
  | inFlight
  | completed
  | unrun
  deriving DecidableEq, Repr

/-- An entry of a plan; its position is its index (R41). -/
structure PlanEntry where
  burst : Burst
  run : RunState
  deriving DecidableEq, Repr

/-- The staged items (R50). -/
structure Staged where
  scan : Option ScanSettings
  word : Option WordSettings
  enable : Option (PerChannel Bool)
  releases : PerChannel Bool
  deriving DecidableEq, Repr

/-- The Burst Planner. -/
structure Bpl where
  active : ScanSettings
  staged : Staged
  plan : PerSheet (List PlanEntry)
  budget : Nat
  cursor : PerChannel (PerSheet Nat)
  rotation : PerSheet Channel
  deriving DecidableEq, Repr

/-! ### Burst results (chapter 1) -/

/-- The part of a TIP or COLLAR record both have (R10). `y` holds nine values for a sheet fired and
none for the other; `wx` is a global X index. -/
structure WindowRec where
  ch : Channel
  unsynced : Bool
  wx : Nat
  wy : Nat
  x : List Nat
  y : PerSheet (List Nat)
  deriving DecidableEq, Repr

/-- A burst result record (R10). -/
inductive BurstRecord
  | probe (sh : Sheet) (unsynced : Bool) (amp : Nat)
  | tip (w : WindowRec) (period : Option Nat)
  | collar (w : WindowRec)
  | search (sh : Sheet) (c : Channel) (unsynced : Bool) (band peakX peakY amp : Nat)
  deriving DecidableEq, Repr

/-! ### Word decoding (chapter 5) -/

/-- B1, B2 and TAIL (R81). -/
structure Buttons where
  b1 : Bool
  b2 : Bool
  tail : Bool
  deriving DecidableEq, Repr

/-- A history entry: the bit, absent when unknown, and the count it was entered at (R82). -/
structure HistoryEntry where
  bit : Option Bool
  count : Nat
  deriving DecidableEq, Repr

/-- The word sub-record (R82). -/
structure WordRec where
  count : Nat
  history : List HistoryEntry
  /-- The offset while ALIGNED; absent while UNALIGNED. -/
  aligned : Option Nat
  lost : Option Nat
  mimic : Bool
  /-- The sync-error window, oldest first; true is ERROR. -/
  errors : List Bool
  realigned : Bool
  buttons : Option Buttons
  previous : Option Buttons
  /-- The bits of the ID cycle in progress, first word first. -/
  cycle : Option (List Bool)
  lastCycle : Option Nat
  deriving DecidableEq, Repr

/-! ### Track slots (chapter 4) -/

inductive SlotState
  | idle
  | search
  | confirm
  | track
  deriving DecidableEq, Repr

inductive TipState
  | up
  | down
  deriving DecidableEq, Repr

/-- A far hit not yet reported (R69). -/
structure Relocation where
  x : Int
  y : Int
  frame : Half
  deriving DecidableEq, Repr

/-- A slot record (R55), with what the Sample Calculator and the Word Decoder keep in it. -/
structure Slot where
  state : SlotState
  centreX : Nat
  centreY : Nat
  lastX : Int
  lastY : Int
  confirm : Nat
  /-- The miss window, oldest first; true is a miss. -/
  misses : List Bool
  pendingRel : Option Relocation
  prox : Bool
  toolId : Option Nat
  /-- The bound profile: absent for the channel's default record, else a tool record's ID. -/
  bound : Option Nat
  tip : TipState
  heldPressure : Option Nat
  heldTilt : Option (Int × Int)
  word : Option WordRec
  deriving DecidableEq, Repr

/-- The Pen Tracker. -/
structure Ptr where
  enabled : PerChannel Bool
  records : List BurstRecord
  slots : PerChannel Slot
  deriving DecidableEq, Repr

/-! ### Profiles (chapter 7) -/

/-- A pressure curve's breakpoints and outputs (R121). -/
structure Curve where
  x1 : Nat
  x2 : Nat
  x3 : Nat
  x4 : Nat
  y0 : Nat
  y1 : Nat
  y2 : Nat
  y3 : Nat
  y4 : Nat
  y5 : Nat
  deriving DecidableEq, Repr

/-- A profile record (R121). -/
structure Profile where
  pFree : Nat
  pFull : Nat
  height : Nat
  on : Nat
  off : Nat
  tilt : Bool
  curve : Option Curve
  deriving DecidableEq, Repr

/-- The Profile Table (R120). The tool records stand in rising order of ID: the spec shows no order
of storage, and equal tables are then equal data. -/
structure Ptb where
  defaults : PerChannel Profile
  tools : List (Nat × Profile)
  deriving DecidableEq, Repr

/-! ### Reports (chapters 6 and 8) -/

/-- The sample flags a MOTION is created with; GAP is the entry's gap mark (R132). -/
structure SampleFlags where
  unsynced : Bool
  pressureHeld : Bool
  tiltHeld : Bool
  tiltSat : Bool
  twin : Bool
  relocated : Bool
  realigned : Bool
  deriving DecidableEq, Repr

/-- A MOTION entry (R132). -/
structure Motion where
  ch : Channel
  frame : Half
  x : Nat
  y : Nat
  pressure : Nat
  tip : TipState
  tilt : Option (Int × Int)
  buttons : Option Buttons
  toolId : Option Nat
  flags : SampleFlags
  coalesced : Nat
  gapMark : Bool
  deriving DecidableEq, Repr

/-- An entry of the report queue (R132). -/
inductive Entry
  | motion (m : Motion)
  | penIn (c : Channel)
  | penOut (c : Channel)
  | tool (c : Channel) (id : Nat) (bound : Option Nat)
  | alert
  | announce (family revision : Nat) (layout : Layout) (cause : ResetCause)
  deriving DecidableEq, Repr

/-- The Report Queue. -/
structure Rqu where
  queue : List Entry
  gap : PerChannel Bool
  /-- The hold timer: absent when it is 0, else the µs left (R147). -/
  hold : Option Nat
  /-- The model's own: the entries placed by the close under way, absent outside one (R133). -/
  fresh : Option Nat
  deriving DecidableEq, Repr

/-! ### Faults (chapter 9) -/

/-- A fault record (R153). -/
structure FaultRec where
  status : Bool
  marker : Bool
  masked : Bool
  halt : Bool
  deriving DecidableEq, Repr

/-- The armed set (R167). -/
structure Armed where
  tipMiss : PerChannel Bool
  collarFlip : PerChannel Bool
  edgeDrop : Bool
  driverTrip : Bool
  deriving DecidableEq, Repr

/-- The Fault Monitor. -/
structure Fmo where
  recs : PerFault FaultRec
  pointer : Option FaultId
  snapshot : Byte
  armed : Armed
  deriving DecidableEq, Repr

/-! ### Link and Command Processor (chapter 10) -/

inductive FramerState
  | hunt
  | length
  | kind
  | tag
  | payload
  | crcHigh
  | crcLow
  deriving DecidableEq, Repr

/-- The receive framer (R176, R177). What a field holds that the frame in progress has not yet recorded,
or with none in progress, is the model's (log 24). -/
structure Framer where
  st : FramerState
  length : Nat
  kind : Byte
  tag : Byte
  payload : List Byte
  crcHigh : Byte
  /-- µs since the last byte of the frame in progress; absent while the gap timer is stopped. -/
  gap : Option Nat
  deriving DecidableEq, Repr

/-- A received command (R179). -/
structure Command where
  kind : Byte
  tag : Byte
  payload : List Byte
  unknown : Bool
  deriving DecidableEq, Repr

/-- A reply built and not yet started on TXD (R180). `ofReset` marks the reply after which the
command reset is performed (R187). -/
structure Reply where
  kind : Byte
  tag : Byte
  payload : List Byte
  ofReset : Bool
  deriving DecidableEq, Repr

/-- The frame in transmission: its bytes, fixed at its start, and the time to the end of its last
byte in thirds of a µs (R173: a byte takes 10 µs, or 10 thirds). -/
structure Transmission where
  bytes : List Byte
  left : Nat
  ofReset : Bool
  deriving DecidableEq, Repr

/-- The Link Interface. -/
structure Lnk where
  framer : Framer
  buffer : List Command
  replies : List Reply
  tx : Option Transmission
  /-- For how long the line idles high yet before a frame's first start bit, in thirds of a µs
  (R173). -/
  quiet : Nat
  deriving DecidableEq, Repr

/-- The Command Processor: no command in execution, a RESET waiting for its reply to leave TXD, or
the command reset due (R180, R187). -/
inductive CprPhase
  | idle
  | resetWaits
  | resetDue
  deriving DecidableEq, Repr

end Sys2Proof.Machine
end

