-- ==== Sys2Proof/Machine/Defaults.lean ====
section
/-! DEFINITION. The value of every block after a reset, block by block (R188). What both resets leave
alike takes no argument; what they do not is an argument. -/

namespace Sys2Proof.Machine

/-- The panel defaults of a layout (R3). -/
def defaultPanel : Layout → Panel
  | .single => ⟨160, 0, 96, 600, 0, 0, 96000, 57600⟩
  | .dual => ⟨80, 80, 64, 600, 0, 0, 96000, 38400⟩

/-- An engine with no plan and no burst in flight (R9). DESIGN CHOICE (log 19): its position and ALIGN
times are 0 and absent and its unsynced mark is clear, which no rule reads without a burst. -/
def idleEngine : Engine := ⟨.idle, 0, 0, none, false⟩

/-- The Coil Front End after a reset (R1, R2, R3, R17). -/
def resetCfe (layout : Layout) : Cfe :=
  { layout := layout, fixed := false, panel := defaultPanel layout, floor := everySheet 0,
    threshold := everySheet 400, engine := everySheet idleEngine }

/-- The display settings after a reset (R28). -/
def defaultDisplay : Display := ⟨16667, 200, .rising, .rising⟩

/-- The Frame Timer and Sync Monitor after a reset (R21, R22, R23, R25, R28, R30). -/
def resetFts : Fts :=
  { timebase := 0, latch := 4167, period := 4167, timerOn := false, timer := 0, age := 0,
    frameNo := 0, scan := .stopped, stopReq := false, frame := .noFrame,
    display := defaultDisplay, lock := .unlocked, capture := none, gap := none, acq := none,
    timeoutRaised := false, consec := 0, history := [] }

/-- The default scan settings (R49). -/
def defaultScan : ScanSettings := ⟨400, 2, 5, 2, 3000, true, true⟩

/-- The default word settings (R95). -/
def defaultWord : WordSettings := ⟨false, 4, true⟩

/-- Nothing staged (R50). -/
def nothingStaged : Staged := ⟨none, none, none, everyChannel false⟩

/-- The Burst Planner after a reset (R44, R47, R49, R50). -/
def resetBpl : Bpl :=
  { active := defaultScan, staged := nothingStaged, plan := everySheet [], budget := 0,
    cursor := everyChannel (everySheet 0), rotation := everySheet .c3 }

/-- A slot record after a reset (R56, R99). -/
def resetSlot : Slot :=
  { state := .search, centreX := 0, centreY := 0, lastX := 0, lastY := 0, confirm := 0,
    misses := [], pendingRel := none, prox := false, toolId := none, bound := none, tip := .up,
    heldPressure := none, heldTilt := none, word := none }

/-- The Pen Tracker after a reset (R56). -/
def resetPtr : Ptr :=
  { enabled := everyChannel true, records := [], slots := everyChannel resetSlot }

/-- A word sub-record at its creation (R82). -/
def newWord : WordRec :=
  { count := 0, history := [], aligned := none, lost := none, mimic := false, errors := [],
    realigned := false, buttons := none, previous := none, cycle := none, lastCycle := none }

/-- The default records after a reset (R120). -/
def defaultProfiles : PerChannel Profile :=
  { c0 := ⟨27234, 26187, 1800, 60, 40, true, none⟩
    c1 := ⟨24151, 23222, 1800, 60, 40, true, none⟩
    c2 := ⟨21695, 20861, 1800, 60, 40, true, none⟩
    c3 := ⟨19692, 18935, 1800, 60, 40, true, none⟩ }

/-- The Profile Table after a reset (R120). -/
def resetPtb : Ptb := ⟨defaultProfiles, []⟩

/-- The ANNOUNCE of a reset (R144). -/
def announceEntry (layout : Layout) (cause : ResetCause) : Entry :=
  .announce Config.familyCode Config.revision layout cause

/-- The Report Queue after a reset (R149): the given entries, no gap flag, no hold. -/
def resetRqu (queue : List Entry) : Rqu :=
  { queue := queue, gap := everyChannel false, hold := none, fresh := none }

/-- The severity of a fault after a reset is HALT for DRIVER_TRIP alone (R152). -/
def defaultHalt (f : FaultId) : Bool := f = .driverTrip

/-- No injection armed (R172). -/
def nothingArmed : Armed := ⟨everyChannel false, everyChannel false, false, false⟩

/-- The Fault Monitor after a reset (R172). -/
def resetFmo : Fmo :=
  { recs := perFault fun f => ⟨false, false, false, defaultHalt f⟩, pointer := none,
    snapshot := 0, armed := nothingArmed }

/-- The framer in HUNT with no frame in progress and the gap timer stopped (R176). DESIGN CHOICE (log
24): its LENGTH, KIND, TAG and CRC high byte hold 0 and its payload is empty, for which the spec gives no
value; no rule reads them before a frame has recorded them. -/
def idleFramer : Framer := ⟨.hunt, 0, 0, 0, [], 0, none⟩

/-- The Link Interface after a reset (R188), the line having idled long enough for a frame. -/
def resetLnk : Lnk := ⟨idleFramer, [], [], none, 0⟩

/-- The layout a strap level selects (R1). -/
def layoutOfStrap : Level → Layout
  | .low => .single
  | .high => .dual

/-- Whether a strap level selects 3 Mbit/s (R173). -/
def fastOfStrap : Level → Bool
  | .low => false
  | .high => true

end Sys2Proof.Machine
end

