-- ==== Sys2Proof/Machine/Panel.lean ====
section
/-! DEFINITION. Panel geometry, windows, bands and levels (chapter 1), and the peaks of a window
(R57, R58). -/

namespace Sys2Proof.Machine

/-- The sheets of a layout (R1). -/
def Layout.sheets : Layout → List Sheet
  | .single => [.s0]
  | .dual => [.s0, .s1]

/-- The X count of a sheet (R3). -/
def Panel.xCount (p : Panel) : Sheet → Nat
  | .s0 => p.n0
  | .s1 => p.n1

/-- The global index of a sheet's first X coil (R3). -/
def Panel.xBase (p : Panel) : Sheet → Nat
  | .s0 => 0
  | .s1 => p.n0

/-- The total X count N (R3). -/
def totalX (layout : Layout) (p : Panel) : Nat :=
  match layout with
  | .single => p.n0
  | .dual => p.n0 + p.n1

/-- The sheet of a global X coil (R3). -/
def sheetOfCoil (layout : Layout) (p : Panel) (i : Nat) : Sheet :=
  match layout with
  | .single => .s0
  | .dual => if i < p.n0 then .s0 else .s1

/-- The search bands of a sheet: ceil(n ÷ 16) (R16). -/
def Panel.bands (p : Panel) (sh : Sheet) : Nat := (p.xCount sh + 15) / 16

/-- The lowest coil of a window around a centre, on an axis of `n` coils (R12). -/
def windowFirst (centre n : Nat) : Nat := min (centre - 4) (n - 9)

/-- The sheets a window with lowest X coil `wx` belongs to; two when it straddles (R15, R42). -/
def windowSheets (layout : Layout) (p : Panel) (wx : Nat) : List Sheet :=
  match layout with
  | .single => [.s0]
  | .dual =>
    if wx + 8 < p.n0 then [.s0]
    else if p.n0 ≤ wx then [.s1]
    else [.s0, .s1]

/-- The noise floor after a PROBE (R17). -/
def nextFloor (floor amp : Nat) : Nat := (7 * floor + amp) / 8

/-- The detect threshold of a floor (R17). -/
def thresholdOf (detectMin floor : Nat) : Nat := min 65535 (max detectMin (4 * floor))

/-- The half-threshold level of a threshold (R18). -/
def halfLevel (threshold : Nat) : Nat := threshold / 2

/-! ### Amplitudes and peaks -/

/-- The amplitude at a position of a list, 0 outside it. -/
def ampAt (a : List Nat) (k : Nat) : Nat := a.getD k 0

/-- The amplitude below a position, 0 below position 0. -/
def ampBelow (a : List Nat) : Nat → Nat
  | 0 => 0
  | k + 1 => ampAt a k

/-- `n` amplitudes of a reading, from its start; a coil past its end reads 0. -/
def readCoils (l : List Half) (n : Nat) : List Nat :=
  (List.range n).map fun k => (l.getD k 0).toNat

/-- The greatest amplitude of a list. -/
def greatest (a : List Nat) : Nat := a.foldl max 0

/-- The position of the greatest amplitude, the lowest on a tie (R13, R16). -/
def greatestAt (a : List Nat) : Nat := a.findIdx (· = greatest a)

/-- Position `k` of a window's axis is a local maximum (R57). -/
def localMax (a : List Nat) (k : Nat) : Bool :=
  ampBelow a k ≤ ampAt a k && ampAt a (k + 1) < ampAt a k

/-- Coil distance. -/
def coilDist (i j : Nat) : Nat := (i - j) + (j - i)

/-- Of two positions of a window whose first coil is `first`, the one nearer the centre, the earlier
on a tie. -/
def nearer (first centre : Nat) (best : Option Nat) (k : Nat) : Option Nat :=
  match best with
  | none => some k
  | some b =>
    if coilDist (first + k) centre < coilDist (first + b) centre then some k else some b

/-- The positions of the local maxima of a window's axis. -/
def localMaxima (a : List Nat) : List Nat := (List.range 9).filter (localMax a)

/-- The position of an axis's main peak (R57). -/
def mainPeak (a : List Nat) (first centre : Nat) : Option Nat :=
  (localMaxima a).foldl (nearer first centre) none

/-- The axis holds a twin of the main peak at `k` (R58). -/
def hasTwin (threshold : Nat) (a : List Nat) (k : Nat) : Bool :=
  (localMaxima a).any fun j => 3 ≤ coilDist j k && max threshold (ampAt a k / 2) ≤ ampAt a j

/-- The main peaks of a window record: positions and coils on both axes, the sheet of the X main
peak, and the Y list that counts (R15, R57). -/
structure Peaks where
  kx : Nat
  ky : Nat
  coilX : Nat
  coilY : Nat
  sheet : Sheet
  y : List Nat
  deriving DecidableEq, Repr

/-- Find both main peaks; absent when an axis has none (R57). -/
def findPeaks (layout : Layout) (p : Panel) (centreX centreY : Nat) (w : WindowRec) :
    Option Peaks :=
  match mainPeak w.x w.wx centreX with
  | none => none
  | some kx =>
    let sh := sheetOfCoil layout p (w.wx + kx)
    let y := sheetGet w.y sh
    match mainPeak y w.wy centreY with
    | none => none
    | some ky => some ⟨kx, ky, w.wx + kx, w.wy + ky, sh, y⟩

/-- Both main peaks are at least a level, given for each sheet (R18, R60). -/
def peaksReach (level : PerSheet Nat) (w : WindowRec) (pk : Peaks) : Bool :=
  sheetGet level pk.sheet ≤ ampAt w.x pk.kx && sheetGet level pk.sheet ≤ ampAt pk.y pk.ky

end Sys2Proof.Machine
end

