-- ==== Sys2Proof/Machine/Operands.lean ====
section
/-! DEFINITION. The fields and codes of the link's frames (chapter 11), the frame itself and its CRC
(R174, R175). -/

namespace Sys2Proof.Machine

/-! ### Fields (R191) -/

/-- An unsigned field of one byte. -/
def u8 (n : Nat) : List Byte := [BitVec.ofNat 8 n]

/-- An unsigned field of two bytes, least significant byte first. -/
def u16 (n : Nat) : List Byte := [BitVec.ofNat 8 n, BitVec.ofNat 8 (n / 256)]

/-- An unsigned field of four bytes, least significant byte first. -/
def u32 (n : Nat) : List Byte := u16 n ++ u16 (n / 65536)

/-- A signed field of two bytes, two's complement. -/
def s16 (n : Int) : List Byte := u16 (BitVec.ofInt 16 n).toNat

/-- A signed field of four bytes, two's complement. -/
def s32 (n : Int) : List Byte := u32 (BitVec.ofInt 32 n).toNat

/-- The u8 at an offset of a received payload. -/
def u8At (p : List Byte) (i : Nat) : Nat := (p.getD i 0).toNat

/-- The u16 at an offset of a received payload. -/
def u16At (p : List Byte) (i : Nat) : Nat := u8At p i + 256 * u8At p (i + 1)

/-- The u32 at an offset of a received payload. -/
def u32At (p : List Byte) (i : Nat) : Nat := u16At p i + 65536 * u16At p (i + 2)

/-- Bit `k` of a number. -/
def bitOf (n k : Nat) : Bool := n / 2 ^ k % 2 = 1

/-- The number whose bits, least significant first, are given. -/
def ofBits : List Bool → Nat
  | [] => 0
  | b :: bs => b.toNat + 2 * ofBits bs

/-! ### Codes (R192) -/

/-- The statuses of a reply. -/
inductive Status
  | ok
  | badKind
  | badLength
  | badValue
  | wrongState
  | tableFull
  | notFound
  | stale
  | armed
  deriving DecidableEq, Repr

def Status.code : Status → Nat
  | .ok => 0
  | .badKind => 1
  | .badLength => 2
  | .badValue => 3
  | .wrongState => 4
  | .tableFull => 5
  | .notFound => 6
  | .stale => 7
  | .armed => 8

/-- The twenty commands. -/
inductive CommandKind
  | queryId
  | reset
  | setLayout
  | setPanel
  | setScan
  | setDisplay
  | setWord
  | channels
  | start
  | stop
  | release
  | loadProfile
  | dropProfile
  | readProfile
  | readTrack
  | hold
  | readFaults
  | clearFaults
  | setFaultPolicy
  | inject
  deriving DecidableEq, Repr

/-- The KIND byte of a command frame. -/
def CommandKind.code : CommandKind → Byte
  | .queryId => 0x01
  | .reset => 0x02
  | .setLayout => 0x03
  | .setPanel => 0x04
  | .setScan => 0x05
  | .setDisplay => 0x06
  | .setWord => 0x07
  | .channels => 0x08
  | .start => 0x09
  | .stop => 0x0A
  | .release => 0x0B
  | .loadProfile => 0x0C
  | .dropProfile => 0x0D
  | .readProfile => 0x0E
  | .readTrack => 0x0F
  | .hold => 0x10
  | .readFaults => 0x11
  | .clearFaults => 0x12
  | .setFaultPolicy => 0x13
  | .inject => 0x14

/-- The payload length of a command (R193). -/
def CommandKind.length : CommandKind → Nat
  | .queryId | .reset | .start | .stop | .readTrack | .readFaults => 0
  | .setLayout | .channels | .release => 1
  | .hold | .inject => 2
  | .setWord | .dropProfile | .readProfile | .clearFaults => 3
  | .setFaultPolicy => 4
  | .setDisplay => 5
  | .setScan => 10
  | .setPanel => 21
  | .loadProfile => 35

/-- The reply KIND of a command is its KIND with bit 7 set (R192). -/
def CommandKind.replyCode (k : CommandKind) : Byte := k.code + 0x80

/-- The reply KIND for a command of unknown KIND. -/
def unknownReplyCode : Byte := 0x80

/-- A received KIND names a command when it is 01h..14h (R192). -/
def isCommandKind (b : Byte) : Bool := 1 ≤ b.toNat && b.toNat ≤ 0x14

/-- The row that executes a buffered command. -/
def rowOf (c : Command) : Option Instr :=
  if c.unknown then some .unknownCommand else
    match c.kind.toNat with
    | 0x01 => some .queryId
    | 0x02 => some .reset
    | 0x03 => some .setLayout
    | 0x04 => some .setPanel
    | 0x05 => some .setScan
    | 0x06 => some .setDisplay
    | 0x07 => some .setWord
    | 0x08 => some .channels
    | 0x09 => some .start
    | 0x0A => some .stop
    | 0x0B => some .release
    | 0x0C => some .loadProfile
    | 0x0D => some .dropProfile
    | 0x0E => some .readProfile
    | 0x0F => some .readTrack
    | 0x10 => some .hold
    | 0x11 => some .readFaults
    | 0x12 => some .clearFaults
    | 0x13 => some .setFaultPolicy
    | 0x14 => some .inject
    | _ => none

def Layout.code : Layout → Nat
  | .single => 0
  | .dual => 1

def layoutOf : Nat → Option Layout
  | 0 => some .single
  | 1 => some .dual
  | _ => none

def ScanState.code : ScanState → Nat
  | .stopped => 0
  | .running => 1
  | .halted => 2

def LockState.code : LockState → Nat
  | .unlocked => 0
  | .acquiring => 1
  | .locked => 2

def SlotState.code : SlotState → Nat
  | .idle => 0
  | .search => 1
  | .confirm => 2
  | .track => 3

def TipState.code : TipState → Nat
  | .up => 0
  | .down => 1

def ResetCause.code : ResetCause → Nat
  | .pin => 0
  | .command => 1

/-- An ON/OFF setting or an indicator: 0, 1, or no code (R192). -/
def switchOf : Nat → Option Bool
  | 0 => some false
  | 1 => some true
  | _ => none

/-- The target of a profile command. -/
inductive Target
  | default (c : Channel)
  | tool (id : Nat)
  | directory
  deriving DecidableEq, Repr

/-- The target of a kind and a value; absent when they name none (R122, R125, R126, R193). The
directory form does not examine the value. -/
def targetOf (kind value : Nat) : Option Target :=
  match kind with
  | 0 => (channelOf value).map .default
  | 1 => if value = 0 then none else some (.tool value)
  | 2 => some .directory
  | _ => none

/-- The four kinds of injection, with their channel where they have one (R167). -/
inductive Injection
  | tipMiss (c : Channel)
  | collarFlip (c : Channel)
  | edgeDrop
  | driverTrip
  deriving DecidableEq, Repr

/-- The injection of a kind and a channel byte; absent when they name none (R167, R192). -/
def injectionOf (kind channel : Nat) : Option Injection :=
  match kind with
  | 0 => (channelOf channel).map .tipMiss
  | 1 => (channelOf channel).map .collarFlip
  | 2 => some .edgeDrop
  | 3 => some .driverTrip
  | _ => none

/-- The first-fault pointer on the link: FFh when empty. -/
def pointerCode : Option FaultId → Nat
  | none => 0xFF
  | some f => f.num

/-! ### Sets (R191, R193) -/

/-- A channel set as its byte. -/
def channelByte (v : PerChannel Bool) : Nat := ofBits [v.c0, v.c1, v.c2, v.c3]

/-- A received channel set; absent when it names a channel beyond 3. -/
def channelSetOf (n : Nat) : Option (PerChannel Bool) :=
  if n < 16 then some ⟨bitOf n 0, bitOf n 1, bitOf n 2, bitOf n 3⟩ else none

/-- A fault set as its 16-bit word. -/
def faultWord (v : PerFault Bool) : Nat := ofBits (FaultId.all.map v.get)

/-- A received fault set; absent when it names a fault beyond 9. -/
def faultSetOf (n : Nat) : Option (PerFault Bool) :=
  if n < 1024 then some (perFault fun f => bitOf n f.num) else none

/-! ### Frames (R174, R175) -/

/-- One data bit into the CRC register. -/
def crcBit (r : Half) (b : Bool) : Half :=
  if r.msb != b then (r <<< 1) ^^^ 0x1021 else r <<< 1

/-- One byte into the CRC register, most significant bit first. -/
def crcByte (r : Half) (b : Byte) : Half :=
  [b.getLsbD 7, b.getLsbD 6, b.getLsbD 5, b.getLsbD 4, b.getLsbD 3, b.getLsbD 2, b.getLsbD 1,
    b.getLsbD 0].foldl crcBit r

/-- The CRC of a sequence of bytes. -/
def crc (bytes : List Byte) : Half := bytes.foldl crcByte 0xFFFF

/-- The START byte. -/
def startByte : Byte := 0xC3

/-- The bytes of a frame that its CRC covers. -/
def coveredBytes (kind tag : Byte) (payload : List Byte) : List Byte :=
  BitVec.ofNat 8 payload.length :: kind :: tag :: payload

/-- A whole frame, the CRC most significant byte first. -/
def frameBytes (kind tag : Byte) (payload : List Byte) : List Byte :=
  let body := coveredBytes kind tag payload
  let c := crc body
  startByte :: body ++ [c.extractLsb' 8 8, c.extractLsb' 0 8]

/-! ### The line (R173) -/

/-- One bit time, in thirds of a µs. -/
def bitTime (fast : Bool) : Nat := if fast then 1 else 3

/-- A byte on the line: a start bit (low), eight data bits with the least significant first, and a
stop bit (high). -/
def lineBits (b : Byte) : List Bool :=
  false :: [b.getLsbD 0, b.getLsbD 1, b.getLsbD 2, b.getLsbD 3, b.getLsbD 4, b.getLsbD 5,
    b.getLsbD 6, b.getLsbD 7] ++ [true]

/-- The byte that ten bits sampled on RXD spell, the operand of RECEIVE_BYTE: the eight data bits as
sampled, whatever the stop bit. -/
def sampledByte (bits : List Bool) : Byte := BitVec.ofNat 8 (ofBits ((bits.drop 1).take 8))

/-- The time a frame's bytes take on TXD, back to back, in thirds of a µs. -/
def sendTime (fast : Bool) (bytes : List Byte) : Nat :=
  bytes.length * if fast then 10 else 30

/-- The level of a line of one bit a `bit` whose frame ends in `left`: high before its first start
bit and after its last stop bit. -/
def lineLevel (bytes : List Byte) (bit left : Nat) : Bool :=
  let bits := bytes.flatMap lineBits
  let ahead := (left + bit - 1) / bit
  if bits.length < ahead then true else bits.getD (bits.length - ahead) true

end Sys2Proof.Machine
end

