-- ==== Sys2Proof/Machine/Flags.lean ====
section
/-! DEFINITION. Flags and flag bytes: the sample flags of a MOTION and their merge (R137, R196), the
presence mask, the flags of a READ_TRACK slot record (R195) and the halting condition (R157). -/

namespace Sys2Proof.Machine

/-- No sample flag set. -/
def noFlags : SampleFlags := ⟨false, false, false, false, false, false, false⟩

/-- The sample flags byte of a MOTION, GAP among them (R196). -/
def sampleFlagsByte (f : SampleFlags) (gap : Bool) : Nat :=
  ofBits [f.unsynced, f.pressureHeld, f.tiltHeld, f.tiltSat, f.twin, f.relocated, f.realigned, gap]

/-- The flags of a merged MOTION: those of the handed sample, with TWIN, RELOCATED and REALIGNED
kept from the entry (R137). -/
def mergeFlags (held handed : SampleFlags) : SampleFlags :=
  { handed with
    twin := held.twin || handed.twin
    relocated := held.relocated || handed.relocated
    realigned := held.realigned || handed.realigned }

/-- The presence mask of a MOTION (R196). -/
def presenceMask (m : Motion) : Nat :=
  ofBits [m.tilt.isSome, m.buttons.isSome, m.toolId.isSome]

/-- The buttons and tail byte of a MOTION, 0 when absent. -/
def buttonsByte : Option Buttons → Nat
  | none => 0
  | some b => ofBits [b.b1, b.b2, b.tail]

/-- The offset a slot's decoder holds while ALIGNED. -/
def slotOffset (sl : Slot) : Option Nat := sl.word.bind (·.aligned)

/-- The MIMIC indication of a slot (R97). -/
def slotMimic (sl : Slot) : Bool := (sl.word.map (·.mimic)).getD false

/-- The flags byte of a READ_TRACK slot record (R195). -/
def slotFlagsByte (sl : Slot) : Nat :=
  ofBits [sl.prox, sl.tip = .down, sl.pendingRel.isSome, (slotOffset sl).isSome, slotMimic sl]
    + 32 * (slotOffset sl).getD 0

/-- The miss window byte of a READ_TRACK slot record: the oldest entry as bit 0 (R195). -/
def missByte (sl : Slot) : Nat := ofBits (sl.misses.take 8)

/-- A fault counts toward the halting condition: set, unmasked and of HALT severity (R157). -/
def FaultRec.halts (r : FaultRec) : Bool := r.status && !r.masked && r.halt

/-- The halting condition holds (R157). -/
def Fmo.halting (m : Fmo) : Bool := FaultId.all.any fun f => (m.recs.get f).halts

end Sys2Proof.Machine
end

