-- ==== Sys2Proof/Machine/Queue.lean ====
section
/-! DEFINITION. The Report Queue (chapter 8): what each handing does to it, and the report frames. -/

namespace Sys2Proof.Machine

/-- The channel an entry belongs to; ALERT and ANNOUNCE belong to none (R132). -/
def Entry.channel : Entry → Option Channel
  | .motion m => some m.ch
  | .penIn c => some c
  | .penOut c => some c
  | .tool c _ _ => some c
  | .alert => none
  | .announce _ _ _ _ => none

def Entry.isMotion : Entry → Bool
  | .motion _ => true
  | _ => false

/-- The entry is a TOOL of channel `c`. -/
def Entry.isToolOf (c : Channel) : Entry → Bool
  | .tool d _ _ => d = c
  | _ => false

/-- The entry is a MOTION or a TOOL of channel `c`. -/
def Entry.isFollowerOf (c : Channel) : Entry → Bool
  | .motion m => m.ch = c
  | .tool d _ _ => d = c
  | _ => false

/-- The number of MOTION entries. -/
def motionCount (q : List Entry) : Nat := q.countP Entry.isMotion

/-- A new entry at the newest end (R133). -/
def Rqu.place (r : Rqu) (e : Entry) : Rqu :=
  { r with queue := r.queue ++ [e], fresh := r.fresh.map (· + 1) }

/-! ### MOTION (R135 to R138) -/

/-- The handed MOTION merges into an entry: a MOTION of equal tip state, buttons and tail (R137). -/
def mergeable (held handed : Motion) : Bool :=
  held.tip = handed.tip && held.buttons = handed.buttons

/-- The merged entry (R137); `gap` is the channel's gap flag. -/
def mergeMotion (held handed : Motion) (gap : Bool) : Motion :=
  { handed with
    flags := mergeFlags held.flags handed.flags
    coalesced := min 255 (held.coalesced + 1)
    gapMark := held.gapMark || gap }

/-- Merge a MOTION into the newest entry of its channel, searching a queue given newest first;
absent where R137 does not allow it. -/
def mergeNewest (m : Motion) (gap : Bool) : List Entry → Option (List Entry)
  | [] => none
  | e :: rest =>
    if e.channel = some m.ch then
      match e with
      | .motion held =>
        if mergeable held m then some (.motion (mergeMotion held m gap) :: rest) else none
      | _ => none
    else (mergeNewest m gap rest).map (e :: ·)

/-- A MOTION is handed: the queue after it, and whether the MOTION was dropped (R135 to R138). -/
def Rqu.handMotion (r : Rqu) (m : Motion) : Rqu × Bool :=
  let gap := r.gap.get m.ch
  let taken := r.gap.set m.ch false
  if motionCount r.queue < Config.motionLimit then
    (({ r with gap := taken }).place (.motion { m with coalesced := 0, gapMark := gap }), false)
  else
    match mergeNewest m gap r.queue.reverse with
    | some q => ({ r with queue := q.reverse, gap := taken }, false)
    | none => ({ r with gap := r.gap.set m.ch true }, true)

/-! ### Notices (R139 to R143) -/

/-- An OUT of `c` cancels an unsent IN of `c`, with every later MOTION and TOOL of `c`; absent where
no IN of `c` is unsent (R140). -/
def cancelIn (c : Channel) : List Entry → Option (List Entry)
  | [] => none
  | e :: rest =>
    if e = .penIn c then some (rest.filter fun e => !e.isFollowerOf c)
    else (cancelIn c rest).map (e :: ·)

/-- An IN is handed (R139). -/
def Rqu.handIn (r : Rqu) (c : Channel) : Rqu := r.place (.penIn c)

/-- An OUT is handed (R140). -/
def Rqu.handOut (r : Rqu) (c : Channel) : Rqu :=
  match cancelIn c r.queue with
  | some q => { r with queue := q }
  | none => r.place (.penOut c)

/-- An unsent OUT of `c` stands after the unsent TOOL of `c` (R142). -/
def outAfterTool (c : Channel) : List Entry → Bool
  | [] => false
  | e :: rest => if e.isToolOf c then .penOut c ∈ rest else outAfterTool c rest

/-- A TOOL is handed: placed, or replaced in place, or superseding one of an ended proximity
(R142). -/
def Rqu.handTool (r : Rqu) (c : Channel) (id : Nat) (bound : Option Nat) : Rqu :=
  if r.queue.any (·.isToolOf c) then
    if outAfterTool c r.queue then
      ({ r with queue := r.queue.filter fun e => !e.isToolOf c }).place (.tool c id bound)
    else
      { r with queue := r.queue.map fun e => if e.isToolOf c then .tool c id bound else e }
  else r.place (.tool c id bound)

/-- An ALERT is handed: placed unless one is unsent (R143). It is not one of a close's reports. -/
def Rqu.handAlert (r : Rqu) : Rqu :=
  if .alert ∈ r.queue then r else { r with queue := r.queue ++ [.alert] }

/-- An ALERT placed during a close stands anywhere among the close's reports: `k` says how many of
them stand after it (R133). The queue without it ends in those reports. -/
def settleAlert (hadAlert : Bool) (k : Nat) (r : Rqu) : Rqu :=
  if !hadAlert && r.queue.contains .alert then
    let q := r.queue.filter (· != .alert)
    let after := k % (min (r.fresh.getD 0) q.length + 1)
    let cut := q.length - after
    { r with queue := q.take cut ++ .alert :: q.drop cut, fresh := none }
  else { r with fresh := none }

/-! ### Report frames (R145, R196) -/

/-- What an ALERT reports, taken at the start of its transmission (R156). -/
structure AlertContent where
  status : PerFault Bool
  markers : PerFault Bool
  pointer : Option FaultId
  snapshot : Byte
  scan : ScanState
  deriving DecidableEq, Repr

/-- The status set of the fault records. -/
def statusSet (m : Fmo) : PerFault Bool := perFault fun f => (m.recs.get f).status

/-- The set of faults whose since-read marker is set. -/
def markerSet (m : Fmo) : PerFault Bool := perFault fun f => (m.recs.get f).marker

/-- The mask set. -/
def maskSet (m : Fmo) : PerFault Bool := perFault fun f => (m.recs.get f).masked

/-- The set of faults of HALT severity. -/
def haltSet (m : Fmo) : PerFault Bool := perFault fun f => (m.recs.get f).halt

/-- The fault content as it stands (R156). -/
def alertContent (m : Fmo) (scan : ScanState) : AlertContent :=
  ⟨statusSet m, markerSet m, m.pointer, m.snapshot, scan⟩

/-- An optional tool ID or bound record on the link: 0 when absent (R191). -/
def optionalId (o : Option Nat) : Nat := o.getD 0

/-- The payload of a MOTION report (R196). -/
def motionPayload (m : Motion) : List Byte :=
  u8 m.ch.num ++ u8 (presenceMask m) ++ u16 m.frame.toNat ++ u32 m.x ++ u32 m.y ++ u16 m.pressure
    ++ u8 m.tip.code ++ s16 (m.tilt.getD (0, 0)).1 ++ s16 (m.tilt.getD (0, 0)).2
    ++ u8 (buttonsByte m.buttons) ++ u16 (optionalId m.toolId)
    ++ u8 (sampleFlagsByte m.flags m.gapMark) ++ u8 m.coalesced ++ List.replicate 10 0

/-- The payload of an ALERT report (R196). -/
def alertPayload (a : AlertContent) : List Byte :=
  u16 (faultWord a.status) ++ u16 (faultWord a.markers) ++ u8 (pointerCode a.pointer)
    ++ [a.snapshot] ++ u8 a.scan.code

/-- The KIND and payload of an entry's report, an ALERT's content being `a` (R145, R192, R196). -/
def reportOf (a : AlertContent) : Entry → Byte × List Byte
  | .motion m => (0x40, motionPayload m)
  | .penIn c => (0x41, u8 c.num)
  | .penOut c => (0x42, u8 c.num)
  | .tool c id bound => (0x43, u8 c.num ++ u16 id ++ u16 (optionalId bound))
  | .alert => (0x44, alertPayload a)
  | .announce family revision layout cause =>
    (0x45, u16 family ++ u8 revision ++ u8 layout.code ++ u8 cause.code)

/-- The whole frame of a report, with TAG 0 (R145, R174). -/
def reportFrame (a : AlertContent) (e : Entry) : List Byte :=
  frameBytes (reportOf a e).1 0 (reportOf a e).2

end Sys2Proof.Machine
end

