-- ==== Sys2Proof/Machine/State.lean ====
section
/-! DEFINITION. The state of the part, its value after reset, and why a step could stop. -/

namespace Sys2Proof.Machine

/-- Why a step stops with a fault: never. The part's ten faults (R152) are state, and raising one is
part of a command's effect. -/
inductive Fault
  deriving DecidableEq, Repr

/-- Why a step is refused. -/
inductive Refusal
  /-- The command has no meaning yet: raised by no arm of this model. Safe. -/
  | notModelled (mnemonic : String)
  deriving DecidableEq, Repr

/-- The state of the part, block by block. -/
structure State where
  /-- What the pins have set. -/
  pins : Pins
  /-- Coil Front End. -/
  cfe : Cfe
  /-- Frame Timer and Sync Monitor. -/
  fts : Fts
  /-- Burst Planner. -/
  bpl : Bpl
  /-- Pen Tracker, with each slot's word sub-record and held values. -/
  ptr : Ptr
  /-- Active word settings of the Word Decoder (R95). -/
  wdc : WordSettings
  /-- Profile Table. -/
  ptb : Ptb
  /-- Report Queue. -/
  rqu : Rqu
  /-- Fault Monitor. -/
  fmo : Fmo
  /-- Link Interface. -/
  lnk : Lnk
  /-- Command Processor. -/
  cpr : CprPhase
  /-- The model's own: how many free values have been drawn. -/
  free : Nat
  /-- The commands waiting, first in, first out. -/
  pending : List Instr
  deriving DecidableEq, Repr

def State.setPins (s : State) (v : Pins) : State := { s with pins := v }
def State.setCfe (s : State) (v : Cfe) : State := { s with cfe := v }
def State.setFts (s : State) (v : Fts) : State := { s with fts := v }
def State.setBpl (s : State) (v : Bpl) : State := { s with bpl := v }
def State.setPtr (s : State) (v : Ptr) : State := { s with ptr := v }
def State.setWdc (s : State) (v : WordSettings) : State := { s with wdc := v }
def State.setPtb (s : State) (v : Ptb) : State := { s with ptb := v }
def State.setRqu (s : State) (v : Rqu) : State := { s with rqu := v }
def State.setFmo (s : State) (v : Fmo) : State := { s with fmo := v }
def State.setLnk (s : State) (v : Lnk) : State := { s with lnk := v }
def State.setCpr (s : State) (v : CprPhase) : State := { s with cpr := v }
def State.setFree (s : State) (v : Nat) : State := { s with free := v }
def State.setPending (s : State) (v : List Instr) : State := { s with pending := v }

/-- Every block at its reset value (R188), the report queue holding the given entries. The commands
waiting and the count of free values drawn are not the part's, and a reset keeps them. -/
def State.resetBlocks (pins : Pins) (layout : Layout) (queue : List Entry) (s : State) : State :=
  { pins := pins, cfe := resetCfe layout, fts := resetFts, bpl := resetBpl, ptr := resetPtr,
    wdc := defaultWord, ptb := resetPtb, rqu := resetRqu queue, fmo := resetFmo, lnk := resetLnk,
    cpr := .idle, free := s.free, pending := s.pending }

/-- The part right after a pin reset with both straps low, before the arbiter's first choice (R188).
DESIGN CHOICE (log 1): the straps are the outside world's; both pins have internal pull-downs. -/
def State.reset : State :=
  { pins := ⟨false, .single, false, .pin⟩, cfe := resetCfe .single, fts := resetFts,
    bpl := resetBpl, ptr := resetPtr, wdc := defaultWord, ptb := resetPtb,
    rqu := resetRqu [announceEntry .single .pin], fmo := resetFmo, lnk := resetLnk, cpr := .idle,
    free := 0, pending := [] }

end Sys2Proof.Machine
end

