-- ==== Sys2Proof/Machine/Ops.lean ====
section
/-! DEFINITION. The operations the commands share: reading and writing slots and engines, the end of
a proximity, raising a fault, entering and leaving HALTED, the transmit arbiter, and taking a command
from the buffer. -/

namespace Sys2Proof.Machine

/-! ### Outcomes -/

/-- The command's occasion is not there: nothing changes. DESIGN CHOICE (log 8). -/
def noEffect (s : State) : Host.Outcome State Fault Refusal := .next s

/-! ### Slots and the queue -/

def State.slot (s : State) (c : Channel) : Slot := s.ptr.slots.get c

def State.setSlot (s : State) (c : Channel) (sl : Slot) : State :=
  s.setPtr { s.ptr with slots := s.ptr.slots.set c sl }

def State.modRqu (s : State) (g : Rqu → Rqu) : State := s.setRqu (g s.rqu)

/-- A channel's search cursors on both sheets go to band 0 (R47). -/
def restartSearch (c : Channel) (s : State) : State :=
  s.setBpl { s.bpl with cursor := s.bpl.cursor.set c (everySheet 0) }

/-- A slot record whose proximity has ended, in state `st` (R71). -/
def endedSlot (st : SlotState) (sl : Slot) : Slot :=
  { sl with
    state := st
    confirm := 0
    misses := []
    pendingRel := none
    prox := false
    toolId := none
    bound := none
    tip := .up
    heldPressure := none
    heldTilt := none
    word := none }

/-- A slot's proximity ends, and the slot enters `st` (R71). -/
def endProximity (c : Channel) (st : SlotState) (s : State) : State :=
  let out := if (s.slot c).prox then s.modRqu (·.handOut c) else s
  out.setSlot c (endedSlot st (s.slot c))

/-- The slot holds a pen or a candidate: CONFIRM or TRACK. -/
def SlotState.active : SlotState → Bool
  | .confirm => true
  | .track => true
  | _ => false

/-- A slot in CONFIRM or TRACK has its proximity ended and enters SEARCH (R77, R78). -/
def clearSlot (s : State) (c : Channel) : State :=
  if (s.slot c).state.active then endProximity c .search s else s

/-- The slots are cleared in the order 0..3, cursors kept (R78). -/
def clearSlots (s : State) : State := Channel.all.foldl clearSlot s

/-- An enabled slot has its search cursors at band 0 (R77). -/
def restartEnabled (s : State) (c : Channel) : State :=
  if (s.slot c).state = .idle then s else restartSearch c s

/-- The slot clearing that follows a stop (R77). DESIGN CHOICE (log 22): in the order 0..3, which R77
does not give. -/
def clearForStop (s : State) : State := Channel.all.foldl restartEnabled (clearSlots s)

/-! ### Plans, engines and frames -/

/-- Both engines to IDLE, the plans and the delivered records gone (R9, R48). -/
def discardFrame (s : State) : State :=
  let s := s.setCfe { s.cfe with engine := everySheet idleEngine }
  let s := s.setBpl { s.bpl with plan := everySheet [], budget := 0 }
  s.setPtr { s.ptr with records := [] }

/-- The scan state becomes STOPPED: the frame timer stops, any stop request is cleared, and no frame
is open (R36, R37, R38). -/
def stopScanning (s : State) : State :=
  s.setFts { s.fts with scan := .stopped, stopReq := false, timerOn := false, frame := .noFrame }

/-- HALTED entry from RUNNING; with a stop request pending it stops the part (R38, R78, R158). -/
def enterHalt (s : State) : State :=
  let t := clearSlots (discardFrame s)
  if s.fts.stopReq then stopScanning t
  else t.setFts { t.fts with scan := .halted, frame := .planless }

/-- What finding the halting condition to hold does: in RUNNING, HALTED entry (R158). -/
def haltIfHeld (s : State) : State :=
  if s.fmo.halting && s.fts.scan = .running then enterHalt s else s

/-- What finding that no halting condition holds does: in HALTED, the part runs again, its current
frame staying planless (R39, R160). -/
def resumeIfEnded (s : State) : State :=
  if !s.fmo.halting && s.fts.scan = .halted then s.setFts { s.fts with scan := .running } else s

/-- An evaluation of the halting condition by a command (R157, R158, R160). -/
def evaluateHalt (s : State) : State := resumeIfEnded (haltIfHeld s)

/-! ### Raising a fault -/

/-- Step 1 of a setting event: status and since-read marker (R154). -/
def markFault (f : FaultId) (m : Fmo) : Fmo :=
  { m with recs := m.recs.set f { m.recs.get f with status := true, marker := true } }

/-- Step 3: the first-fault pointer takes an unmasked fault when it is empty (R155). -/
def loadPointer (f : FaultId) (m : Fmo) : Fmo := { m with pointer := m.pointer.or (some f) }

/-- A setting event less its last step: recorded and alerted, the FTS not yet told (R154, R159). -/
def recordFault (f : FaultId) (s : State) : State :=
  if (s.fmo.recs.get f).masked then s.setFmo (markFault f s.fmo)
  else (s.setFmo (loadPointer f (markFault f s.fmo))).modRqu (·.handAlert)

/-- A setting event outside a close's processing (R154). -/
def raiseFault (f : FaultId) (s : State) : State :=
  if (s.fmo.recs.get f).masked then recordFault f s else haltIfHeld (recordFault f s)

/-! ### Free values -/

/-- The next free value is drawn. -/
def State.drawFree (s : State) : State := s.setFree (s.free + 1)

/-! ### The transmit arbiter -/

/-- The transmitter may be given a frame: RESETN is high, no command reset is due, and it is free
(R146, R187, R189). -/
def State.txReady (s : State) : Bool :=
  !s.pins.resetLow && s.cpr != .resetDue && s.lnk.tx.isNone

/-- The transmission of a frame that is given the transmitter now; its first start bit follows the
idle time the line still needs after the last frame (R173). -/
def startFrame (s : State) (bytes : List Byte) (ofReset : Bool) : Transmission :=
  ⟨bytes, s.lnk.quiet + sendTime s.pins.linkFast bytes, ofReset⟩

/-- The frame of a reply (R174, R183). -/
def replyFrame (r : Reply) : List Byte := frameBytes r.kind r.tag r.payload

/-- The arbiter chooses, where the transmitter is free: the oldest pending reply, else, with no hold
in force, the head of the report queue (R145, R146, R183). -/
def arbitrate (s : State) : State :=
  if s.txReady then
    match s.lnk.replies, s.rqu.hold, s.rqu.queue with
    | r :: rest, _, _ =>
      s.setLnk { s.lnk with
        replies := rest, tx := some (startFrame s (replyFrame r) r.ofReset), quiet := 0 }
    | [], none, e :: rest =>
      let frame := reportFrame (alertContent s.fmo s.fts.scan) e
      (s.setRqu { s.rqu with queue := rest }).setLnk
        { s.lnk with tx := some (startFrame s frame false), quiet := 0 }
    | _, _, _ => s
  else s

/-- The level of TXD: high while RESETN is low and while no frame is in transmission (R173). -/
def State.txd (s : State) : Bool :=
  s.pins.resetLow || match s.lnk.tx with
    | none => true
    | some x => lineLevel x.bytes (bitTime s.pins.linkFast) x.left

/-- The end of a command that took effect: the arbiter makes its choice (log 10). -/
def done (s : State) : Host.Outcome State Fault Refusal := .next (arbitrate s)

/-! ### Taking a command from the buffer -/

/-- The CPR can take a command (R180, R189). -/
def State.canTake (s : State) : Bool :=
  !s.pins.resetLow && s.cpr = .idle && s.lnk.replies.length < Config.replyLimit

/-- The oldest buffered command and the state without it, where the CPR can take it and it is of the
asked kind; `none` asks for the unknown-kind mark (R180, R181). -/
def takeCommand (kind : Option CommandKind) (s : State) : Option (Command × State) :=
  match s.lnk.buffer with
  | [] => none
  | c :: rest =>
    let asked := match kind with
      | none => c.unknown
      | some k => !c.unknown && c.kind = k.code
    if s.canTake && asked then some (c, s.setLnk { s.lnk with buffer := rest }) else none

/-- A reply joins the pending list (R180). -/
def addReply (r : Reply) (s : State) : State :=
  s.setLnk { s.lnk with replies := s.lnk.replies ++ [r] }

/-- What a command's own rule answers: the state after it and the payload of its reply. -/
structure Answer where
  state : State
  payload : List Byte
  deriving DecidableEq, Repr

/-- A refusal changes no state, and its reply carries the status alone (R181, R191). -/
def refuse (status : Status) (s : State) : Answer := ⟨s, u8 status.code⟩

/-- An acceptance, with the body of its reply (R191, R194). -/
def accept (s : State) (body : List Byte) : Answer := ⟨s, u8 Status.ok.code ++ body⟩

/-- The CPR takes the oldest command, which is of the given kind, checks its LENGTH, applies its own
rule and places its reply (R180, R181). -/
def runCommand (kind : CommandKind) (rule : List Byte → State → Answer) (s : State) :
    Host.Outcome State Fault Refusal :=
  match takeCommand (some kind) s with
  | none => noEffect s
  | some (c, s) =>
    let a := if c.payload.length = kind.length then rule c.payload s else refuse .badLength s
    done (addReply ⟨kind.replyCode, c.tag, a.payload, false⟩ a.state)

/-! ### Binding -/

/-- The bound record of a slot's tool ID under a table (R128). -/
def boundOf (t : Ptb) (toolId : Option Nat) : Option Nat :=
  toolId.filter fun id => t.tools.any (·.1 = id)

/-- The tool record of an ID. -/
def toolRecord (t : Ptb) (id : Nat) : Option Profile := (t.tools.find? (·.1 = id)).map (·.2)

/-- The profile record a slot of channel `c` is bound to. -/
def boundProfile (t : Ptb) (c : Channel) (bound : Option Nat) : Profile :=
  ((bound.bind (toolRecord t))).getD (t.defaults.get c)

/-- The set of channels whose slots satisfy a test. -/
def slotSet (s : State) (test : Slot → Bool) : PerChannel Bool := s.ptr.slots.map test

/-- One slot of tool ID `id` is rebound at command time (R129). -/
def rebindSlot (id : Nat) (s : State) (c : Channel) : State :=
  let sl := s.slot c
  if sl.toolId = some id then
    let b := boundOf s.ptb sl.toolId
    let t := s.setSlot c { sl with bound := b }
    if b = sl.bound then t else t.modRqu (·.handTool c id b)
  else s

/-- Every slot of tool ID `id` is rebound, in the order 0..3 (R129). -/
def rebindSlots (id : Nat) (s : State) : State := Channel.all.foldl (rebindSlot id) s

end Sys2Proof.Machine
end

