-- ==== Sys2Proof/Machine/Planner.lean ====
section
/-! DEFINITION. The Burst Planner (chapter 3): the plan of a frame and the take-up of staged items. -/

namespace Sys2Proof.Machine

/-! ### Plans -/

/-- The slot budget of a frame period (R40). -/
def slotBudget (period : Nat) : Nat := min 40 ((period - 300) / 210)

/-- An entry as it begins (R41). -/
def plannedEntry (b : Burst) : PlanEntry := ⟨b, .planned⟩

/-- The TIP and COLLAR entries of a channel on a sheet, where its window belongs to it (R42, R43). -/
def windowEntries (layout : Layout) (p : Panel) (sh : Sheet) (c : Channel) (sl : Slot) :
    List PlanEntry :=
  let wx := windowFirst sl.centreX (totalX layout p)
  let wy := windowFirst sl.centreY p.yCount
  let sheets := windowSheets layout p wx
  if sl.state.active && sh ∈ sheets then
    let straddling := sheets.length == 2
    [plannedEntry (.tip c wx wy straddling), plannedEntry (.collar c wx wy straddling)]
  else []

/-- The fixed entries of a sheet (R42). -/
def fixedEntries (layout : Layout) (p : Panel) (slots : PerChannel Slot) (sh : Sheet) :
    List PlanEntry :=
  plannedEntry .probe ::
    Channel.all.flatMap fun c => windowEntries layout p sh c (slots.get c)

/-- The first channel of the search set after the rotation pointer (R44). -/
def nextSearch (set : PerChannel Bool) (pointer : Channel) : Option Channel :=
  [pointer.succ, pointer.succ.succ, pointer.succ.succ.succ, pointer].find? set.get

/-- Fill `n` search positions in order; `used` counts the SEARCH entries each channel already has in
this plan (R44, R45). Answers the entries and the rotation pointer. -/
def fillSearch (set : PerChannel Bool) (cursor : Channel → Nat) (bands : Nat) :
    Nat → Channel → PerChannel Nat → List PlanEntry × Channel
  | 0, pointer, _ => ([], pointer)
  | n + 1, pointer, used =>
    match nextSearch set pointer with
    | none => ([], pointer)
    | some c =>
      let band := (cursor c + used.get c) % bands
      let rest := fillSearch set cursor bands n c (used.set c (used.get c + 1))
      (plannedEntry (.search c band) :: rest.1, rest.2)

/-- The search set (R44). -/
def searchSet (slots : PerChannel Slot) : PerChannel Bool := slots.map fun sl => sl.state = .search

/-- The plan of a sheet under a budget, and its rotation pointer afterwards (R41 to R45). -/
def sheetPlan (layout : Layout) (p : Panel) (slots : PerChannel Slot)
    (cursor : PerChannel (PerSheet Nat)) (budget : Nat) (rotation : Channel) (sh : Sheet) :
    List PlanEntry × Channel :=
  let fixed := fixedEntries layout p slots sh
  let search := fillSearch (searchSet slots) (fun c => sheetGet (cursor.get c) sh) (p.bands sh)
    (budget - fixed.length) rotation (everyChannel 0)
  (fixed ++ search.1, search.2)

/-- One sheet's plan is built (R41). -/
def buildSheet (budget : Nat) (s : State) (sh : Sheet) : State :=
  let r := sheetPlan s.cfe.layout s.cfe.panel s.ptr.slots s.bpl.cursor budget
    (sheetGet s.bpl.rotation sh) sh
  s.setBpl { s.bpl with
    plan := sheetSet s.bpl.plan sh r.1
    rotation := sheetSet s.bpl.rotation sh r.2 }

/-- The plans of a frame opened in RUNNING (R40, R41). -/
def buildPlans (s : State) : State :=
  let budget := slotBudget s.fts.period
  let s := s.setBpl { s.bpl with budget := budget, plan := everySheet [] }
  s.cfe.layout.sheets.foldl (buildSheet budget) s

/-! ### The take-up of staged items (R51) -/

/-- The detect thresholds follow the active detect minimum and the floors (R17). -/
def recomputeThresholds (s : State) : State :=
  let level := thresholdOf s.bpl.active.detectMin
  s.setCfe { s.cfe with threshold := ⟨level s.cfe.floor.s0, level s.cfe.floor.s1⟩ }

/-- The staged scan settings become active. -/
def takeScan (s : State) : State :=
  match s.bpl.staged.scan with
  | none => s
  | some r =>
    recomputeThresholds
      (s.setBpl { s.bpl with active := r, staged := { s.bpl.staged with scan := none } })

/-- The staged word settings become active (R96). -/
def takeWord (s : State) : State :=
  match s.bpl.staged.word with
  | none => s
  | some r =>
    (s.setWdc r).setBpl { s.bpl with staged := { s.bpl.staged with word := none } }

/-- One slot is compared with the new channel enable set (R76). -/
def enableSlot (set : PerChannel Bool) (s : State) (c : Channel) : State :=
  let sl := s.slot c
  match sl.state, set.get c with
  | .idle, true => restartSearch c (s.setSlot c { sl with state := .search })
  | .search, false => s.setSlot c { sl with state := .idle }
  | .confirm, false => endProximity c .idle s
  | .track, false => endProximity c .idle s
  | _, _ => s

/-- The staged channel enable set becomes the channel enable set (R76). DESIGN CHOICE (log 22): the
slots are compared with it in the order 0..3, which no rule gives. -/
def takeEnable (s : State) : State :=
  match s.bpl.staged.enable with
  | none => s
  | some set =>
    let s := s.setBpl { s.bpl with staged := { s.bpl.staged with enable := none } }
    Channel.all.foldl (enableSlot set) (s.setPtr { s.ptr with enabled := set })

/-- A staged release is carried out as the slot's state then stands (R75). -/
def releaseSlot (s : State) (c : Channel) : State :=
  match (s.slot c).state with
  | .idle => s
  | .search => restartSearch c s
  | .confirm => endProximity c .search s
  | .track => endProximity c .search s

/-- The staged releases are carried out (R75). DESIGN CHOICE (log 22): channel by channel in the order
0..3, where R51 gives no order. -/
def takeReleases (s : State) : State :=
  let set := s.bpl.staged.releases
  let s := s.setBpl { s.bpl with staged := { s.bpl.staged with releases := everyChannel false } }
  set.members.foldl releaseSlot s

/-- Every staged item is taken up by its owner, the enable set before the releases (R51). -/
def takeUp (s : State) : State := takeReleases (takeEnable (takeWord (takeScan s)))

end Sys2Proof.Machine
end

