-- ==== Sys2Proof/Machine/Bursts.lean ====
section
/-! DEFINITION. The burst engines (chapter 1): starting entries, placing the listening, delivering a
result, and overcurrent. -/

namespace Sys2Proof.Machine

def State.engine (s : State) (sh : Sheet) : Engine := sheetGet s.cfe.engine sh

def State.setEngine (s : State) (sh : Sheet) (e : Engine) : State :=
  s.setCfe { s.cfe with engine := sheetSet s.cfe.engine sh e }

/-- The burst a sheet's engine is at. -/
def State.burstAt (s : State) (sh : Sheet) : Option Burst :=
  ((sheetGet s.bpl.plan sh)[(s.engine sh).pos]?).map (·.burst)

/-- The burst straddles the seam (R15). -/
def Burst.straddles : Burst → Bool
  | .tip _ _ _ st => st
  | .collar _ _ _ st => st
  | _ => false

/-- The sheets a sheet's current burst is on: both when it straddles (R15). -/
def State.involved (s : State) (sh : Sheet) : List Sheet :=
  if (s.burstAt sh).any (·.straddles) then bothSheets else [sh]

/-- The run state of the entry a sheet's engine is at (R41). -/
def setRun (run : RunState) (s : State) (sh : Sheet) : State :=
  let plan := (sheetGet s.bpl.plan sh).modify (s.engine sh).pos fun e => { e with run := run }
  s.setBpl { s.bpl with plan := sheetSet s.bpl.plan sh plan }

/-- An engine enters a state; its burst's ALIGN times begin again. -/
def setEngineState (st : EngineState) (unsynced : Bool) (s : State) (sh : Sheet) : State :=
  s.setEngine sh { s.engine sh with st := st, wait := 0, since := none, unsynced := unsynced }

/-- The listening is placed: ALIGN where the sync is LOCKED and listen alignment enabled, else
LISTEN at once with the unsynced mark (R8, R34). -/
def placeListening (s : State) (sh : Sheet) : State :=
  if s.fts.lock = .locked && s.bpl.active.align then setEngineState .align false s sh
  else setEngineState .listen true s sh

/-- A burst enters EXCITE on a sheet and is in flight. -/
def enterExcite (s : State) (sh : Sheet) : State :=
  setEngineState .excite false (setRun .inFlight s sh) sh

/-- The engine starts the entry it is at, or goes to IDLE after the last (R7). -/
def beginEntry (s : State) (sh : Sheet) : State :=
  match s.burstAt sh with
  | none => setEngineState .idle false s sh
  | some .probe => placeListening (setRun .inFlight s sh) sh
  | some b =>
    if b.straddles then
      if (s.engine (otherSheet sh)).st = .paired && s.burstAt (otherSheet sh) = some b then
        bothSheets.foldl enterExcite s
      else setEngineState .paired false s sh
    else enterExcite s sh

/-- The engine leaves its entry for the next one of its plan, in no state yet. -/
def stepPast (s : State) (sh : Sheet) : State :=
  s.setEngine sh { idleEngine with pos := (s.engine sh).pos + 1 }

/-- The sheets whose engine is in EXCITE in `t` and was not in `s`. -/
def newlyExcited (s t : State) : List Sheet :=
  bothSheets.filter fun sh => (t.engine sh).st = .excite && (s.engine sh).st != .excite

/-- Each of the sheets' engines starts the next entry of its plan, DRIVER_TRIP not yet looked at. -/
def startNext (sheets : List Sheet) (s : State) : State :=
  sheets.foldl beginEntry (sheets.foldl stepPast s)

/-- The bursts of the sheets are abandoned as unrun, and DRIVER_TRIP is raised once (R19). -/
def tripBurst (sheets : List Sheet) (s : State) : State :=
  raiseFault .driverTrip ((sheets.foldl (setRun .unrun) s))

/-- After an abandoned burst the engines go on with their plans, unless the part has halted (R7,
R19). -/
def goOn (sheets : List Sheet) (s : State) : State :=
  if s.fts.frame = .planned then startNext sheets s else s

/-- The sheets of the one burst that an armed DRIVER_TRIP trips, of those that entered EXCITE
together; which of two is not fixed (R20). -/
def tripVictims (sheetZeroTrips : Bool) (s : State) (entered : List Sheet) : List Sheet :=
  match entered with
  | .s0 :: .s1 :: _ =>
    if (s.burstAt .s0).any (·.straddles) then bothSheets
    else if sheetZeroTrips then [.s0] else [.s1]
  | l => l

/-- The armed DRIVER_TRIP leaves the armed set. -/
def disarmTrip (s : State) : State :=
  s.setFmo { s.fmo with armed := { s.fmo.armed with driverTrip := false } }

/-- An armed DRIVER_TRIP trips a burst that entered EXCITE (R20). -/
def injectTrip (entered : List Sheet) (s : State) : State :=
  if s.fmo.armed.driverTrip && !entered.isEmpty then
    let victims := tripVictims (Config.freeTrip s.free) s entered
    goOn victims (tripBurst victims (disarmTrip s.drawFree))
  else s

/-- The sheets' engines, their bursts ended, start their next entries (R7, R20). -/
def startBursts (sheets : List Sheet) (s : State) : State :=
  let before := sheets.foldl stepPast s
  let t := sheets.foldl beginEntry before
  injectTrip (newlyExcited before t) t

/-- The engines take a new frame's plans and start their first entries (R7). -/
def startFirst (s : State) : State :=
  let before := s.setCfe { s.cfe with engine := everySheet idleEngine }
  let t := s.cfe.layout.sheets.foldl beginEntry before
  injectTrip (newlyExcited before t) t

/-! ### Results -/

/-- The record of a TIP or COLLAR burst, less the period count (R10, R13, R14). -/
def windowRecord (fired : List Sheet) (unsynced : Bool) (c : Channel) (wx wy : Nat)
    (r : Reading) : WindowRec :=
  let y := fun sh l => if sh ∈ fired then readCoils l 9 else []
  ⟨c, unsynced, wx, wy, readCoils r.x 9, ⟨y .s0 r.y.s0, y .s1 r.y.s1⟩⟩

/-- The period count of a TIP burst: absent when the ringing on the counter coil fell below the
half-threshold level of its sheet, or the count passes 65535 (R13). -/
def periodCount (s : State) (w : WindowRec) (r : Reading) : Option Nat :=
  let coil := w.wx + greatestAt w.x
  let sh := sheetOfCoil s.cfe.layout s.cfe.panel coil
  if halfLevel (sheetGet s.cfe.threshold sh) ≤ r.ringLow.toNat && r.ringTicks ≤ 65535 then
    some r.ringTicks
  else none

/-- The X coils of a band (R16). -/
def bandCoils (p : Panel) (sh : Sheet) (band : Nat) : Nat := min 16 (p.xCount sh - 16 * band)

/-- The result record of the burst on a sheet (R10, R11, R13, R14, R16). -/
def resultRecord (s : State) (sh : Sheet) (b : Burst) (r : Reading) : BurstRecord :=
  let p := s.cfe.panel
  let unsynced := (s.engine sh).unsynced
  match b with
  | .probe => .probe sh unsynced (greatest (readCoils r.x (p.xCount sh)))
  | .tip c wx wy _ =>
    let w := windowRecord (s.involved sh) unsynced c wx wy r
    .tip w (periodCount s w r)
  | .collar c wx wy _ => .collar (windowRecord (s.involved sh) unsynced c wx wy r)
  | .search c band =>
    let x := readCoils r.x (bandCoils p sh band)
    let y := readCoils (sheetGet r.y sh) p.yCount
    .search sh c unsynced band (p.xBase sh + 16 * band + greatestAt x) (greatestAt y)
      (min (greatest x) (greatest y))

/-- A PROBE record moves its sheet's noise floor and detect threshold (R11, R17). -/
def updateFloor (sh : Sheet) (amp : Nat) (s : State) : State :=
  let f := nextFloor (sheetGet s.cfe.floor sh) amp
  s.setCfe { s.cfe with
    floor := sheetSet s.cfe.floor sh f
    threshold := sheetSet s.cfe.threshold sh (thresholdOf s.bpl.active.detectMin f) }

/-- A SEARCH record whose band is the cursor's advances the cursor (R46). -/
def advanceCursor (sh : Sheet) (c : Channel) (band : Nat) (s : State) : State :=
  let cur := s.bpl.cursor.get c
  if band = sheetGet cur sh then
    let next := (band + 1) % s.cfe.panel.bands sh
    s.setBpl { s.bpl with cursor := s.bpl.cursor.set c (sheetSet cur sh next) }
  else s

/-- A record's effect outside the Pen Tracker (R17, R46). -/
def recordEffect (r : BurstRecord) (s : State) : State :=
  match r with
  | .probe sh _ amp => updateFloor sh amp s
  | .search sh c _ band _ _ _ => advanceCursor sh c band s
  | .tip _ _ => s
  | .collar _ => s

/-- A record is delivered: kept by the Pen Tracker until the close (R10). -/
def deliver (r : BurstRecord) (s : State) : State :=
  recordEffect r (s.setPtr { s.ptr with records := s.ptr.records ++ [r] })

/-! ### What a sheet drives and samples (R1, R6, R11, R13 to R16) -/

/-- The coil line of X coil 0 of a sheet (R1). -/
def xLineBase : Layout → Sheet → Nat
  | .single, _ => 0
  | .dual, .s0 => 0
  | .dual, .s1 => 160

/-- The coil line of Y coil 0 of a sheet (R1). -/
def yLineBase : Layout → Sheet → Nat
  | .single, _ => 192
  | .dual, .s0 => 96
  | .dual, .s1 => 256

/-- The excitation return pins. -/
inductive ReturnPin
  | exa
  | exb
  deriving DecidableEq, Repr

/-- The return of a sheet's excitation driver (R1). -/
def returnPin : Sheet → ReturnPin
  | .s0 => .exa
  | .s1 => .exb

/-- The tip free frequency of a channel, in kHz (R6). -/
def tipFreq : Channel → Nat
  | .c0 => 470
  | .c1 => 530
  | .c2 => 590
  | .c3 => 650

/-- The collar frequency of a channel, in kHz (R6). -/
def collarFreq : Channel → Nat
  | .c0 => 440
  | .c1 => 500
  | .c2 => 560
  | .c3 => 620

/-- The frequency of a burst's excitation; a PROBE has none (R6). -/
def Burst.freq : Burst → Option Nat
  | .probe => none
  | .tip c _ _ _ => some (tipFreq c)
  | .collar c _ _ _ => some (collarFreq c)
  | .search c _ => some (tipFreq c)

/-- What a burst listens for: a channel's tip listening band, or its collar frequency. -/
inductive Band
  | tip (c : Channel)
  | collar (c : Channel)
  deriving DecidableEq, Repr

/-- The bands a burst listens in (R11, R13, R14, R16). -/
def Burst.bands : Burst → List Band
  | .probe => Channel.all.map .tip
  | .tip c _ _ _ => [.tip c]
  | .collar c _ _ _ => [.collar c]
  | .search c _ => [.tip c]

/-- The X coils of a sheet, by their index on it, that lie in the window with lowest X coil `wx`
(R12, R15). -/
def windowCoils (layout : Layout) (p : Panel) (sh : Sheet) (wx : Nat) : List Nat :=
  (((List.range 9).map (wx + ·)).filter (sheetOfCoil layout p · = sh)).map (· - p.xBase sh)

/-- The X coils of a sheet, by their index on it, that a burst drives, where it drives, and listens
on (R11, R13 to R16). -/
def Burst.xCoils (layout : Layout) (p : Panel) (sh : Sheet) : Burst → List Nat
  | .probe => List.range (p.xCount sh)
  | .tip _ wx _ _ => windowCoils layout p sh wx
  | .collar _ wx _ _ => windowCoils layout p sh wx
  | .search _ band => (List.range (bandCoils p sh band)).map (16 * band + ·)

/-- The Y coils of a sheet that a burst listens on (R11, R13 to R16). -/
def Burst.yCoils (p : Panel) : Burst → List Nat
  | .probe => []
  | .tip _ _ wy _ => (List.range 9).map (wy + ·)
  | .collar _ _ wy _ => (List.range 9).map (wy + ·)
  | .search _ _ => List.range p.yCount

/-- The coil lines of X coils of a sheet (R1). -/
def xLines (layout : Layout) (sh : Sheet) (coils : List Nat) : List Nat :=
  coils.map (xLineBase layout sh + ·)

/-- The coil lines of Y coils of a sheet (R1). -/
def yLines (layout : Layout) (sh : Sheet) (coils : List Nat) : List Nat :=
  coils.map (yLineBase layout sh + ·)

/-- What an excitation driver drives: a frequency in kHz, over these coil lines, against its
return. -/
structure Drive where
  freq : Nat
  lines : List Nat
  ret : ReturnPin
  deriving DecidableEq, Repr

/-- What a listening samples: its bands, and its X and Y coil lines. -/
structure Sampling where
  bands : List Band
  x : List Nat
  y : List Nat
  deriving DecidableEq, Repr

/-- The burst a sheet's engine is at, where the engine is in a state; a sheet the layout does not
have has no engine (R1, R7). -/
def State.burstIn (s : State) (st : EngineState) (sh : Sheet) : Option Burst :=
  if (s.engine sh).st = st && sh ∈ s.cfe.layout.sheets then s.burstAt sh else none

/-- What a sheet's excitation driver drives: in EXCITE its burst's excitation over the sheet's own X
coils of the burst, and else nothing (R1, R6, R7, R15). -/
def State.driveOn (s : State) (sh : Sheet) : Option Drive :=
  (s.burstIn .excite sh).bind fun b => b.freq.map fun f =>
    ⟨f, xLines s.cfe.layout sh (b.xCoils s.cfe.layout s.cfe.panel sh), returnPin sh⟩

/-- What is sampled on a sheet: in LISTEN the coils its burst listens on, and else nothing (R1, R11,
R13 to R16). -/
def State.samplesOn (s : State) (sh : Sheet) : Option Sampling :=
  (s.burstIn .listen sh).map fun b =>
    ⟨b.bands, xLines s.cfe.layout sh (b.xCoils s.cfe.layout s.cfe.panel sh),
      yLines s.cfe.layout sh (b.yCoils s.cfe.panel)⟩

end Sys2Proof.Machine
end

