-- ==== Sys2Proof/Machine/BurstFamily.lean ====
section
/-! DEFINITION. Bursts: EXCITATION_END, LSYNC_EDGE, LISTEN_GUARD_END, ALIGN_TIMEOUT, BURST_COMPLETE,
DRIVER_OVERCURRENT (R7, R8, R10, R19). -/

namespace Sys2Proof.Machine

/-- A sheet's engine is in a state, RESETN being high. -/
def State.engineIn (s : State) (sh : Sheet) (st : EngineState) : Bool :=
  !s.pins.resetLow && (s.engine sh).st = st

/-- EXCITATION_END (R8): the listening of the burst is placed, for both sheets together where it
straddles. -/
def execExcitationEnd (sh : Sheet) (s : State) : Host.Outcome State Fault Refusal :=
  if s.engineIn sh .excite then done ((s.involved sh).foldl placeListening s) else noEffect s

/-- An engine waiting in ALIGN sees its LSYNC edge (R8). -/
def seeLine (e : Engine) : Engine :=
  if e.st = .align && e.since.isNone then { e with since := some 0 } else e

/-- LSYNC_EDGE (R8): an edge of the line-sync polarity ends every ALIGN wait. -/
def execLsyncEdge (p : Polarity) (s : State) : Host.Outcome State Fault Refusal :=
  if !s.pins.resetLow && p = s.fts.display.lineSync then
    done (s.setCfe { s.cfe with
      engine := ⟨seeLine s.cfe.engine.s0, seeLine s.cfe.engine.s1⟩ })
  else noEffect s

/-- The guard after the LSYNC edge has ended on a sheet (R8). -/
def State.guardDue (s : State) (sh : Sheet) : Bool :=
  s.engineIn sh .align && (s.engine sh).since.any (Config.listenGuard ≤ ·)

/-- LISTEN_GUARD_END (R8): the aligned listening starts. -/
def execListenGuardEnd (sh : Sheet) (s : State) : Host.Outcome State Fault Refusal :=
  if s.guardDue sh then done ((s.involved sh).foldl (setEngineState .listen false) s)
  else noEffect s

/-- The wait in ALIGN has reached its limit with no LSYNC edge (R8). -/
def State.alignDue (s : State) (sh : Sheet) : Bool :=
  s.engineIn sh .align && (s.engine sh).since.isNone && Config.alignLimit ≤ (s.engine sh).wait

/-- ALIGN_TIMEOUT (R8): listening starts, and the burst is marked unsynced. -/
def execAlignTimeout (sh : Sheet) (s : State) : Host.Outcome State Fault Refusal :=
  if s.alignDue sh then done ((s.involved sh).foldl (setEngineState .listen true) s)
  else noEffect s

/-- A burst completes: its record is delivered, its entry is COMPLETED, and each engine involved
starts its next entry (R7, R10). -/
def completeBurst (sh : Sheet) (b : Burst) (r : Reading) (s : State) : State :=
  let sheets := s.involved sh
  let t := deliver (resultRecord s sh b r) (sheets.foldl (setRun .completed) s)
  startBursts sheets t

/-- BURST_COMPLETE (R10). -/
def execBurstComplete (sh : Sheet) (r : Reading) (s : State) : Host.Outcome State Fault Refusal :=
  if s.engineIn sh .listen then
    match s.burstAt sh with
    | none => noEffect s
    | some b => done (completeBurst sh b r s)
  else noEffect s

/-- A burst is abandoned by overcurrent: DRIVER_TRIP once, and unless the part halts each engine
involved starts its next entry (R19). -/
def overcurrent (sh : Sheet) (s : State) : State :=
  let sheets := s.involved sh
  let t := tripBurst sheets s
  if t.fts.frame = .planned then startBursts sheets t else t

/-- DRIVER_OVERCURRENT (R19). -/
def execDriverOvercurrent (sh : Sheet) (s : State) : Host.Outcome State Fault Refusal :=
  if s.engineIn sh .excite then done (overcurrent sh s) else noEffect s

end Sys2Proof.Machine
end

