-- ==== Sys2Proof/Machine/ReceiveFamily.lean ====
section
/-! DEFINITION. Receiving: RECEIVE_BYTE, FRAMER_GAP_EXPIRY (R176 to R179). -/

namespace Sys2Proof.Machine

def State.setFramer (s : State) (f : Framer) : State := s.setLnk { s.lnk with framer := f }

/-- A received command arrives at the command buffer (R179). -/
def bufferCommand (kind tag : Byte) (payload : List Byte) (s : State) : State :=
  if Config.bufferSize ≤ s.lnk.buffer.length then raiseFault .cmdOverrun s
  else
    let unknown := !isCommandKind kind
    let t := s.setLnk { s.lnk with
      buffer := s.lnk.buffer ++ [⟨kind, tag, payload, unknown⟩] }
    if unknown then raiseFault .linkFraming t else t

/-- The CRC computed over a received frame (R175, R178). -/
def receivedCrc (f : Framer) : Half :=
  crc (BitVec.ofNat 8 f.length :: f.kind :: f.tag :: f.payload)

/-- The last CRC byte completes the frame: it is discarded on a CRC error, and is else a received
command (R178). -/
def completeFrame (low : Byte) (s : State) : State :=
  let f := s.lnk.framer
  let t := s.setFramer idleFramer
  if receivedCrc f = f.crcHigh ++ low then bufferCommand f.kind f.tag f.payload t
  else raiseFault .linkCrc t

/-- A byte in HUNT opens a frame or is discarded (R176). The fields of a frame just opened are those of
`idleFramer` until its bytes record them (log 24). -/
def huntByte (b : Byte) (f : Framer) : Framer :=
  if b = startByte then { idleFramer with st := .length, gap := some 0 } else f

/-- The LENGTH byte: over 200 it discards the frame (R176). -/
def lengthByte (b : Byte) (s : State) : State :=
  if b.toNat ≤ 200 then
    s.setFramer { s.lnk.framer with st := .kind, length := b.toNat, gap := some 0 }
  else raiseFault .linkFraming (s.setFramer idleFramer)

/-- A payload byte (R176). -/
def payloadByte (b : Byte) (f : Framer) : Framer :=
  let payload := f.payload ++ [b]
  { f with
    payload := payload
    gap := some 0
    st := if f.length ≤ payload.length then .crcHigh else .payload }

/-- The receive framer takes a byte (R176). -/
def receive (b : Byte) (s : State) : State :=
  let f := s.lnk.framer
  match f.st with
  | .hunt => s.setFramer (huntByte b f)
  | .length => lengthByte b s
  | .kind => s.setFramer { f with st := .tag, kind := b, gap := some 0 }
  | .tag =>
    s.setFramer { f with
      tag := b, payload := [], gap := some 0, st := if f.length = 0 then .crcHigh else .payload }
  | .payload => s.setFramer (payloadByte b f)
  | .crcHigh => s.setFramer { f with st := .crcLow, crcHigh := b, gap := some 0 }
  | .crcLow => completeFrame b s

/-- RECEIVE_BYTE (R176). -/
def execReceiveByte (b : Byte) (s : State) : Host.Outcome State Fault Refusal :=
  if s.pins.resetLow then noEffect s else done (receive b s)

/-- The framer's gap timer has reached its limit (R177). -/
def State.framerGapDue (s : State) : Bool :=
  !s.pins.resetLow && s.lnk.framer.gap.any (Config.framerGap ≤ ·)

/-- FRAMER_GAP_EXPIRY (R177). -/
def execFramerGapExpiry (s : State) : Host.Outcome State Fault Refusal :=
  if s.framerGapDue then done (raiseFault .linkFraming (s.setFramer idleFramer))
  else noEffect s

end Sys2Proof.Machine
end

