-- ==== Sys2Proof/Machine/Sample.lean ====
section
/-! DEFINITION. The Sample Calculator (chapter 6). Division is truncated toward zero. -/

namespace Sys2Proof.Machine

/-- clamp(v, lo, hi). -/
def clampInt (v lo hi : Int) : Int := if v < lo then lo else if hi < v then hi else v

/-! ### Position -/

/-- The offset of an interior peak (R103). -/
def interiorOffset (p below a0 above : Nat) : Int :=
  let denom : Int := 2 * (2 * a0 - below - above)
  let half : Int := p / 2
  if denom = 0 then 0 else clampInt (((p : Int) * (above - below)).tdiv denom) (-half) half

/-- The magnitude of a panel-edge peak's offset (R104). -/
def edgeOffset (p a0 neighbour : Nat) : Nat := p * neighbour / (2 * a0)

/-- The raw coordinate of a main peak at position `k` of an axis of `n` coils (R102 to R105). -/
def rawCoord (p n first : Nat) (a : List Nat) (k : Nat) : Int :=
  let coil := first + k
  let a0 := ampAt a k
  let offset : Int :=
    if coil = 0 then edgeOffset p a0 (ampAt a (k + 1))
    else if coil + 1 = n then -(edgeOffset p a0 (ampBelow a k) : Int)
    else interiorOffset p (ampBelow a k) a0 (ampAt a (k + 1))
  coil * p + offset

/-- The raw position of a window record (R105). -/
def rawPosition (layout : Layout) (p : Panel) (w : WindowRec) (pk : Peaks) : Int × Int :=
  (rawCoord p.pitch (totalX layout p) w.wx w.x pk.kx,
    rawCoord p.pitch p.yCount w.wy pk.y pk.ky)

/-- A reported coordinate (R106). -/
def reportedCoord (raw : Int) (origin extent : Nat) : Nat :=
  (clampInt (raw - origin) 0 extent).toNat

/-! ### Pressure -/

/-- Raw pressure from a valid period count (R107). -/
def rawPressure (pr : Profile) (period : Nat) : Nat :=
  if pr.pFree ≤ period then 0
  else if period ≤ pr.pFull then 4095
  else (pr.pFree - period) * 4095 / (pr.pFree - pr.pFull)

/-- One segment of a pressure curve. -/
def segment (x y x' y' raw : Nat) : Nat := y + (y' - y) * (raw - x) / (x' - x)

/-- The out value of a raw pressure through the curve (R108). -/
def outValue (curve : Option Curve) (raw : Nat) : Nat :=
  match curve with
  | none => raw
  | some c =>
    if raw = 4095 then c.y5
    else if raw < c.x1 then segment 0 c.y0 c.x1 c.y1 raw
    else if raw < c.x2 then segment c.x1 c.y1 c.x2 c.y2 raw
    else if raw < c.x3 then segment c.x2 c.y2 c.x3 c.y3 raw
    else if raw < c.x4 then segment c.x3 c.y3 c.x4 c.y4 raw
    else segment c.x4 c.y4 4095 c.y5 raw

/-- The tip state after an out value (R109). -/
def nextTip (pr : Profile) (tip : TipState) (out : Nat) : TipState :=
  if pr.on ≤ out then .down else if out < pr.off then .up else tip

/-! ### Tilt -/

/-- One bit of an integer square root, from the top: `r` grows by `2 ^ b` when its square still
does not exceed `n`. -/
def sqrtBits (n : Nat) : Nat → Nat → Nat
  | 0, r => r
  | b + 1, r => sqrtBits n b (if (r + 2 ^ b) * (r + 2 ^ b) ≤ n then r + 2 ^ b else r)

/-- The greatest integer whose square does not exceed `n`. -/
def isqrt (n : Nat) : Nat := sqrtBits n (n.log2 / 2 + 1) 0

/-- The tangent table of R115: Q[k], k = 0..12. -/
def tangents : List Nat := [0, 22, 45, 69, 93, 119, 148, 179, 215, 256, 305, 366, 443]

/-- The magnitude of a quotient below 443, from the table's segments (R115). -/
def tableAngle (q : Nat) : List Nat → Nat → Nat
  | a :: b :: rest, k =>
    if q < b then 50 * k + 50 * (q - a) / (b - a) else tableAngle q (b :: rest) (k + 1)
  | _, _ => 600

/-- The clamped quotient of an axis (R115). -/
def tiltQuotient (d : Int) (z : Nat) : Nat := min 443 (d.natAbs * 256 / z)

/-- A tilt component (R115). -/
def tiltComponent (d : Int) (z : Nat) : Int :=
  let q := tiltQuotient d z
  let m : Int := if q < 443 then tableAngle q tangents 0 else 600
  if d < 0 then -m else m

/-- The height of the collar over the tip plane, before its floor (R114). -/
def collarZ (h : Nat) (dx dy : Int) : Nat := isqrt (((h : Int) * h - (dx * dx + dy * dy)).toNat)

/-- The tilt of a collar offset (dx, dy) at height `h`, and whether it is saturated (R114, R115). -/
def tiltOf (h : Nat) (dx dy : Int) : (Int × Int) × Bool :=
  let z := collarZ h dx dy
  let used := max z (h / 2)
  ((tiltComponent dx used, tiltComponent dy used),
    z < h / 2 || tiltQuotient dx used = 443 || tiltQuotient dy used = 443)

/-! ### The full sample -/

/-- What the tracker hands to the calculator for a hit (R64): the TIP record and its peaks, the
period count, the COLLAR record where it was delivered, and its peaks where the collar is
present. -/
structure HitView where
  tip : WindowRec
  peaks : Peaks
  period : Option Nat
  collar : Option WindowRec
  collarPeaks : Option Peaks
  deriving DecidableEq, Repr

/-- A full sample (R101). -/
structure Sample where
  rawX : Int
  rawY : Int
  x : Nat
  y : Nat
  pressure : Nat
  tip : TipState
  tilt : Option (Int × Int)
  unsynced : Bool
  pressureHeld : Bool
  tiltHeld : Bool
  tiltSat : Bool
  deriving DecidableEq, Repr

/-- The out value of a sample: computed, held, or that of raw 0 (R107, R108, R111). -/
def sampleOut (pr : Profile) (sl : Slot) (period : Option Nat) : Nat :=
  match period, sl.heldPressure with
  | some p, _ => outValue pr.curve (rawPressure pr p)
  | none, some held => held
  | none, none => outValue pr.curve 0

/-- The tilt carried, whether it is held and whether it is saturated (R113 to R116). -/
def sampleTilt (layout : Layout) (panel : Panel) (pr : Profile) (sl : Slot) (v : HitView)
    (tipRaw : Int × Int) : Option (Int × Int) × Bool × Bool :=
  if pr.tilt then
    match v.collar, v.collarPeaks with
    | some c, some pk =>
      let raw := rawPosition layout panel c pk
      let t := tiltOf pr.height (raw.1 - tipRaw.1) (raw.2 - tipRaw.2)
      (some t.1, false, t.2)
    | _, _ => (sl.heldTilt, sl.heldTilt.isSome, false)
  else (none, false, false)

/-- The UNSYNCED flag (R117). -/
def sampleUnsynced (v : HitView) : Bool :=
  v.tip.unsynced || (v.collar.map (·.unsynced)).getD false

/-- The full sample of a hit (R101). -/
def fullSample (layout : Layout) (panel : Panel) (pr : Profile) (sl : Slot) (v : HitView) :
    Sample :=
  let raw := rawPosition layout panel v.tip v.peaks
  let out := sampleOut pr sl v.period
  let tip := nextTip pr sl.tip out
  let tilt := sampleTilt layout panel pr sl v raw
  { rawX := raw.1, rawY := raw.2
    x := reportedCoord raw.1 panel.originX panel.width
    y := reportedCoord raw.2 panel.originY panel.height
    pressure := if tip = .down then out else 0
    tip := tip
    tilt := tilt.1
    unsynced := sampleUnsynced v
    pressureHeld := v.period.isNone
    tiltHeld := tilt.2.1
    tiltSat := tilt.2.2 }

/-- The held state a full sample leaves in its slot (R99, R109, R112, R115, R116). The tilt held
afterwards is the tilt carried. -/
def holdSample (pr : Profile) (sl : Slot) (v : HitView) (sm : Sample) : Slot :=
  { sl with
    tip := sm.tip
    heldPressure := if v.period.isSome then some (sampleOut pr sl v.period) else sl.heldPressure
    heldTilt := sm.tilt }

end Sys2Proof.Machine
end

