-- ==== Sys2Proof/Machine/WordDecoder.lean ====
section
/-! DEFINITION. The Word Decoder (chapter 5): what one collar bit does to a word sub-record. -/

namespace Sys2Proof.Machine

/-- The newest entries of a list, at most `n` of them: a window cut from its oldest end. -/
def newest {α : Type} (n : Nat) (l : List α) : List α := l.drop (l.length - n)

/-- Step 2 and 3 of R83: the bit enters the history at the present count, and the count advances. -/
def enterBit (bit : Option Bool) (w : WordRec) : WordRec :=
  { w with
    history := newest 16 (w.history ++ [⟨bit, w.count⟩])
    count := (w.count + 1) % 8 }

/-! ### Finding the word boundary -/

/-- For each sync triple at offset `o` wholly in the history, oldest first: whether it reads known
1, 1, 0 (R85). -/
def triplesAt (o : Nat) : List HistoryEntry → List Bool
  | a :: b :: c :: rest =>
    let later := triplesAt o (b :: c :: rest)
    if a.count = o then
      (a.bit = some true && b.bit = some true && c.bit = some false) :: later
    else later
  | _ => []

/-- Offset `o` is matched: its two newest triples both read the sync pattern (R85). -/
def matchedAt (history : List HistoryEntry) (o : Nat) : Bool :=
  match (triplesAt o history).reverse with
  | true :: true :: _ => true
  | _ => false

/-- The matched offsets, lowest first. -/
def matchedOffsets (history : List HistoryEntry) : List Nat :=
  (List.range 8).filter (matchedAt history)

/-- Alignment is acquired at an offset (R86, R90). -/
def acquire (o : Nat) (w : WordRec) : WordRec :=
  { w with
    aligned := some o
    errors := []
    previous := none
    lastCycle := none
    cycle := none
    mimic := false
    realigned := w.realigned || match w.lost with
      | some l => l != o
      | none => false }

/-- The alignment search of an UNALIGNED sub-record (R86, R87). -/
def searchAlignment (ws : WordSettings) (w : WordRec) : WordRec :=
  match matchedOffsets w.history with
  | [] => { w with mimic := false }
  | [o] => acquire o w
  | o :: _ :: _ => if ws.strict then { w with mimic := true } else acquire o w

/-! ### Words while aligned -/

/-- The bits of a word, all known; absent when one is unknown (R88). -/
def allKnown : List (Option Bool) → Option (List Bool)
  | [] => some []
  | some b :: rest => (allKnown rest).map (b :: ·)
  | none :: _ => none

/-- The word a bit completes: the eight newest history entries, as word positions 0 to 7 (R88). -/
def newestWord (w : WordRec) : List (Option Bool) := (newest 8 w.history).map (·.bit)

/-- The sync positions read 1, 1, 0 (R88). -/
def cleanWord : List (Option Bool) → Bool
  | some true :: some true :: some false :: _ => true
  | _ => false

/-- What a usable word carries: buttons and tail, ID bit and marker (R81). -/
structure UsableWord where
  buttons : Buttons
  idBit : Bool
  marker : Bool
  deriving DecidableEq, Repr

/-- A word that is complete and clean is usable (R88). -/
def usableWord (word : List (Option Bool)) : Option UsableWord :=
  if cleanWord word then
    match allKnown word with
    | some [_, _, _, b1, b2, tail, idBit, marker] => some ⟨⟨b1, b2, tail⟩, idBit, marker⟩
    | _ => none
  else none

/-- The judgement enters the sync-error window, cut to the active length (R88). -/
def judgeWord (ws : WordSettings) (word : List (Option Bool)) (w : WordRec) : WordRec :=
  { w with errors := newest ws.window (w.errors ++ [!cleanWord word]) }

/-- Buttons and tail at a word completion (R91). -/
def feedButtons (ws : WordSettings) (u : Option UsableWord) (w : WordRec) : WordRec :=
  match u with
  | none => { w with previous := none }
  | some u =>
    { w with
      buttons := if ws.debounce && w.previous != some u.buttons then w.buttons
        else some u.buttons
      previous := some u.buttons }

/-- The value of sixteen ID bits, most significant first (R92). -/
def idValue (bits : List Bool) : Nat := bits.foldl (fun v b => 2 * v + b.toNat) 0

/-- A cycle completes with a value; answers the sub-record and the validated tool ID (R93). -/
def completeCycle (ws : WordSettings) (v : Nat) (w : WordRec) : WordRec × Option Nat :=
  let w := { w with cycle := none }
  if v = 0 then ({ w with lastCycle := none }, none)
  else ({ w with lastCycle := some v },
    if ws.debounce && w.lastCycle != some v then none else some v)

/-- ID cycle assembly at a word completion (R92). -/
def feedCycle (ws : WordSettings) (u : Option UsableWord) (w : WordRec) : WordRec × Option Nat :=
  match u, w.cycle with
  | none, _ => ({ w with cycle := none, lastCycle := none }, none)
  | some u, none =>
    if u.marker then ({ w with cycle := some [u.idBit] }, none)
    else ({ w with lastCycle := none }, none)
  | some u, some bits =>
    if u.marker then ({ w with cycle := some [u.idBit], lastCycle := none }, none)
    else
      let bits := bits ++ [u.idBit]
      if bits.length = 16 then completeCycle ws (idValue bits) w
      else ({ w with cycle := some bits }, none)

/-- Alignment is lost (R89). -/
def loseAlignment (w : WordRec) : WordRec :=
  { w with
    lost := w.aligned
    aligned := none
    errors := []
    buttons := none
    previous := none
    cycle := none
    lastCycle := none }

/-- A word is completed: it is judged, feeds buttons and ID, and alignment may be lost (R88 to
R93). -/
def completeWord (ws : WordSettings) (w : WordRec) : WordRec × Option Nat :=
  let word := newestWord w
  let u := usableWord word
  let r := feedCycle ws u (feedButtons ws u (judgeWord ws word w))
  if 2 ≤ r.1.errors.count true then (loseAlignment r.1, r.2) else r

/-- One collar bit, after any COLLAR_FLIP (R83): the new sub-record and the tool ID validated. -/
def decodeBit (ws : WordSettings) (bit : Option Bool) (w : WordRec) : WordRec × Option Nat :=
  let w' := enterBit bit w
  match w.aligned with
  | none => (searchAlignment ws w', none)
  | some o => if w.count = (o + 7) % 8 then completeWord ws w' else (w', none)

end Sys2Proof.Machine
end

