-- ==== Sys2Proof/Machine/Tracker.lean ====
section
/-! DEFINITION. The Pen Tracker at a frame close (chapter 4, R57 to R73): one slot at a time. -/

namespace Sys2Proof.Machine

/-! ### Reading the records -/

/-- The TIP record of a channel, with its period count. -/
def tipRecord (c : Channel) : List BurstRecord → Option (WindowRec × Option Nat)
  | [] => none
  | .tip w p :: rest => if w.ch = c then some (w, p) else tipRecord c rest
  | _ :: rest => tipRecord c rest

/-- The COLLAR record of a channel. -/
def collarRecord (c : Channel) : List BurstRecord → Option WindowRec
  | [] => none
  | .collar w :: rest => if w.ch = c then some w else collarRecord c rest
  | _ :: rest => collarRecord c rest

/-- A search candidate: its sheet, peak coils and amplitude (R65). -/
structure Candidate where
  sheet : Sheet
  peakX : Nat
  peakY : Nat
  amp : Nat
  deriving DecidableEq, Repr

/-- The candidates of a channel on a sheet, in plan order (R10, R65). -/
def candidatesOn (c : Channel) (threshold : PerSheet Nat) (sh : Sheet) :
    List BurstRecord → List Candidate
  | [] => []
  | .search t d _ _ px py a :: rest =>
    if t = sh && d = c && sheetGet threshold t ≤ a then
      ⟨t, px, py, a⟩ :: candidatesOn c threshold sh rest
    else candidatesOn c threshold sh rest
  | _ :: rest => candidatesOn c threshold sh rest

/-- The stronger of two candidates, the earlier one on a tie (R65). -/
def stronger (best : Option Candidate) (k : Candidate) : Option Candidate :=
  match best with
  | none => some k
  | some b => if b.amp < k.amp then some k else some b

/-- The candidate taken: the strongest, sheet 0 before sheet 1 and the lower plan position first
among equals (R65). -/
def bestCandidate (c : Channel) (threshold : PerSheet Nat) (recs : List BurstRecord) :
    Option Candidate :=
  (candidatesOn c threshold .s0 recs ++ candidatesOn c threshold .s1 recs).foldl stronger none

/-! ### From search to confirmation -/

/-- A SEARCH slot enters CONFIRM at a candidate (R65). -/
def confirmCandidate (pitch : Nat) (k : Candidate) (sl : Slot) : Slot :=
  { sl with
    state := .confirm
    centreX := k.peakX
    centreY := k.peakY
    lastX := (k.peakX * pitch : Nat)
    lastY := (k.peakY * pitch : Nat)
    confirm := 0
    misses := []
    pendingRel := none
    word := some newWord }

/-- The close of a SEARCH slot (R65). -/
def closeSearch (c : Channel) (s : State) : State :=
  match bestCandidate c s.cfe.threshold s.ptr.records with
  | none => s
  | some k => s.setSlot c (confirmCandidate s.cfe.panel.pitch k (s.slot c))

/-! ### Classification and the collar bit -/

/-- The TIP record shows a hit on its amplitudes: its main peaks (R57, R60). -/
def hitPeaks (s : State) (sl : Slot) (w : WindowRec) : Option Peaks :=
  (findPeaks s.cfe.layout s.cfe.panel sl.centreX sl.centreY w).filter
    (peaksReach s.cfe.threshold w)

/-- The half-threshold levels of the sheets (R18). -/
def halfLevels (s : State) : PerSheet Nat :=
  ⟨halfLevel s.cfe.threshold.s0, halfLevel s.cfe.threshold.s1⟩

/-- The peaks of a present collar (R18). -/
def collarPeaks (s : State) (sl : Slot) (w : WindowRec) : Option Peaks :=
  (findPeaks s.cfe.layout s.cfe.panel sl.centreX sl.centreY w).filter
    (peaksReach (halfLevels s) w)

/-- An armed TIP_MISS of the channel is consumed (R61, R168). -/
def disarmTipMiss (c : Channel) (s : State) : State :=
  s.setFmo { s.fmo with
    armed := { s.fmo.armed with tipMiss := s.fmo.armed.tipMiss.set c false } }

/-- An armed COLLAR_FLIP of the channel is consumed (R84, R168). -/
def disarmCollarFlip (c : Channel) (s : State) : State :=
  s.setFmo { s.fmo with
    armed := { s.fmo.armed with collarFlip := s.fmo.armed.collarFlip.set c false } }

/-- What the hit record shows, for the calculator (R64). -/
def viewHit (s : State) (sl : Slot) (w : WindowRec) (period : Option Nat) (pk : Peaks)
    (collar : Option WindowRec) : HitView :=
  ⟨w, pk, period, collar, collar.bind (collarPeaks s sl)⟩

/-- The classification of a delivered TIP record: a hit's view, or absent for a miss; an armed
TIP_MISS makes it a miss (R60, R61). -/
def classifyTip (c : Channel) (s : State) (w : WindowRec) (period : Option Nat) :
    Option HitView :=
  if s.fmo.armed.tipMiss.get c then none
  else
    let sl := s.slot c
    (hitPeaks s sl w).map fun pk =>
      viewHit s sl w period pk (collarRecord c s.ptr.records)

/-- The collar bit of a frame that is not skipped (R62). -/
def collarBit (v : Option HitView) : Option Bool :=
  match v with
  | none => none
  | some v => v.collar.map fun _ => v.collarPeaks.isSome

/-- Either axis of a hit's TIP record holds a twin (R58). -/
def twinSeen (threshold : PerSheet Nat) (v : HitView) : Bool :=
  let t := sheetGet threshold v.peaks.sheet
  hasTwin t v.tip.x v.peaks.kx || hasTwin t v.peaks.y v.peaks.ky

/-- The bit after an armed COLLAR_FLIP, which a known bit consumes (R84). -/
def flipBit (armed : Bool) (bit : Option Bool) : Option Bool := bit.map fun b => b != armed

/-- The bit is handed to the Word Decoder: the state after it and the tool ID it validates (R83,
R84). -/
def handBit (c : Channel) (bit : Option Bool) (s : State) : State × Option Nat :=
  let sl := s.slot c
  match sl.word with
  | none => (s, none)
  | some w =>
    let armed := s.fmo.armed.collarFlip.get c
    let r := decodeBit s.wdc (flipBit armed bit) w
    let t := if armed && bit.isSome then disarmCollarFlip c s else s
    (t.setSlot c { sl with word := some r.1 }, r.2)

/-- A validated tool ID that is new to the slot rebinds it, PROFILE_MISS being raised where no record
holds it; answers whether a TOOL is due (R63, R94). -/
def takeTool (c : Channel) (validated : Option Nat) (s : State) : State × Bool :=
  let sl := s.slot c
  match validated with
  | none => (s, false)
  | some id =>
    if sl.toolId = some id then (s, false)
    else
      let b := boundOf s.ptb (some id)
      let t := s.setSlot c { sl with toolId := some id, bound := b }
      (if b.isNone then recordFault .profileMiss t else t, true)

/-! ### Reports -/

/-- The MOTION is handed to the Report Queue; a drop raises QUEUE_DROP (R73, R138). -/
def handMotion (m : Motion) (s : State) : State :=
  let r := s.rqu.handMotion m
  let t := s.setRqu r.1
  if r.2 then recordFault .queueDrop t else t

/-- A due TOOL is handed (R63, R72). -/
def handDueTool (due : Bool) (c : Channel) (s : State) : State :=
  match due, (s.slot c).toolId with
  | true, some id => s.modRqu (·.handTool c id (s.slot c).bound)
  | _, _ => s

/-- REALIGNED pending of a slot (R90). -/
def realignedPending (sl : Slot) : Bool := (sl.word.map (·.realigned)).getD false

/-- The MOTION of a sample (R73). -/
def motionOf (c : Channel) (frame : Half) (sl : Slot) (sm : Sample) (twin relocated : Bool) :
    Motion :=
  { ch := c, frame := frame, x := sm.x, y := sm.y, pressure := sm.pressure, tip := sm.tip
    tilt := sm.tilt, buttons := sl.word.bind (·.buttons), toolId := sl.toolId
    flags :=
      { unsynced := sm.unsynced, pressureHeld := sm.pressureHeld, tiltHeld := sm.tiltHeld
        tiltSat := sm.tiltSat, twin := twin, relocated := relocated
        realigned := realignedPending sl }
    coalesced := 0, gapMark := false }

/-- The slot once its sample has been handed: the raw position is its last position, and REALIGNED
is no longer pending (R73, R90). -/
def reportedSlot (sm : Sample) (sl : Slot) : Slot :=
  { sl with
    lastX := sm.rawX
    lastY := sm.rawY
    word := sl.word.map fun w => { w with realigned := false } }

/-- A slot's sample is handed as a MOTION (R73). -/
def reportSample (c : Channel) (sm : Sample) (twin relocated : Bool) (s : State) : State :=
  let sl := s.slot c
  handMotion (motionOf c s.fts.frameNo sl sm twin relocated)
    (s.setSlot c (reportedSlot sm sl))

/-! ### Tracking -/

/-- Chebyshev distance of two raw positions (R66). -/
def rawDist (a b : Int × Int) : Nat := max (a.1 - b.1).natAbs (a.2 - b.2).natAbs

/-- What a frame that is not skipped brings a slot in TRACK: the entries it makes in the miss window,
whether its sample is reported and then with RELOCATED, and the pending relocation after it. -/
structure Resolution where
  entries : List Bool
  report : Option Bool
  pendingRel : Option Relocation
  deriving DecidableEq, Repr

/-- The tables of R67, R69 and R70; `hit` is the raw position of a hit. -/
def resolve (jump : Nat) (frame : Half) (last : Int × Int) (pendingRel : Option Relocation)
    (hit : Option (Int × Int)) : Resolution :=
  match hit, pendingRel with
  | some raw, none =>
    if rawDist raw last ≤ jump then ⟨[false], some false, none⟩
    else ⟨[], none, some ⟨raw.1, raw.2, frame⟩⟩
  | some raw, some p =>
    if rawDist raw (p.x, p.y) ≤ jump then ⟨[false, false], some true, none⟩
    else if rawDist raw last ≤ jump then ⟨[true, false], some false, none⟩
    else ⟨[true], none, some ⟨raw.1, raw.2, frame⟩⟩
  | none, none => ⟨[true], none, none⟩
  | none, some _ => ⟨[true, true], none, none⟩

/-- A close's entries join the miss window, which is then cut to the active length; a close that
enters nothing leaves it (R68). -/
def enterOutcomes (n : Nat) (entries misses : List Bool) : List Bool :=
  if entries.isEmpty then misses else newest n (misses ++ entries)

/-- The loss test after a close's entries; a close that enters nothing makes none (R68). -/
def lostBy (limit : Nat) (entries misses : List Bool) : Bool :=
  !entries.isEmpty && limit ≤ misses.count true

/-- A slot in TRACK whose frame was not skipped: `sm` is its hit's sample (R67 to R70). DEDUCED (log
12): a slot the test loses queues no MOTION, and its due TOOL is dropped. -/
def closeTrack (c : Channel) (sm : Option Sample) (twin due : Bool) (s : State) : State :=
  let sl := s.slot c
  let r := resolve s.bpl.active.jump s.fts.frameNo (sl.lastX, sl.lastY) sl.pendingRel
    (sm.map fun m => (m.rawX, m.rawY))
  let misses := enterOutcomes s.bpl.active.missWindow r.entries sl.misses
  let t := s.setSlot c { sl with misses := misses, pendingRel := r.pendingRel }
  if lostBy s.bpl.active.missLimit r.entries misses then endProximity c .search t
  else
    let t := handDueTool due c t
    match sm, r.report with
    | some m, some relocated => reportSample c m twin relocated t
    | _, _ => t

/-- A slot returns from CONFIRM to SEARCH (R66). -/
def dropConfirm (sl : Slot) : Slot := { sl with state := .search, word := none }

/-- The window centre moves to a hit's main peaks (R60). -/
def recentre (pk : Peaks) (sl : Slot) : Slot :=
  { sl with centreX := pk.coilX, centreY := pk.coilY }

/-- The slot's profile record (R128). -/
def slotProfile (s : State) (c : Channel) : Profile := boundProfile s.ptb c (s.slot c).bound

/-- A slot's full sample is computed, its held state moving with it (R64, R99). -/
def sampleSlot (c : Channel) (v : HitView) (s : State) : State × Sample :=
  let sl := s.slot c
  let pr := slotProfile s c
  let sm := fullSample s.cfe.layout s.cfe.panel pr sl v
  (s.setSlot c (holdSample pr sl v sm), sm)

/-- The proximity a completed confirmation begins (R64, R66). -/
def beginProximity (sl : Slot) : Slot :=
  { sl with state := .track, misses := [false], tip := .up, heldPressure := none,
            heldTilt := none }

/-- Confirmation completes: the full sample, then IN, any due TOOL, and the MOTION (R66, R72). -/
def enterTrack (c : Channel) (v : HitView) (twin due : Bool) (s : State) : State :=
  let r := sampleSlot c v (s.setSlot c (beginProximity (s.slot c)))
  let t := r.1.setSlot c { r.1.slot c with prox := true }
  reportSample c r.2 twin false (handDueTool due c (t.modRqu (·.handIn c)))

/-- A hit of a slot in CONFIRM (R66). -/
def closeConfirm (c : Channel) (v : HitView) (twin due : Bool) (s : State) : State :=
  let sl := s.slot c
  let raw := rawPosition s.cfe.layout s.cfe.panel v.tip v.peaks
  if rawDist raw (sl.lastX, sl.lastY) ≤ s.bpl.active.jump then
    let t := s.setSlot c { sl with confirm := sl.confirm + 1, lastX := raw.1, lastY := raw.2 }
    if s.bpl.active.confirm ≤ sl.confirm + 1 then enterTrack c v twin due t else t
  else s.setSlot c (dropConfirm sl)

/-- Steps 4 and 5 of a hit (R64 to R70). -/
def closeHit (c : Channel) (v : HitView) (twin due : Bool) (s : State) : State :=
  let s := s.setSlot c (recentre v.peaks (s.slot c))
  match (s.slot c).state with
  | .track =>
    let r := sampleSlot c v s
    closeTrack c (some r.2) twin due r.1
  | .confirm => closeConfirm c v twin due s
  | _ => s

/-- Steps 4 and 5 of a miss (R66, R68, R70). -/
def closeMiss (c : Channel) (due : Bool) (s : State) : State :=
  match (s.slot c).state with
  | .track => closeTrack c none false due s
  | .confirm => s.setSlot c (dropConfirm (s.slot c))
  | _ => s

/-- A delivered TIP record of a slot in CONFIRM or TRACK, through steps 1 to 5 (R59 to R64). DESIGN
CHOICE (log 23): TWIN is raised after the classification and before the collar bit is handed, so before
a PROFILE_MISS of the slot; R58 and R59 give it no step. -/
def closePen (c : Channel) (w : WindowRec) (period : Option Nat) (s : State) : State :=
  let v := classifyTip c s w period
  let twin := v.any (twinSeen s.cfe.threshold)
  let s := disarmTipMiss c s
  let s := if twin then recordFault .twin s else s
  let b := handBit c (collarBit v) s
  let d := takeTool c b.2 b.1
  match v with
  | some v => closeHit c v twin d.2 d.1
  | none => closeMiss c d.2 d.1

/-- The close of a slot in CONFIRM or TRACK: skipped without a TIP record (R60). -/
def closeActive (c : Channel) (s : State) : State :=
  match tipRecord c s.ptr.records with
  | none => s
  | some (w, period) => closePen c w period s

/-- One slot at a frame close (R59). -/
def closeSlot (s : State) (c : Channel) : State :=
  match (s.slot c).state with
  | .idle => s
  | .search => closeSearch c s
  | .confirm => closeActive c s
  | .track => closeActive c s

/-- The Pen Tracker's processing of a close: slots 0..3 in order (R59). -/
def closeSlots (s : State) : State := Channel.all.foldl closeSlot s

end Sys2Proof.Machine
end

