-- ==== Sys2Proof/Machine/Boundary.lean ====
section
/-! DEFINITION. Frame boundaries (R22 to R26, R37, R159): the close of a frame and the open of the
next. -/

namespace Sys2Proof.Machine

/-- The frame timer takes the latch and counts from 0 (R22, R23). -/
def reloadTimer (s : State) : State :=
  s.setFts { s.fts with period := s.fts.latch, timerOn := true, timer := 0 }

/-- A frame opens, as the scan state decides (R24, R25). -/
def openFrame (s : State) : State :=
  match s.fts.scan with
  | .stopped => s
  | .halted => s.setFts { s.fts with frame := .planless, age := 0 }
  | .running =>
    let s := s.setFts { s.fts with frameNo := s.fts.frameNo + 1, frame := .planned, age := 0 }
    startFirst (buildPlans (takeUp s))

/-- An entry that a boundary leaves unrun: PLANNED or IN_FLIGHT (R26). -/
def PlanEntry.cut (e : PlanEntry) : Bool := e.run = .planned || e.run = .inFlight

/-- The boundary leaves a planned burst of the frame unrun (R26). -/
def frameCut (s : State) : Bool :=
  s.fts.frame = .planned && (s.bpl.plan.s0.any PlanEntry.cut || s.bpl.plan.s1.any PlanEntry.cut)

/-- Every entry not completed becomes UNRUN, and the engines go to IDLE (R9, R48). -/
def abandonBursts (s : State) : State :=
  let unrun := fun e : PlanEntry => if e.run = .completed then e else { e with run := .unrun }
  let s := s.setCfe { s.cfe with engine := everySheet idleEngine }
  s.setBpl { s.bpl with plan := ⟨s.bpl.plan.s0.map unrun, s.bpl.plan.s1.map unrun⟩ }

/-- The processing of a close (R59), with the ALERT it may have placed standing anywhere among its
reports (R133). `hadAlert` says that an ALERT was unsent before the close. -/
def processClose (hadAlert : Bool) (s : State) : State :=
  let t := closeSlots (s.modRqu fun r => { r with fresh := some 0 })
  t.drawFree.modRqu (settleAlert hadAlert (Config.freeAlertPlace s.free))

/-- A pending stop request is carried out (R37, R77). -/
def carryOutStop (s : State) : State :=
  if s.fts.scan = .running && s.fts.stopReq then clearForStop (stopScanning s) else s

/-- After a close's processing, the deferred look at the halting condition and the pending stop; with
both there, which comes first is not fixed (R37, R38, R159). -/
def settleClose (s : State) : State :=
  if s.fmo.halting && s.fts.scan = .running && s.fts.stopReq then
    let t := s.drawFree
    if Config.freeStopFirst s.free then carryOutStop t else haltIfHeld t
  else carryOutStop (haltIfHeld s)

/-- The frame is handed to the Pen Tracker: it was opened with plans, none were discarded since, and
the scan state is still RUNNING (R24). -/
def handedOver (s : State) : Bool := s.fts.frame = .planned && s.fts.scan = .running

/-- The close of the current frame (R24, R26, R48). -/
def closeFrame (s : State) : State :=
  let hadAlert := s.rqu.queue.contains .alert
  let cut := frameCut s
  let s := abandonBursts s
  let s := if cut then raiseFault .frameCut s else s
  if handedOver s then settleClose (discardFrame (processClose hadAlert s))
  else carryOutStop (discardFrame s)

/-- A frame boundary: the close, and where scanning goes on the timer's reload and the open (R23,
R24). DESIGN CHOICE (log 19): the boundary that carries out a stop reloads nothing, so the active frame
period stays; R22 and R23 speak of a reload at each boundary, R37 of a timer that stops. -/
def boundary (s : State) : State :=
  let t := closeFrame s
  if t.fts.scan = .stopped then t else openFrame (reloadTimer t)

end Sys2Proof.Machine
end

