-- ==== Sys2Proof/Machine/SetupCommands.lean ====
section
/-! DEFINITION. The commands that identify, reset and set up the part: UNKNOWN_COMMAND, QUERY_ID,
RESET, SET_LAYOUT, SET_PANEL, SET_SCAN, SET_DISPLAY, SET_WORD, CHANNELS. -/

namespace Sys2Proof.Machine

/-- v lies within lo..hi, both ends included. -/
def within (v lo hi : Nat) : Bool := lo ≤ v && v ≤ hi

/-- UNKNOWN_COMMAND: refused with BAD_KIND, the reply carrying the received KIND (R181). -/
def execUnknownCommand (s : State) : Host.Outcome State Fault Refusal :=
  match takeCommand none s with
  | none => noEffect s
  | some (c, s) =>
    done (addReply ⟨unknownReplyCode, c.tag, u8 Status.badKind.code ++ [c.kind], false⟩ s)

/-- The body of a QUERY_ID reply (R184, R194). -/
def queryIdBody (s : State) : List Byte :=
  u16 Config.familyCode ++ u8 Config.revision ++ u8 s.cfe.layout.code ++ u8 s.cfe.fixed.toNat
    ++ u8 s.pins.strapLayout.code ++ u8 s.pins.linkFast.toNat ++ u8 s.pins.cause.code
    ++ u8 s.fts.scan.code ++ u8 s.fts.stopReq.toNat

/-- QUERY_ID's own rule (R184). -/
def queryIdRule (_ : List Byte) (s : State) : Answer := accept s (queryIdBody s)

/-- QUERY_ID (R184). -/
def execQueryId (s : State) : Host.Outcome State Fault Refusal :=
  runCommand .queryId queryIdRule s

/-- RESET (R187): the OK reply is placed and the CPR takes nothing more; the command reset follows
once that reply has left TXD. -/
def execReset (s : State) : Host.Outcome State Fault Refusal :=
  match takeCommand (some .reset) s with
  | none => noEffect s
  | some (c, s) =>
    if c.payload.length = CommandKind.length .reset then
      done ((addReply ⟨CommandKind.replyCode .reset, c.tag, u8 Status.ok.code, true⟩ s).setCpr
        .resetWaits)
    else
      done (addReply ⟨CommandKind.replyCode .reset, c.tag, u8 Status.badLength.code, false⟩ s)

/-- Every search cursor of every channel goes to band 0 (R2, R4, R47). -/
def restartAll (s : State) : State :=
  s.setBpl { s.bpl with cursor := everyChannel (everySheet 0) }

/-- The rotation pointers after a SET_LAYOUT: a sheet 1 brought into being begins at channel 3
(R44, R47). -/
def rotationFor (held named : Layout) (r : PerSheet Channel) : PerSheet Channel :=
  if held = .single && named = .dual then { r with s1 := .c3 } else r

/-- SET_LAYOUT accepted (R2). -/
def applyLayout (l : Layout) (s : State) : State :=
  let rotation := rotationFor s.cfe.layout l s.bpl.rotation
  let s := s.setCfe { s.cfe with
    layout := l, fixed := true, panel := defaultPanel l, floor := everySheet 0 }
  restartAll ((recomputeThresholds s).setBpl { s.bpl with rotation := rotation })

/-- SET_LAYOUT's own rule (R2, R185). -/
def setLayoutRule (p : List Byte) (s : State) : Answer :=
  if s.cfe.fixed then refuse .wrongState s
  else
    match layoutOf (u8At p 0) with
    | none => refuse .badValue s
    | some l => accept (applyLayout l s) (u8 l.code)

/-- SET_LAYOUT (R2, R185). -/
def execSetLayout (s : State) : Host.Outcome State Fault Refusal :=
  runCommand .setLayout setLayoutRule s

/-- The panel geometry a SET_PANEL carries (R193). -/
def panelOf (p : List Byte) : Panel :=
  { n0 := u8At p 0, n1 := u8At p 1, yCount := u8At p 2, pitch := u16At p 3
    originX := u32At p 5, originY := u32At p 9, width := u32At p 13, height := u32At p 17 }

/-- Every field lies in its range under a layout (R4). -/
def panelFits (l : Layout) (g : Panel) : Bool :=
  let counts := match l with
    | .single => within g.n0 9 192 && g.n1 = 0 && within g.yCount 9 128
    | .dual => within g.n0 9 96 && within g.n1 9 96 && within g.yCount 9 64
  counts && within g.pitch 400 800 && within g.originX 0 153600 && within g.originY 0 153600
    && within g.width 1 153600 && within g.height 1 153600

/-- SET_PANEL's own rule (R4). -/
def setPanelRule (p : List Byte) (s : State) : Answer :=
  if s.fts.scan = .stopped then
    if panelFits s.cfe.layout (panelOf p) then
      accept (restartAll (s.setCfe { s.cfe with panel := panelOf p })) []
    else refuse .badValue s
  else refuse .wrongState s

/-- SET_PANEL (R4). -/
def execSetPanel (s : State) : Host.Outcome State Fault Refusal :=
  runCommand .setPanel setPanelRule s

/-- The effective frame a staged command's reply carries (R25, R52). -/
def effectiveFrame (s : State) : List Byte := u16 (s.fts.frameNo + 1).toNat

/-- The scan settings a SET_SCAN carries, less the frame period (R193). -/
def scanOf (p : List Byte) : ScanSettings :=
  { detectMin := u16At p 2, confirm := u8At p 4, missWindow := u8At p 5, missLimit := u8At p 6
    jump := u16At p 7, edgeReload := bitOf (u8At p 9) 0, align := bitOf (u8At p 9) 1 }

/-- Every field of a SET_SCAN lies in its range, and its option byte sets no other bit (R49,
R193). -/
def scanFits (p : List Byte) : Bool :=
  let r := scanOf p
  within (u16At p 0) 2400 10000 && within r.detectMin 64 65535 && within r.confirm 2 3
    && within r.missWindow 4 8 && within r.missLimit 2 3 && within r.jump 500 50000
    && u8At p 9 < 4

/-- SET_SCAN's own rule: the frame period goes into the latch at once, the rest is staged (R22,
R49). -/
def setScanRule (p : List Byte) (s : State) : Answer :=
  if scanFits p then
    let s := s.setFts { s.fts with latch := u16At p 0 }
    let s := s.setBpl { s.bpl with staged := { s.bpl.staged with scan := some (scanOf p) } }
    accept s (effectiveFrame s)
  else refuse .badValue s

/-- SET_SCAN (R49). -/
def execSetScan (s : State) : Host.Outcome State Fault Refusal :=
  runCommand .setScan setScanRule s

/-- The polarity a bit selects (R193). -/
def polarityOf (b : Bool) : Polarity := if b then .falling else .rising

/-- The display settings a SET_DISPLAY carries (R193). -/
def displayOf (p : List Byte) : Display :=
  ⟨u16At p 0, u16At p 2, polarityOf (bitOf (u8At p 4) 0), polarityOf (bitOf (u8At p 4) 1)⟩

/-- Every field of a SET_DISPLAY lies in its range (R28, R193). -/
def displayFits (p : List Byte) : Bool :=
  within (u16At p 0) 6000 32000 && within (u16At p 2) 10 2000 && u8At p 4 < 4

/-- The lock monitor in UNLOCKED, with nothing known (R30). -/
def unlockSync (f : Fts) : Fts :=
  { f with lock := .unlocked, capture := none, gap := none, acq := none,
           timeoutRaised := false, consec := 0, history := [] }

/-- SET_DISPLAY's own rule (R28). -/
def setDisplayRule (p : List Byte) (s : State) : Answer :=
  if displayFits p then
    accept (s.setFts { unlockSync s.fts with display := displayOf p }) []
  else refuse .badValue s

/-- SET_DISPLAY (R28). -/
def execSetDisplay (s : State) : Host.Outcome State Fault Refusal :=
  runCommand .setDisplay setDisplayRule s

/-- The word settings a SET_WORD carries; absent when a field is out of range (R95, R193). -/
def wordSettingsOf (p : List Byte) : Option WordSettings :=
  match switchOf (u8At p 0), switchOf (u8At p 2) with
  | some strict, some debounce =>
    if within (u8At p 1) 4 6 then some ⟨strict, u8At p 1, debounce⟩ else none
  | _, _ => none

/-- SET_WORD's own rule (R95). -/
def setWordRule (p : List Byte) (s : State) : Answer :=
  match wordSettingsOf p with
  | none => refuse .badValue s
  | some r =>
    let s := s.setBpl { s.bpl with staged := { s.bpl.staged with word := some r } }
    accept s (effectiveFrame s)

/-- SET_WORD (R95). -/
def execSetWord (s : State) : Host.Outcome State Fault Refusal :=
  runCommand .setWord setWordRule s

/-- CHANNELS' own rule (R76). -/
def channelsRule (p : List Byte) (s : State) : Answer :=
  match channelSetOf (u8At p 0) with
  | none => refuse .badValue s
  | some set =>
    let s := s.setBpl { s.bpl with staged := { s.bpl.staged with enable := some set } }
    accept s (effectiveFrame s)

/-- CHANNELS (R76). -/
def execChannels (s : State) : Host.Outcome State Fault Refusal :=
  runCommand .channels channelsRule s

end Sys2Proof.Machine
end

