-- ==== Sys2Proof/Machine/SyncFamily.lean ====
section
/-! DEFINITION. Frames and display sync: FRAME_TIMER_EXPIRY, FSYNC_EDGE, SYNC_GAP_TIMER_EXPIRY,
LOCK_TIMER_EXPIRY, ACQUISITION_TIMEOUT (R23, R27 to R33). -/

namespace Sys2Proof.Machine

/-- The frame timer has reached the active frame period (R23). -/
def State.frameDue (s : State) : Bool :=
  !s.pins.resetLow && s.fts.timerOn && s.fts.period ≤ s.fts.timer

/-- FRAME_TIMER_EXPIRY (R23). -/
def execFrameTimerExpiry (s : State) : Host.Outcome State Fault Refusal :=
  if s.frameDue then done (boundary s) else noEffect s

/-! ### The lock monitor's judgement of an edge -/

/-- The interval from an earlier capture lies in tolerance (R29). -/
def inTolerance (f : Fts) (earlier : Half) : Bool :=
  let i := (f.timebase - earlier).toNat
  f.display.period ≤ i + f.display.tolerance && i ≤ f.display.period + f.display.tolerance

/-- The present edge becomes the earlier capture, and the gap timer restarts (R29). -/
def captureEdge (f : Fts) : Fts := { f with capture := some f.timebase, gap := some 0 }

/-- An edge in UNLOCKED begins an acquisition attempt (R30). -/
def beginAttempt (f : Fts) : Fts :=
  { captureEdge f with lock := .acquiring, consec := 0, acq := some 0, timeoutRaised := false }

/-- Lock is gained: the history holds the three intervals that made it (R31). -/
def gainLock (f : Fts) : Fts :=
  { f with lock := .locked, consec := 0, acq := none, timeoutRaised := false,
           history := [true, true, true] }

/-- An edge in ACQUIRING (R31). -/
def judgeAcquiring (f : Fts) : Fts :=
  let g := captureEdge f
  match f.capture with
  | none => g
  | some earlier =>
    if inTolerance f earlier then
      if 3 ≤ f.consec + 1 then gainLock g else { g with consec := f.consec + 1 }
    else { g with consec := 0 }

/-- An edge in LOCKED; it may lose the lock (R32). -/
def judgeLocked (f : Fts) : Fts :=
  let history := match f.capture with
    | none => f.history
    | some earlier => newest 4 (f.history ++ [inTolerance f earlier])
  if 2 ≤ history.count false then unlockSync f
  else { captureEdge f with history := history }

/-- The lock monitor judges a captured edge in its current state (R27). -/
def judgeEdge (f : Fts) : Fts :=
  match f.lock with
  | .unlocked => beginAttempt f
  | .acquiring => judgeAcquiring f
  | .locked => judgeLocked f

/-- The lock has just been lost. -/
def lockLost (before after : Fts) : Bool := before.lock = .locked && after.lock = .unlocked

/-- A LOCKED edge reloads the frame timer, and outside the reload guard makes a frame boundary
(R33). -/
def edgeReload (s : State) : State :=
  if s.bpl.active.edgeReload && s.fts.scan != .stopped && s.fts.lock = .locked then
    if Config.reloadGuard ≤ s.fts.age then boundary s else reloadTimer s
  else s

/-- A captured edge is judged; a loss raises SYNC_LOST; then it is offered for edge reload (R27). -/
def captureFsync (s : State) : State :=
  let f := judgeEdge s.fts
  let t := s.setFts f
  if lockLost s.fts f then raiseFault .syncLost t else edgeReload t

/-- The armed EDGE_DROP is consumed (R27). -/
def disarmEdge (s : State) : State :=
  s.setFmo { s.fmo with armed := { s.fmo.armed with edgeDrop := false } }

/-- FSYNC_EDGE (R27): edges of the other polarity are not captured, and an armed EDGE_DROP makes an
active one uncaptured. -/
def execFsyncEdge (p : Polarity) (s : State) : Host.Outcome State Fault Refusal :=
  if !s.pins.resetLow && p = s.fts.display.frameSync then
    if s.fmo.armed.edgeDrop then done (disarmEdge s) else done (captureFsync s)
  else noEffect s

/-- The gap timer has reached 2 × E µs (R29). -/
def State.gapDue (s : State) : Bool :=
  !s.pins.resetLow && s.fts.gap.any (2 * s.fts.display.period ≤ ·)

/-- SYNC_GAP_TIMER_EXPIRY, in ACQUIRING (R31). -/
def execSyncGapTimerExpiry (s : State) : Host.Outcome State Fault Refusal :=
  if s.gapDue && s.fts.lock = .acquiring then
    done (s.setFts { s.fts with consec := 0, capture := none, gap := none })
  else noEffect s

/-- LOCK_TIMER_EXPIRY, in LOCKED (R32). -/
def execLockTimerExpiry (s : State) : Host.Outcome State Fault Refusal :=
  if s.gapDue && s.fts.lock = .locked then
    done (raiseFault .syncLost (s.setFts (unlockSync s.fts)))
  else noEffect s

/-- The acquisition timer has reached 64 × E µs in an attempt that has not raised SYNC_TIMEOUT
(R31). -/
def State.acquisitionDue (s : State) : Bool :=
  !s.pins.resetLow && s.fts.lock = .acquiring && !s.fts.timeoutRaised
    && s.fts.acq.any (64 * s.fts.display.period ≤ ·)

/-- ACQUISITION_TIMEOUT (R31). -/
def execAcquisitionTimeout (s : State) : Host.Outcome State Fault Refusal :=
  if s.acquisitionDue then
    done (raiseFault .syncTimeout (s.setFts { s.fts with timeoutRaised := true }))
  else noEffect s

end Sys2Proof.Machine
end

