-- ==== Sys2Proof/Machine/TransmitFamily.lean ====
section
/-! DEFINITION. Transmitting: TRANSMIT_COMPLETE, HOLD_TIMER_EXPIRY (R146, R148, R183, R187). -/

namespace Sys2Proof.Machine

/-- The last byte of the frame in transmission has left TXD (R173, R183). -/
def State.sendDue (s : State) : Bool := !s.pins.resetLow && s.lnk.tx.any (·.left = 0)

/-- For how long the line idles before the next frame: at least one bit time, and how long past it is
not fixed (R173). -/
def idleTime (s : State) : Nat := bitTime s.pins.linkFast + Config.freeIdle s.free

/-- The transmitter is freed; the last byte of a RESET's reply makes the command reset due (R173, R183,
R187). -/
def freeTransmitter (s : State) : State :=
  let t := s.drawFree.setLnk { s.lnk with tx := none, quiet := idleTime s }
  if s.lnk.tx.any (·.ofReset) && s.cpr = .resetWaits then t.setCpr .resetDue else t

/-- TRANSMIT_COMPLETE (R146). -/
def execTransmitComplete (s : State) : Host.Outcome State Fault Refusal :=
  if s.sendDue then done (freeTransmitter s) else noEffect s

/-- The hold timer has reached 0, its expiry not yet taken (R148). -/
def State.holdDue (s : State) : Bool := !s.pins.resetLow && s.rqu.hold = some 0

/-- HOLD_TIMER_EXPIRY (R148). -/
def execHoldTimerExpiry (s : State) : Host.Outcome State Fault Refusal :=
  if s.holdDue then done (s.modRqu fun r => { r with hold := none }) else noEffect s

end Sys2Proof.Machine
end

