-- ==== Sys2Proof/Machine/Clock.lean ====
section
/-! DEFINITION. What the part does with no command waiting: the events that have fallen due, and one
microsecond of its clocks (log 2, log 3). -/

namespace Sys2Proof.Machine

/-- A row, where its event has fallen due. -/
def dueIf (due : Bool) (i : Instr) : List Instr := if due then [i] else []

/-- The row by which the CPR takes the oldest buffered command, where it can (R180). -/
def takeDue (s : State) : List Instr :=
  if s.canTake then ((s.lnk.buffer.head?.bind rowOf).map fun i => [i]).getD [] else []

/-- The events of the part's own clockwork that have fallen due. -/
def dueEvents (s : State) : List Instr :=
  takeDue s
    ++ dueIf (!s.pins.resetLow && s.cpr = .resetDue) .commandReset
    ++ dueIf s.sendDue .transmitComplete
    ++ dueIf s.framerGapDue .framerGapExpiry
    ++ dueIf s.holdDue .holdTimerExpiry
    ++ dueIf s.frameDue .frameTimerExpiry
    ++ dueIf (s.gapDue && s.fts.lock = .acquiring) .syncGapTimerExpiry
    ++ dueIf (s.gapDue && s.fts.lock = .locked) .lockTimerExpiry
    ++ dueIf s.acquisitionDue .acquisitionTimeout
    ++ bothSheets.flatMap fun sh =>
        dueIf (s.guardDue sh) (.listenGuardEnd sh) ++ dueIf (s.alignDue sh) (.alignTimeout sh)

/-- One microsecond of the Frame Timer and Sync Monitor's clocks (R21, R23, R29, R31, R33). -/
def tickFts (f : Fts) : Fts :=
  { f with
    timebase := f.timebase + 1
    timer := if f.timerOn then f.timer + 1 else f.timer
    age := min Config.reloadGuard (f.age + 1)
    gap := f.gap.map (· + 1)
    acq := f.acq.map (· + 1) }

/-- One microsecond of an engine's waits in ALIGN (R8). -/
def tickEngine (e : Engine) : Engine :=
  if e.st = .align then
    match e.since with
    | none => { e with wait := e.wait + 1 }
    | some n => { e with since := some (n + 1) }
  else e

/-- One microsecond of the link's clocks: the framer's gap timer, and three thirds of a µs of the
frame in transmission or of the idle line (R173, R177). -/
def tickLnk (l : Lnk) : Lnk :=
  { l with
    framer := { l.framer with gap := l.framer.gap.map (· + 1) }
    tx := l.tx.map fun t => { t with left := t.left - 3 }
    quiet := l.quiet - 3 }

/-- One microsecond passes (R21). -/
def tick (s : State) : State :=
  let s := s.setFts (tickFts s.fts)
  let s := s.setCfe { s.cfe with
    engine := ⟨tickEngine s.cfe.engine.s0, tickEngine s.cfe.engine.s1⟩ }
  let s := s.modRqu fun r => { r with hold := r.hold.map (· - 1) }
  s.setLnk (tickLnk s.lnk)

/-- With nothing due: while RESETN is low nothing, and else the arbiter's choice and one
microsecond. -/
def passTime (s : State) : State := if s.pins.resetLow then s else tick (arbitrate s)

/-- The event to take of several that are due; which comes first is not fixed. -/
def chooseDue (k : Nat) (first : Instr) (rest : List Instr) : Instr :=
  (first :: rest).getD (k % (rest.length + 1)) first

end Sys2Proof.Machine
end

