-- ==== Sys2Proof/Machine/FaultCommands.lean ====
section
/-! DEFINITION. The Fault Monitor's commands: READ_FAULTS, CLEAR_FAULTS, SET_FAULT_POLICY, INJECT
(chapter 9). -/

namespace Sys2Proof.Machine

/-- What READ_FAULTS does to the Fault Monitor (R161). -/
def openSnapshot (m : Fmo) : Fmo :=
  { m with
    snapshot := m.snapshot + 1
    recs := perFault fun f => { m.recs.get f with marker := false } }

/-- The body of a READ_FAULTS reply (R161, R194). -/
def readFaultsBody (m : Fmo) : List Byte :=
  u16 (faultWord (statusSet m)) ++ u16 (faultWord (maskSet m)) ++ u16 (faultWord (haltSet m))
    ++ u8 (pointerCode m.pointer) ++ [m.snapshot]

/-- READ_FAULTS' own rule (R161). -/
def readFaultsRule (_ : List Byte) (s : State) : Answer :=
  let m := openSnapshot s.fmo
  accept (s.setFmo m) (readFaultsBody m)

/-- READ_FAULTS (R161). -/
def execReadFaults (s : State) : Host.Outcome State Fault Refusal :=
  runCommand .readFaults readFaultsRule s

/-- The faults of a set that CLEAR_FAULTS clears: set, with their marker clear (R163). -/
def clearable (m : Fmo) (set : PerFault Bool) : PerFault Bool :=
  perFault fun f => set.get f && (m.recs.get f).status && !(m.recs.get f).marker

/-- The statuses of a set are cleared, and the pointer emptied where it names one of them (R155,
R163). -/
def clearStatuses (cleared : PerFault Bool) (m : Fmo) : Fmo :=
  { m with
    recs := perFault fun f =>
      { m.recs.get f with status := (m.recs.get f).status && !cleared.get f }
    pointer := m.pointer.filter fun f => !cleared.get f }

/-- CLEAR_FAULTS accepted with the faults it clears; the halting condition is evaluated where it
clears one (R157, R163). -/
def applyClear (cleared : PerFault Bool) (s : State) : State :=
  let t := s.setFmo (clearStatuses cleared s.fmo)
  if FaultId.all.any cleared.get then evaluateHalt t else t

/-- The body of a CLEAR_FAULTS reply (R163, R194). -/
def clearFaultsBody (cleared : PerFault Bool) (s : State) : List Byte :=
  u16 (faultWord cleared) ++ u16 (faultWord (statusSet s.fmo)) ++ u8 (pointerCode s.fmo.pointer)
    ++ u8 s.fts.scan.code

/-- CLEAR_FAULTS' own rule: the set, then the snapshot number (R162, R163). -/
def clearFaultsRule (p : List Byte) (s : State) : Answer :=
  match faultSetOf (u16At p 1) with
  | none => refuse .badValue s
  | some set =>
    if u8At p 0 = s.fmo.snapshot.toNat then
      let cleared := clearable s.fmo set
      accept (applyClear cleared s) (clearFaultsBody cleared (applyClear cleared s))
    else ⟨s, u8 Status.stale.code ++ [s.fmo.snapshot]⟩

/-- CLEAR_FAULTS (R162, R163). -/
def execClearFaults (s : State) : Host.Outcome State Fault Refusal :=
  runCommand .clearFaults clearFaultsRule s

/-- The masks and severities of every fault are replaced (R165). -/
def setPolicy (mask halt : PerFault Bool) (m : Fmo) : Fmo :=
  { m with recs := perFault fun f =>
      { m.recs.get f with masked := mask.get f, halt := halt.get f } }

/-- SET_FAULT_POLICY accepted (R165). -/
def applyPolicy (mask halt : PerFault Bool) (s : State) : State :=
  evaluateHalt (s.setFmo (setPolicy mask halt s.fmo))

/-- SET_FAULT_POLICY's own rule (R165). -/
def setFaultPolicyRule (p : List Byte) (s : State) : Answer :=
  match faultSetOf (u16At p 0), faultSetOf (u16At p 2) with
  | some mask, some halt =>
    accept (applyPolicy mask halt s) (u8 (applyPolicy mask halt s).fts.scan.code)
  | _, _ => refuse .badValue s

/-- SET_FAULT_POLICY (R165). -/
def execSetFaultPolicy (s : State) : Host.Outcome State Fault Refusal :=
  runCommand .setFaultPolicy setFaultPolicyRule s

/-- An injection is a member of the armed set (R167). -/
def Armed.has (a : Armed) : Injection → Bool
  | .tipMiss c => a.tipMiss.get c
  | .collarFlip c => a.collarFlip.get c
  | .edgeDrop => a.edgeDrop
  | .driverTrip => a.driverTrip

/-- An injection joins the armed set (R167). -/
def Armed.arm (a : Armed) : Injection → Armed
  | .tipMiss c => { a with tipMiss := a.tipMiss.set c true }
  | .collarFlip c => { a with collarFlip := a.collarFlip.set c true }
  | .edgeDrop => { a with edgeDrop := true }
  | .driverTrip => { a with driverTrip := true }

/-- INJECT's own rule: kind, channel, membership (R167). -/
def injectRule (p : List Byte) (s : State) : Answer :=
  match injectionOf (u8At p 0) (u8At p 1) with
  | none => refuse .badValue s
  | some i =>
    if s.fmo.armed.has i then refuse .armed s
    else accept (s.setFmo { s.fmo with armed := s.fmo.armed.arm i }) []

/-- INJECT (R167). -/
def execInject (s : State) : Host.Outcome State Fault Refusal :=
  runCommand .inject injectRule s

end Sys2Proof.Machine
end

