-- ==== Sys2Proof/Machine/ProfileCommands.lean ====
section
/-! DEFINITION. The Profile Table's commands: LOAD_PROFILE, DROP_PROFILE, READ_PROFILE (chapter
7). -/

namespace Sys2Proof.Machine

/-- A curve meets the conditions of R121. -/
def curveValid (c : Curve) : Bool :=
  within c.x1 1 4094 && within c.x2 1 4094 && within c.x3 1 4094 && within c.x4 1 4094
    && c.x1 < c.x2 && c.x2 < c.x3 && c.x3 < c.x4
    && c.y0 ≤ c.y1 && c.y1 ≤ c.y2 && c.y2 ≤ c.y3 && c.y3 ≤ c.y4 && c.y4 ≤ c.y5 && c.y5 ≤ 4095

/-- A profile record is valid (R121). -/
def profileValid (r : Profile) : Bool :=
  within r.pFree 10000 40000 && within r.pFull 10000 40000 && r.pFull < r.pFree
    && within r.height 500 3000 && within r.on 1 4095 && r.off < r.on && r.curve.all curveValid

/-- The curve fields of a LOAD_PROFILE (R193). -/
def curveOf (p : List Byte) : Curve :=
  { x1 := u16At p 15, x2 := u16At p 17, x3 := u16At p 19, x4 := u16At p 21
    y0 := u16At p 23, y1 := u16At p 25, y2 := u16At p 27, y3 := u16At p 29, y4 := u16At p 31
    y5 := u16At p 33 }

/-- The record a LOAD_PROFILE carries; absent where a switch has no code. With the indicator clear
the curve fields are not examined (R122, R193). -/
def profileOf (p : List Byte) : Option Profile :=
  match switchOf (u8At p 13), switchOf (u8At p 14) with
  | some tilt, some curved =>
    some
      { pFree := u16At p 3, pFull := u16At p 5, height := u16At p 7, on := u16At p 9
        off := u16At p 11, tilt := tilt, curve := if curved then some (curveOf p) else none }
  | _, _ => none

/-- A tool record is added, or replaces the one of its ID (R123); the IDs stay rising. -/
def putTool (id : Nat) (r : Profile) : List (Nat × Profile) → List (Nat × Profile)
  | [] => [(id, r)]
  | (k, q) :: rest =>
    if id < k then (id, r) :: (k, q) :: rest
    else if id = k then (id, r) :: rest
    else (k, q) :: putTool id r rest

/-- A tool record of the ID is held. -/
def holdsTool (t : Ptb) (id : Nat) : Bool := t.tools.any (·.1 = id)

/-- The channels whose slots are bound to tool record `id`. -/
def boundToTool (s : State) (id : Nat) : PerChannel Bool := slotSet s (·.bound = some id)

/-- Channel `c` alone, where its slot is bound to its default record. -/
def boundToDefault (s : State) (c : Channel) : PerChannel Bool :=
  (everyChannel false).set c ((s.slot c).bound = none)

/-- A LOAD_PROFILE of a TOOL target is accepted (R123). -/
def loadTool (id : Nat) (r : Profile) (s : State) : State :=
  rebindSlots id (s.setPtb { s.ptb with tools := putTool id r s.ptb.tools })

/-- A LOAD_PROFILE of a DEFAULT target is accepted (R124). -/
def loadDefault (c : Channel) (r : Profile) (s : State) : State :=
  s.setPtb { s.ptb with defaults := s.ptb.defaults.set c r }

/-- The body of a LOAD_PROFILE or DROP_PROFILE reply (R194). -/
def profileBody (s : State) (set : PerChannel Bool) : List Byte :=
  u8 s.ptb.tools.length ++ u8 (channelByte set)

/-- LOAD_PROFILE's own rule: target, record, room (R122). -/
def loadProfileRule (p : List Byte) (s : State) : Answer :=
  match targetOf (u8At p 0) (u16At p 1), (profileOf p).filter profileValid with
  | some (.default c), some r =>
    let s := loadDefault c r s
    accept s (profileBody s (boundToDefault s c))
  | some (.tool id), some r =>
    if !holdsTool s.ptb id && Config.toolLimit ≤ s.ptb.tools.length then refuse .tableFull s
    else
      let s := loadTool id r s
      accept s (profileBody s (boundToTool s id))
  | _, _ => refuse .badValue s

/-- LOAD_PROFILE (R122 to R124). -/
def execLoadProfile (s : State) : Host.Outcome State Fault Refusal :=
  runCommand .loadProfile loadProfileRule s

/-- A tool record is removed, and the slots of its ID rebound (R125). -/
def dropTool (id : Nat) (s : State) : State :=
  rebindSlots id (s.setPtb { s.ptb with tools := s.ptb.tools.filter (·.1 != id) })

/-- DROP_PROFILE's own rule (R125). -/
def dropProfileRule (p : List Byte) (s : State) : Answer :=
  match targetOf (u8At p 0) (u16At p 1) with
  | some (.tool id) =>
    if holdsTool s.ptb id then
      accept (dropTool id s) (profileBody (dropTool id s) (slotSet s (·.toolId = some id)))
    else refuse .notFound s
  | _ => refuse .badValue s

/-- DROP_PROFILE (R125). -/
def execDropProfile (s : State) : Host.Outcome State Fault Refusal :=
  runCommand .dropProfile dropProfileRule s

/-- The curve fields of a record on the link: zeros when absent (R194). -/
def curveBytes : Option Curve → List Byte
  | none => List.replicate 20 0
  | some c =>
    u16 c.x1 ++ u16 c.x2 ++ u16 c.x3 ++ u16 c.x4 ++ u16 c.y0 ++ u16 c.y1 ++ u16 c.y2 ++ u16 c.y3
      ++ u16 c.y4 ++ u16 c.y5

/-- A record in the order of LOAD_PROFILE offsets 3..34 (R194). -/
def profileBytes (r : Profile) : List Byte :=
  u16 r.pFree ++ u16 r.pFull ++ u16 r.height ++ u16 r.on ++ u16 r.off ++ u8 r.tilt.toNat
    ++ u8 r.curve.isSome.toNat ++ curveBytes r.curve

/-- The body of a READ_PROFILE reply, record form (R194). -/
def recordBody (kind value : Nat) (r : Profile) (set : PerChannel Bool) : List Byte :=
  u8 kind ++ u16 value ++ profileBytes r ++ u8 (channelByte set)

/-- The body of a READ_PROFILE reply, directory form, in rising order of ID (R127, R194). -/
def directoryBody (s : State) : List Byte :=
  u8 s.ptb.tools.length ++
    s.ptb.tools.flatMap fun t => u16 t.1 ++ u8 (channelByte (boundToTool s t.1))

/-- READ_PROFILE's own rule (R126, R127). -/
def readProfileRule (p : List Byte) (s : State) : Answer :=
  match targetOf (u8At p 0) (u16At p 1) with
  | none => refuse .badValue s
  | some .directory => accept s (directoryBody s)
  | some (.default c) =>
    accept s (recordBody 0 c.num (s.ptb.defaults.get c) (boundToDefault s c))
  | some (.tool id) =>
    match toolRecord s.ptb id with
    | none => refuse .notFound s
    | some r => accept s (recordBody 1 id r (boundToTool s id))

/-- READ_PROFILE (R126, R127). -/
def execReadProfile (s : State) : Host.Outcome State Fault Refusal :=
  runCommand .readProfile readProfileRule s

end Sys2Proof.Machine
end

