-- ==== Sys2Proof/Machine/ResetFamily.lean ====
section
/-! DEFINITION. The resets: RESETN_ASSERT, RESETN_RELEASE, COMMAND_RESET (R187 to R189). -/

namespace Sys2Proof.Machine

/-- RESETN_ASSERT (R189): everything in progress ends, and the part is held in pin reset. The straps'
last samples and the layout stand until the release samples the straps (log 13). -/
def execResetnAssert (s : State) : Host.Outcome State Fault Refusal :=
  if s.pins.resetLow then noEffect s
  else done (s.resetBlocks { s.pins with resetLow := true } s.cfe.layout [])

/-- RESETN_RELEASE (R188): the straps are sampled, every block takes its reset values, and the
ANNOUNCE is placed with cause PIN. -/
def execResetnRelease (layout linksel : Level) (s : State) : Host.Outcome State Fault Refusal :=
  if s.pins.resetLow then
    let l := layoutOfStrap layout
    done (s.resetBlocks ⟨false, l, fastOfStrap linksel, .pin⟩ l [announceEntry l .pin])
  else noEffect s

/-- COMMAND_RESET (R188): due once the last byte of the RESET reply has left TXD; the layout and the
link rate are kept, and the ANNOUNCE follows that reply on the line (R173). -/
def execCommandReset (s : State) : Host.Outcome State Fault Refusal :=
  if !s.pins.resetLow && s.cpr = .resetDue then
    let t := s.resetBlocks { s.pins with cause := .command } s.cfe.layout
      [announceEntry s.cfe.layout .command]
    done (t.setLnk { t.lnk with quiet := s.lnk.quiet })
  else noEffect s

end Sys2Proof.Machine
end

