-- ==== Sys2Proof/Machine/ScanCommands.lean ====
section
/-! DEFINITION. The commands that steer scanning and reports: START, STOP, RELEASE, HOLD. -/

namespace Sys2Proof.Machine

/-- START from STOPPED (R35): the layout is fixed, the timer starts, and the first frame opens in
RUNNING, or in HALTED where a halting condition holds. -/
def startScanning (s : State) : State :=
  let s := reloadTimer (s.setCfe { s.cfe with fixed := true })
  let scan := if s.fmo.halting then ScanState.halted else .running
  openFrame (s.setFts { s.fts with scan := scan })

/-- What START does (R35). -/
def applyStart (s : State) : State :=
  match s.fts.scan with
  | .stopped => startScanning s
  | .running => s.setFts { s.fts with stopReq := false }
  | .halted => s

/-- START's own rule (R35). -/
def startRule (_ : List Byte) (s : State) : Answer :=
  accept (applyStart s) (u8 (applyStart s).fts.scan.code)

/-- START (R35). -/
def execStart (s : State) : Host.Outcome State Fault Refusal :=
  runCommand .start startRule s

/-- What STOP does; every armed injection is disarmed (R36, R169). -/
def applyStop (s : State) : State :=
  let s := s.setFmo { s.fmo with armed := nothingArmed }
  match s.fts.scan with
  | .stopped => s
  | .running => s.setFts { s.fts with stopReq := true }
  | .halted => stopScanning s

/-- STOP's own rule (R36). -/
def stopRule (_ : List Byte) (s : State) : Answer :=
  accept (applyStop s) (u8 (applyStop s).fts.scan.code)

/-- STOP (R36). -/
def execStop (s : State) : Host.Outcome State Fault Refusal :=
  runCommand .stop stopRule s

/-- RELEASE's own rule (R74). -/
def releaseRule (p : List Byte) (s : State) : Answer :=
  match channelOf (u8At p 0) with
  | none => refuse .badValue s
  | some c =>
    if (s.slot c).state = .idle then refuse .wrongState s
    else
      let s := s.setBpl { s.bpl with
        staged := { s.bpl.staged with releases := s.bpl.staged.releases.set c true } }
      accept s (effectiveFrame s)

/-- RELEASE (R74). -/
def execRelease (s : State) : Host.Outcome State Fault Refusal :=
  runCommand .release releaseRule s

/-- The hold timer a HOLD of `n` quanta sets (R147). -/
def holdTime (n : Nat) : Option Nat := if n = 0 then none else some (n * Config.holdQuantum)

/-- HOLD's own rule (R147). -/
def holdRule (p : List Byte) (s : State) : Answer :=
  let s := s.modRqu fun r => { r with hold := holdTime (u16At p 0) }
  accept s (u8 s.rqu.queue.length ++ u8 (motionCount s.rqu.queue))

/-- HOLD (R147). -/
def execHold (s : State) : Host.Outcome State Fault Refusal :=
  runCommand .hold holdRule s

end Sys2Proof.Machine
end

