-- ==== Sys2Proof/Machine/TrackCommands.lean ====
section
/-! DEFINITION. READ_TRACK (R186, R195). -/

namespace Sys2Proof.Machine

/-- A pending relocation on the link: zeros when absent (R195). -/
def relocationBytes : Option Relocation → List Byte
  | none => List.replicate 10 0
  | some r => s32 r.x ++ s32 r.y ++ u16 r.frame.toNat

/-- A slot record of a READ_TRACK reply, 29 bytes (R195). -/
def slotBytes (sl : Slot) : List Byte :=
  u8 sl.state.code ++ u8 (slotFlagsByte sl) ++ u8 sl.centreX ++ u8 sl.centreY ++ s32 sl.lastX
    ++ s32 sl.lastY ++ u8 sl.confirm ++ u8 sl.misses.length ++ u8 (missByte sl)
    ++ relocationBytes sl.pendingRel ++ u16 (optionalId sl.toolId) ++ u16 (optionalId sl.bound)

/-- A field of sheet 1: 0 in SINGLE (R186). -/
def sheetOneField (s : State) (n : Nat) : Nat := if s.cfe.layout = .dual then n else 0

/-- A channel's search cursors on both sheets (R195). -/
def cursorBytes (s : State) (c : Channel) : List Byte :=
  let cur := s.bpl.cursor.get c
  u8 cur.s0 ++ u8 (sheetOneField s cur.s1)

/-- The planner's fields: rotation pointers, budgets and plan lengths (R54, R195). -/
def plannerBytes (s : State) : List Byte :=
  u8 s.bpl.rotation.s0.num ++ u8 (sheetOneField s s.bpl.rotation.s1.num)
    ++ u8 s.bpl.budget ++ u8 (sheetOneField s s.bpl.budget)
    ++ u8 s.bpl.plan.s0.length ++ u8 (sheetOneField s s.bpl.plan.s1.length)

/-- Which kinds of staged item are waiting (R54, R195). -/
def stagedByte (g : Staged) : Nat :=
  ofBits [g.scan.isSome, g.word.isSome, g.enable.isSome, !g.releases.members.isEmpty]

/-- The armed set (R171, R195). -/
def armedBytes (a : Armed) : List Byte :=
  u8 (channelByte a.tipMiss + 16 * channelByte a.collarFlip)
    ++ u8 (ofBits [a.edgeDrop, a.driverTrip])

/-- The body of a READ_TRACK reply, 139 bytes after the status (R195). -/
def readTrackBody (s : State) : List Byte :=
  u8 s.fts.scan.code ++ u8 s.fts.stopReq.toNat ++ u16 s.fts.frameNo.toNat ++ u8 s.fts.lock.code
    ++ u8 (channelByte s.ptr.enabled)
    ++ (Channel.all.flatMap fun c => slotBytes (s.slot c))
    ++ (Channel.all.flatMap (cursorBytes s))
    ++ plannerBytes s ++ u8 (stagedByte s.bpl.staged) ++ armedBytes s.fmo.armed

/-- READ_TRACK's own rule (R186). -/
def readTrackRule (_ : List Byte) (s : State) : Answer := accept s (readTrackBody s)

/-- READ_TRACK (R186). -/
def execReadTrack (s : State) : Host.Outcome State Fault Refusal :=
  runCommand .readTrack readTrackRule s

end Sys2Proof.Machine
end

