-- ==== Sys2Proof/Machine/Dispatch.lean ====
section
/-! DEFINITION. One arm for each row of the opcode table. -/

namespace Sys2Proof.Machine

def exec (i : Instr) (s : State) : Host.Outcome State Fault Refusal :=
  match i with
  | .resetnAssert => Sys2Proof.Machine.execResetnAssert s
  | .resetnRelease layout linksel => Sys2Proof.Machine.execResetnRelease layout linksel s
  | .commandReset => Sys2Proof.Machine.execCommandReset s
  | .receiveByte b => Sys2Proof.Machine.execReceiveByte b s
  | .framerGapExpiry => Sys2Proof.Machine.execFramerGapExpiry s
  | .unknownCommand => Sys2Proof.Machine.execUnknownCommand s
  | .queryId => Sys2Proof.Machine.execQueryId s
  | .reset => Sys2Proof.Machine.execReset s
  | .setLayout => Sys2Proof.Machine.execSetLayout s
  | .setPanel => Sys2Proof.Machine.execSetPanel s
  | .setScan => Sys2Proof.Machine.execSetScan s
  | .setDisplay => Sys2Proof.Machine.execSetDisplay s
  | .setWord => Sys2Proof.Machine.execSetWord s
  | .channels => Sys2Proof.Machine.execChannels s
  | .start => Sys2Proof.Machine.execStart s
  | .stop => Sys2Proof.Machine.execStop s
  | .release => Sys2Proof.Machine.execRelease s
  | .loadProfile => Sys2Proof.Machine.execLoadProfile s
  | .dropProfile => Sys2Proof.Machine.execDropProfile s
  | .readProfile => Sys2Proof.Machine.execReadProfile s
  | .readTrack => Sys2Proof.Machine.execReadTrack s
  | .hold => Sys2Proof.Machine.execHold s
  | .readFaults => Sys2Proof.Machine.execReadFaults s
  | .clearFaults => Sys2Proof.Machine.execClearFaults s
  | .setFaultPolicy => Sys2Proof.Machine.execSetFaultPolicy s
  | .inject => Sys2Proof.Machine.execInject s
  | .transmitComplete => Sys2Proof.Machine.execTransmitComplete s
  | .holdTimerExpiry => Sys2Proof.Machine.execHoldTimerExpiry s
  | .frameTimerExpiry => Sys2Proof.Machine.execFrameTimerExpiry s
  | .fsyncEdge p => Sys2Proof.Machine.execFsyncEdge p s
  | .syncGapTimerExpiry => Sys2Proof.Machine.execSyncGapTimerExpiry s
  | .lockTimerExpiry => Sys2Proof.Machine.execLockTimerExpiry s
  | .acquisitionTimeout => Sys2Proof.Machine.execAcquisitionTimeout s
  | .excitationEnd sh => Sys2Proof.Machine.execExcitationEnd sh s
  | .lsyncEdge p => Sys2Proof.Machine.execLsyncEdge p s
  | .listenGuardEnd sh => Sys2Proof.Machine.execListenGuardEnd sh s
  | .alignTimeout sh => Sys2Proof.Machine.execAlignTimeout sh s
  | .burstComplete sh r => Sys2Proof.Machine.execBurstComplete sh r s
  | .driverOvercurrent sh => Sys2Proof.Machine.execDriverOvercurrent sh s

end Sys2Proof.Machine
end

