-- ==== Sys2Proof/Machine/Step.lean ====
section
/-! DEFINITION. One step: the command at the front of the queue, or, with none waiting, the part's own
clockwork. -/

namespace Sys2Proof.Machine

/-- A step with no command waiting: the event that has fallen due, one of them where there are
several, or else one microsecond (log 2, log 3). -/
def idleStep (s : State) : Host.Outcome State Fault Refusal :=
  match dueEvents s with
  | [] => .next (passTime s)
  | [i] => exec i s
  | i :: j :: rest => exec (chooseDue (Config.freeDue s.free) i (j :: rest)) s.drawFree

/-- One step of the part. -/
def step (s : State) : Host.Outcome State Fault Refusal :=
  match s.pending with
  | [] => idleStep s
  | c :: rest => exec c (s.setPending rest)

/-- The state with the command a table word spells at the front of its queue. -/
def State.withFetchWord (s : State) (nbits w : Nat) : State :=
  match decodeTableWord nbits w with
  | none => s
  | some c => s.setPending (c :: s.pending)

end Sys2Proof.Machine
end

