-- ==== Sys2Proof/Safety.lean ====
section
/-! DEFINITION. What holds of the part in every run, as predicates on one state, and the words the
statements about commands use. -/

namespace Sys2Proof.Machine

/-! ### Commands taken and replies placed -/

/-- The CPR can take the oldest buffered command, `c`, whose KIND is that of `k` (R180, R181). -/
abbrev Takes (k : CommandKind) (s : State) (c : Command) (rest : List Command) : Prop :=
  s.pins.resetLow = false ∧ s.cpr = .idle ∧ s.lnk.replies.length < 2
    ∧ s.lnk.buffer = c :: rest ∧ c.unknown = false ∧ c.kind = k.code

/-- The state once the oldest command has left the buffer. -/
def taken (rest : List Command) (s : State) : State :=
  { s with lnk := { s.lnk with buffer := rest } }

/-- The state once a reply has joined the pending list. -/
def replied (r : Reply) (s : State) : State :=
  { s with lnk := { s.lnk with replies := s.lnk.replies ++ [r] } }

/-- An OK reply with its body (R191, R194). -/
def okReply (k : CommandKind) (tag : Byte) (body : List Byte) : Reply :=
  ⟨k.replyCode, tag, 0x00 :: body, false⟩

/-- A refusal's reply: the status alone (R191). -/
def refusal (k : CommandKind) (tag status : Byte) : Reply := ⟨k.replyCode, tag, [status], false⟩

/-- The field `l` stands at offset `k` of a payload. -/
abbrev Holds (p : List Byte) (k : Nat) (l : List Byte) : Prop := (p.drop k).take l.length = l

/-- No halting condition holds, and raising one of these faults brings none: each is masked or of
NOTICE severity (R157). -/
abbrev NoHaltBy (fs : List FaultId) (m : Fmo) : Prop :=
  m.halting = false ∧ ∀ f ∈ fs, (m.recs.get f).masked = true ∨ (m.recs.get f).halt = false

/-- The faults a frame boundary can raise (R26, R58, R63, R138). -/
def boundaryFaults : List FaultId := [.frameCut, .twin, .profileMiss, .queueDrop]

/-! ### What a window record shows (R15, R57) -/

/-- Position `k` of nine amplitudes is a local maximum: at least the one below it and greater than the
one above it, where what lies outside the nine counts as 0 (R57). -/
def IsLocalMax (a : List Nat) (k : Nat) : Prop :=
  (∀ j, k = j + 1 → a.getD j 0 ≤ a.getD k 0) ∧ a.getD (k + 1) 0 < a.getD k 0

/-- Position `k` of an axis holds its main peak: of the local maxima the one whose coil lies nearest
to the window centre, the lower coil of two equally near (R57). -/
def IsMainPeak (a : List Nat) (first centre k : Nat) : Prop :=
  let dist := fun j : Nat => (((first + j : Nat) : Int) - centre).natAbs
  k < 9 ∧ IsLocalMax a k
    ∧ ∀ j, j < 9 → IsLocalMax a j → dist k ≤ dist j ∧ (dist j = dist k → k ≤ j)

/-- `pk` are the main peaks of a window record around a window centre, the Y list being that of the
sheet that holds the X main peak (R15, R57). -/
structure PeaksOf (layout : Layout) (p : Panel) (centreX centreY : Nat) (w : WindowRec)
    (pk : Peaks) : Prop where
  x : IsMainPeak w.x w.wx centreX pk.kx
  y : IsMainPeak pk.y w.wy centreY pk.ky
  coilX : pk.coilX = w.wx + pk.kx
  coilY : pk.coilY = w.wy + pk.ky
  sheet : pk.sheet = if layout = .dual ∧ p.n0 ≤ pk.coilX then .s1 else .s0
  list : pk.y = sheetGet w.y pk.sheet

/-- Both main peaks are at least a level, that of the sheet of the X main peak (R18, R60). -/
abbrev Reaches (level : Sheet → Nat) (w : WindowRec) (pk : Peaks) : Prop :=
  level pk.sheet ≤ w.x.getD pk.kx 0 ∧ level pk.sheet ≤ pk.y.getD pk.ky 0

/-- A window record of slot `c` shows main peaks around the slot's window centre, each of at least a
level (R18, R60). -/
def Shows (s : State) (c : Channel) (w : WindowRec) (level : Sheet → Nat) (pk : Peaks) : Prop :=
  PeaksOf s.cfe.layout s.cfe.panel (s.slot c).centreX (s.slot c).centreY w pk ∧ Reaches level w pk

/-! ### The close of a frame (R24, R26, R48, R59, R133) -/

/-- The boundary finds an entry of the frame's plans PLANNED or IN_FLIGHT (R26). -/
abbrev LeavesUnrun (s : State) : Prop :=
  ∃ e ∈ s.bpl.plan.s0 ++ s.bpl.plan.s1, e.run = .planned ∨ e.run = .inFlight

/-- The state in which a planned frame is handed to the tracker, where FRAME_CUT does not halt the
part: the engines IDLE, every entry not completed UNRUN, and FRAME_CUT recorded where the boundary left
one unrun (R9, R24, R26, R48). -/
def closing (s : State) : State :=
  let unrun := fun e : PlanEntry => if e.run = .completed then e else { e with run := .unrun }
  let t := { s with
    cfe := { s.cfe with engine := everySheet idleEngine }
    bpl := { s.bpl with plan := ⟨s.bpl.plan.s0.map unrun, s.bpl.plan.s1.map unrun⟩ } }
  if LeavesUnrun s then recordFault .frameCut t else t

/-- The closing state once the slots 0..3 have been closed in order, counting the reports placed
(R59). -/
def closedSlots (s : State) : State :=
  let t := closing s
  [Channel.c0, .c1, .c2, .c3].foldl closeSlot { t with rqu := { t.rqu with fresh := some 0 } }

/-- The queue `q` is that of the closed slots, where an ALERT that the close placed may stand anywhere
among the reports that the close placed (R133). -/
def QueueSettled (s : State) (q : List Entry) : Prop :=
  let p := (closedSlots s).rqu
  if .alert ∉ s.rqu.queue ∧ .alert ∈ p.queue then
    let others := p.queue.filter (· != .alert)
    ∃ k, k ≤ others.length ∧ others.length ≤ k + p.fresh.getD 0
      ∧ q = others.take k ++ .alert :: others.drop k
  else q = p.queue

/-- `u` is what the close of a planned frame leaves once the tracker has processed it: slots, reports
and faults are those of the closed slots, plans and records are discarded, and nothing else has changed
(R24, R48, R59). -/
def CloseProcessed (s u : State) : Prop :=
  QueueSettled s u.rqu.queue
  ∧ u = { s with
      cfe := { s.cfe with engine := everySheet idleEngine }
      bpl := { s.bpl with plan := everySheet [], budget := 0 }
      ptr := { s.ptr with slots := (closedSlots s).ptr.slots, records := [] }
      rqu := { (closedSlots s).rqu with queue := u.rqu.queue, fresh := none }
      fmo := (closedSlots s).fmo
      free := s.free + 1 }

/-- `u` is what the close of the current frame leaves: processed where it was planned, and else with
nothing handed to the tracker (R24). -/
def FrameClosed (s u : State) : Prop :=
  if s.fts.frame = .planned then CloseProcessed s u
  else u = { s with
    cfe := { s.cfe with engine := everySheet idleEngine }
    bpl := { s.bpl with plan := everySheet [], budget := 0 }
    ptr := { s.ptr with records := [] } }

/-- The frame timer reloaded from the latch (R22, R23). -/
abbrev reloaded (f : Fts) : Fts := { f with period := f.latch, timerOn := true, timer := 0 }

/-- `t` is `u` once a stop is carried out at the close that left `u` (R37, R77): STOPPED, every slot in
CONFIRM or TRACK ended into SEARCH with its OUT, every enabled slot's cursors at band 0, and nothing else
changed. The order 0..3 of the OUTs, the timer's count and the active period are the model's choice (log
22, log 19). -/
structure StopCarriedOut (u t : State) : Prop where
  slots : ∀ c, t.slot c = if (u.slot c).state.active then { u.slot c with
      state := .search, confirm := 0, misses := [], pendingRel := none, prox := false, toolId := none
      bound := none, tip := .up, heldPressure := none, heldTilt := none, word := none }
    else u.slot c
  cursors : ∀ c, t.bpl.cursor.get c
    = if (u.slot c).state = .idle then u.bpl.cursor.get c else ⟨0, 0⟩
  outs : t.rqu = Channel.all.foldl (fun r c =>
    if (u.slot c).state.active = true ∧ (u.slot c).prox = true then r.handOut c else r) u.rqu
  rest : t = { u with
    fts := { u.fts with scan := .stopped, stopReq := false, timerOn := false, frame := .noFrame }
    bpl := { u.bpl with cursor := t.bpl.cursor }
    ptr := { u.ptr with slots := t.ptr.slots }
    rqu := t.rqu }

/-! ### The open of a frame in RUNNING (R24, R25, R40, R41, R44, R51) -/

/-- The state with a frame just opened in RUNNING and every staged item taken up (R24, R25, R51). -/
def openedFrame (v : State) : State :=
  takeUp { v with fts := { v.fts with
    frameNo := v.fts.frameNo + 1, frame := .planned, age := 0 } }

/-- `t` holds what the open of a frame on `v` gives: slots, queue and cursors as the take-up left them,
a budget of the active period, and on each sheet of the layout the plan that these give, its rotation
pointer after it, and the engine at its PROBE (R7, R8, R40, R41, R44, R51). That an engine's ALIGN times
begin at 0 and absent (log 19), and what sheet 1 holds in SINGLE (log 5), are the model's choice. -/
structure FrameOpened (v t : State) : Prop where
  slots : t.ptr.slots = (openedFrame v).ptr.slots
  cursors : t.bpl.cursor = (openedFrame v).bpl.cursor
  queue : t.rqu = (openedFrame v).rqu
  faults : t.fmo = v.fmo
  budget : t.bpl.budget = min 40 ((v.fts.period - 300) / 210)
  sheets : ∀ sh, (sh = .s1 → v.cfe.layout = .dual) →
    let planned := sheetPlan v.cfe.layout v.cfe.panel (openedFrame v).ptr.slots
      (openedFrame v).bpl.cursor t.bpl.budget (sheetGet v.bpl.rotation sh) sh
    let aligned := v.fts.lock = .locked ∧ t.bpl.active.align = true
    sheetGet t.bpl.plan sh = planned.1.modify 0 (fun e => { e with run := .inFlight })
    ∧ sheetGet t.bpl.rotation sh = planned.2
    ∧ t.engine sh = { idleEngine with
        st := if aligned then .align else .listen, unsynced := !decide aligned }
  absent : v.cfe.layout = .single → t.bpl.plan.s1 = []
    ∧ t.bpl.rotation.s1 = v.bpl.rotation.s1 ∧ t.engine .s1 = idleEngine

/-! ### The scan state (R2, R23, R35 to R39, R48, R157) -/

/-- The scan state, the frame, the timer and the engines agree, and in RUNNING no halting condition
holds. -/
structure ScanConsistent (s : State) : Prop where
  running : s.fts.scan = .running → s.fmo.halting = false
  halted : s.fts.scan = .halted → s.fmo.halting = true ∧ s.fts.stopReq = false
  stopped : s.fts.scan = .stopped → s.fts.stopReq = false ∧ s.fts.timerOn = false
    ∧ s.fts.frame = .noFrame
  going : s.fts.scan ≠ .stopped → s.fts.timerOn = true ∧ s.fts.frame ≠ .noFrame
    ∧ s.cfe.fixed = true
  planned : s.fts.frame = .planned → s.fts.scan = .running
  planless : s.fts.frame ≠ .planned → s.cfe.engine = everySheet idleEngine
    ∧ s.bpl.plan = everySheet [] ∧ s.bpl.budget = 0 ∧ s.ptr.records = []

/-! ### Settings and tables (R3, R4, R22, R28, R49, R95, R120, R121) -/

/-- The scan settings lie in their ranges (R49). -/
def ScanSettings.legal (r : ScanSettings) : Bool :=
  within r.detectMin 64 65535 && within r.confirm 2 3 && within r.missWindow 4 8
    && within r.missLimit 2 3 && within r.jump 500 50000

/-- The word settings lie in their ranges (R95). -/
def WordSettings.legal (r : WordSettings) : Bool := within r.window 4 6

/-- The display settings lie in their ranges (R28). -/
def Display.legal (d : Display) : Bool := within d.period 6000 32000 && within d.tolerance 10 2000

/-- Every setting, staged or active, lies in its range. -/
structure SettingsLegal (s : State) : Prop where
  latch : within s.fts.latch 2400 10000 = true
  period : within s.fts.period 2400 10000 = true
  display : s.fts.display.legal = true
  active : s.bpl.active.legal = true
  stagedScan : s.bpl.staged.scan.all ScanSettings.legal = true
  word : s.wdc.legal = true
  stagedWord : s.bpl.staged.word.all WordSettings.legal = true
  panel : panelFits s.cfe.layout s.cfe.panel = true

/-- The Profile Table: valid records, at most sixteen of tools, named by rising IDs within 1..65535
(R120, R121). -/
structure TableLegal (t : Ptb) : Prop where
  defaults : ∀ c, profileValid (t.defaults.get c) = true
  tools : ∀ p ∈ t.tools, profileValid p.2 = true ∧ 1 ≤ p.1 ∧ p.1 ≤ 65535
  room : t.tools.length ≤ 16
  rising : (t.tools.map (·.1)).Pairwise (· < ·)

/-! ### Plans and levels (R17, R40, R41) -/

/-- No plan is longer than the slot budget, and no budget exceeds 40. -/
structure PlansFit (s : State) : Prop where
  latch : within s.fts.latch 2400 10000 = true
  sheet0 : s.bpl.plan.s0.length ≤ s.bpl.budget
  sheet1 : s.bpl.plan.s1.length ≤ s.bpl.budget
  budget : s.bpl.budget ≤ 40

/-- Each sheet's detect threshold is that of its noise floor (R17). -/
def LevelsFollow (s : State) : Prop :=
  ∀ sh, sheetGet s.cfe.threshold sh
    = min 65535 (max s.bpl.active.detectMin (4 * sheetGet s.cfe.floor sh))

/-! ### Track slots (R55, R56, R71, R82, R128) -/

/-- A slot in CONFIRM has handed its decoder too few bits for an alignment, so no tool ID can have
been validated (R63, R86). -/
structure ConfirmsEarly (sl : Slot) : Prop where
  count : sl.confirm ≤ 2
  word : ∀ w, sl.word = some w → w.aligned = none ∧ w.history.length ≤ sl.confirm

/-- The fields of a slot agree with its state, and its binding with the Profile Table. -/
structure SlotConsistent (s : State) (c : Channel) : Prop where
  enabled : s.ptr.enabled.get c = false ↔ (s.slot c).state = .idle
  bound : (s.slot c).bound = boundOf s.ptb (s.slot c).toolId
  prox : (s.slot c).prox = true ↔ (s.slot c).state = .track
  word : (s.slot c).word.isSome = (s.slot c).state.active
  early : (s.slot c).state = .confirm → ConfirmsEarly (s.slot c)
  toolId : (s.slot c).toolId ≠ none → (s.slot c).state = .track
  pendingRel : (s.slot c).pendingRel ≠ none → (s.slot c).state = .track

/-- Every slot is consistent, and outside RUNNING none holds a pen or a candidate (R77, R78). -/
structure SlotsConsistent (s : State) : Prop where
  confirm : s.bpl.active.confirm ≤ 3
  staged : ∀ r, s.bpl.staged.scan = some r → r.confirm ≤ 3
  slot : ∀ c, SlotConsistent s c
  quiet : s.fts.scan ≠ .running → ∀ c, (s.slot c).state.active = false

/-- A word sub-record keeps to its bounds (R82). -/
structure WordRec.Bounded (w : WordRec) : Prop where
  count : w.count < 8
  history : w.history.length ≤ 16
  aligned : ∀ o, w.aligned = some o → o < 8
  errors : w.errors.length ≤ 6
  cycle : ∀ b, w.cycle = some b → 1 ≤ b.length ∧ b.length ≤ 15
  lastCycle : ∀ v, w.lastCycle = some v → 1 ≤ v ∧ v ≤ 65535

/-- Every slot keeps to the bounds of its lists and of its tool ID (R55, R82). -/
structure SlotsBounded (s : State) : Prop where
  active : s.bpl.active.legal = true
  stagedScan : s.bpl.staged.scan.all ScanSettings.legal = true
  word : s.wdc.legal = true
  stagedWord : s.bpl.staged.word.all WordSettings.legal = true
  words : ∀ c w, (s.slot c).word = some w → w.Bounded
  misses : ∀ c, (s.slot c).misses.length ≤ 8
  toolId : ∀ c i, (s.slot c).toolId = some i → 1 ≤ i ∧ i ≤ 65535

/-! ### The report queue (R134, R141) -/

/-- The unsent IN and OUT of a channel, oldest first; an IN is true. -/
def notices (c : Channel) : List Entry → List Bool
  | [] => []
  | .penIn d :: rest => if d = c then true :: notices c rest else notices c rest
  | .penOut d :: rest => if d = c then false :: notices c rest else notices c rest
  | _ :: rest => notices c rest

/-- The shapes a channel's unsent notices can have, by its slot's proximity-sent flag (R134). -/
def noticesFit (prox : Bool) (l : List Bool) : Bool :=
  l = [] || l = [prox] || (prox && l = [false, true])

/-- The entry is an ANNOUNCE. -/
def Entry.isAnnounce : Entry → Bool
  | .announce _ _ _ _ => true
  | _ => false

/-- The acceptance rules' bounds (R134), with the flags they rest on. -/
structure QueueBounded (s : State) : Prop where
  motions : motionCount s.rqu.queue ≤ 48
  alerts : s.rqu.queue.count .alert ≤ 1
  announces : s.rqu.queue.countP Entry.isAnnounce ≤ 1
  tools : ∀ c, s.rqu.queue.countP (Entry.isToolOf c) ≤ 1
  notices : ∀ c, noticesFit (s.slot c).prox (notices c s.rqu.queue) = true
  prox : ∀ c, (s.slot c).prox = true → (s.slot c).state = .track

/-- What one report does to the host's view of a channel's proximity: absent where R141 forbids the
report. -/
def hostSees (c : Channel) (view : Option Bool) (e : Entry) : Option Bool :=
  match e with
  | .penIn d => if d = c then view.bind fun v => if v then none else some true else view
  | .penOut d => if d = c then view.bind fun v => if v then some false else none else view
  | .motion m => if m.ch = c then view.filter id else view
  | .tool d _ _ => if d = c then view.filter id else view
  | .alert => view
  | .announce _ _ _ _ => view.map fun _ => false

/-- From a host's view of each channel, every waiting report is one R141 allows, and the last leaves
the view at the slot's proximity-sent flag. -/
def LanesLegal (s : State) : Prop :=
  ∀ c, ∃ view, s.rqu.queue.foldl (hostSees c) (some view) = some (s.slot c).prox

/-- Nothing is in transmission while RESETN is low or the command reset is due, and every pending reply
has bit 7 of its KIND set, so that none reads as a report (R187, R189, R192). -/
structure LineLawful (s : State) : Prop where
  low : s.pins.resetLow = true → s.lnk.tx = none
  due : s.cpr = .resetDue → s.lnk.tx = none
  replies : ∀ r ∈ s.lnk.replies, 0x80 ≤ r.kind.toNat

/-- The two laws of R141 over the waiting reports, with what they rest on. -/
structure QueueLawful (s : State) : Prop where
  bounded : QueueBounded s
  lanes : LanesLegal s
  slots : SlotsConsistent s
  line : LineLawful s

/-- `view` is the host's view of channel `c` from which the waiting reports lead to the slot's
proximity-sent flag. While RESETN is low any view will do: the ANNOUNCE of the release comes first. -/
abbrev HostAt (s : State) (c : Channel) (view : Bool) : Prop :=
  s.pins.resetLow = false → s.rqu.queue.foldl (hostSees c) (some view) = some (s.slot c).prox

/-- The bytes of the frame whose transmission a step from `s` to `t` started; none where it started
none. A frame already in transmission has ever less time left. -/
def frameStarted (s t : State) : List Byte :=
  match t.lnk.tx with
  | none => []
  | some y => if s.lnk.tx.all (·.left < y.left) then y.bytes else []

/-- What the bytes of a frame do to the host's view of a channel's proximity, by their KIND and their
channel as R174, R192 and R196 lay them out: absent where R141 forbids the report. Replies and an ALERT
do nothing to it. -/
def wireSees (c : Channel) (view : Bool) (bytes : List Byte) : Option Bool :=
  if bytes[2]? = some 0x45 then some false
  else if bytes[4]? ≠ some (BitVec.ofNat 8 c.num) then some view
  else if bytes[2]? = some 0x41 then if view then none else some true
  else if bytes[2]? = some 0x42 then if view then some false else none
  else if bytes[2]? = some 0x40 ∨ bytes[2]? = some 0x43 then if view then some true else none
  else some view

/-! ### Faults and the link (R155, R176, R179, R180) -/

/-- The first-fault pointer is empty or names a fault whose status is set (R155). -/
def PointerNamesSet (s : State) : Prop :=
  ∀ f, s.fmo.pointer = some f → (s.fmo.recs.get f).status = true

/-- The receive side keeps to its bounds: four commands buffered, two replies pending, and the frame
in progress no longer than its LENGTH; the gap timer runs outside HUNT alone. -/
structure LinkBounded (s : State) : Prop where
  buffer : s.lnk.buffer.length ≤ 4
  replies : s.lnk.replies.length ≤ 2
  length : s.lnk.framer.length ≤ 200
  payload : s.lnk.framer.st = .payload → s.lnk.framer.payload.length < s.lnk.framer.length
  gap : s.lnk.framer.gap.isSome = true ↔ s.lnk.framer.st ≠ .hunt

end Sys2Proof.Machine
end

