-- ==== Sys2Proof/Certificates/Slice0/Obligations.lean ====
section
/-! DEFINITION. The statements for the provers. A command taken by the CPR is stated as `Takes`, its
reply as `okReply` or `refusal`, and the arbiter's choice that ends each step as `arbitrate`, which
`Obligations.ArbiterChooses` states on its own. -/

open Sys2Proof Sys2Proof.Machine

/-! ### The queue of commands and the part's own clockwork -/

/-- A step takes the command at the front of the queue and is that command's `exec`, on the state
with the queue's rest. -/
def Obligations.StepRunsFront : Prop :=
  ∀ (c : Instr) (rest : List Instr) (s : State), s.pending = c :: rest →
    step s = exec c { s with pending := rest }

/-- With no command waiting and nothing due, the arbiter chooses and one microsecond passes: every
counter of the part moves by it (R8, R21, R23, R29, R31, R33, R148, R173, R177), and no setting, slot,
fault or plan changes. The model's choice (log 2): the table has no row for a tick. -/
def Obligations.IdleStepPassesOneMicrosecond : Prop :=
  ∀ s : State, s.pending = [] → s.pins.resetLow = false → dueEvents s = [] →
    let a := arbitrate s
    ∃ t, step s = .next t
      ∧ t.fts = { s.fts with
          timebase := s.fts.timebase + 1
          timer := if s.fts.timerOn then s.fts.timer + 1 else s.fts.timer
          age := min 300 (s.fts.age + 1)
          gap := s.fts.gap.map (· + 1)
          acq := s.fts.acq.map (· + 1) }
      ∧ (∀ sh, t.engine sh = if (s.engine sh).st = .align then
            { s.engine sh with
              wait := if (s.engine sh).since = none then (s.engine sh).wait + 1
                else (s.engine sh).wait
              since := (s.engine sh).since.map (· + 1) }
          else s.engine sh)
      ∧ t.cfe = { s.cfe with engine := t.cfe.engine }
      ∧ t.rqu = { a.rqu with hold := s.rqu.hold.map (· - 1) }
      ∧ t.lnk = { a.lnk with
          framer := { s.lnk.framer with gap := s.lnk.framer.gap.map (· + 1) }
          tx := a.lnk.tx.map fun x => { x with left := x.left - 3 }
          quiet := a.lnk.quiet - 3 }
      ∧ t.pins = s.pins ∧ t.bpl = s.bpl ∧ t.ptr = s.ptr ∧ t.wdc = s.wdc ∧ t.ptb = s.ptb
      ∧ t.fmo = s.fmo ∧ t.cpr = s.cpr ∧ t.free = s.free ∧ t.pending = []

/-! ### Resets -/

/-- RESETN_ASSERT ends everything in progress: no frame, no burst, no report and no reply is left, and
TXD is idle (R189). While RESETN is low no block runs. RESETN_RELEASE samples the straps, gives every
block its reset value and starts the ANNOUNCE with cause PIN at once (R1, R144, R173, R188). That the
blocks take their reset values already at the assertion is the model's choice (log 13). COMMAND_RESET,
due once the RESET reply has left TXD, gives every block its reset value, keeps the layout and the link
rate, and starts the ANNOUNCE with cause COMMAND (R144, R187, R188), its start bit after the idle time
the line owes (R173). The Fault Monitor's values after a reset are every status, marker and mask clear,
HALT severity for DRIVER_TRIP alone, the pointer empty, the snapshot 0, no halting condition and nothing
armed (R172). That an engine without a burst has position and ALIGN times 0 is the model's choice (log
19), and that the framer's LENGTH, KIND, TAG, CRC high byte and payload with no frame in progress are 0
and empty is the model's choice (log 24). -/
def Obligations.ResetsStartAnew : Prop :=
  ((∀ f, resetFmo.recs.get f = ⟨false, false, false, decide (f = .driverTrip)⟩)
    ∧ resetFmo.pointer = none ∧ resetFmo.snapshot = 0 ∧ resetFmo.halting = false
    ∧ (∀ i, resetFmo.armed.has i = false))
  ∧ ∀ s : State,
    (s.pins.resetLow = false →
      exec .resetnAssert s = .next { s with
        pins := { s.pins with resetLow := true }
        cfe := resetCfe s.cfe.layout, fts := resetFts, bpl := resetBpl, ptr := resetPtr
        wdc := defaultWord, ptb := resetPtb, fmo := resetFmo, cpr := .idle
        rqu := { queue := [], gap := everyChannel false, hold := none, fresh := none }
        lnk := { framer := idleFramer, buffer := [], replies := [], tx := none, quiet := 0 } })
    ∧ (s.pins.resetLow = true → ∀ i, (∀ l k, i ≠ .resetnRelease l k) → exec i s = .next s)
    ∧ (s.pins.resetLow = true → s.pending = [] → step s = .next s)
    ∧ (s.pins.resetLow = true → ∀ l k,
      exec (.resetnRelease l k) s = .next { s with
        pins := ⟨false, if l = .low then .single else .dual, k = .high, .pin⟩
        cfe := resetCfe (if l = .low then .single else .dual)
        fts := resetFts, bpl := resetBpl, ptr := resetPtr, wdc := defaultWord, ptb := resetPtb
        fmo := resetFmo, cpr := .idle
        rqu := { queue := [], gap := everyChannel false, hold := none, fresh := none }
        lnk := { framer := idleFramer, buffer := [], replies := []
                 tx := some ⟨frameBytes 0x45 0 [0x40, 0x22, 1, if l = .low then 0 else 1, 0],
                   if k = .high then 110 else 330, false⟩
                 quiet := 0 } })
    ∧ (s.pins.resetLow = false → s.cpr = .resetDue →
      exec .commandReset s = .next { s with
        pins := { s.pins with cause := .command }
        cfe := resetCfe s.cfe.layout
        fts := resetFts, bpl := resetBpl, ptr := resetPtr, wdc := defaultWord, ptb := resetPtb
        fmo := resetFmo, cpr := .idle
        rqu := { queue := [], gap := everyChannel false, hold := none, fresh := none }
        lnk := { framer := idleFramer, buffer := [], replies := []
                 tx := some ⟨frameBytes 0x45 0
                     [0x40, 0x22, 1, if s.cfe.layout = .single then 0 else 1, 1],
                   s.lnk.quiet + if s.pins.linkFast then 110 else 330, false⟩
                 quiet := 0 } })

/-- The state after reset, block by block, with the values the spec gives: chapter 1's and chapter 2's
tables, R44, R49, R56, R95, R120, R149 and the LNK row of R188. Five things in it are the model's
choice: that it is a pin reset with both straps low, the arbiter's first choice still to come (log 1);
that the reload guard's age is 0 (log 4); what sheet 1's floor, threshold, cursors and rotation pointer
hold in SINGLE, where it does not exist (log 5); that the framer's LENGTH, KIND, TAG, CRC high byte and
payload are 0 and empty (log 24); and an engine's position, ALIGN times and unsynced mark with no burst
(log 19). -/
def Obligations.ResetValues : Prop :=
  State.reset.pins = ⟨false, .single, false, .pin⟩
  ∧ State.reset.cfe = ⟨.single, false, ⟨160, 0, 96, 600, 0, 0, 96000, 57600⟩, ⟨0, 0⟩, ⟨400, 400⟩,
      ⟨idleEngine, idleEngine⟩⟩
  ∧ State.reset.fts = ⟨0, 4167, 4167, false, 0, 0, 0, .stopped, false, .noFrame,
      ⟨16667, 200, .rising, .rising⟩, .unlocked, none, none, none, false, 0, []⟩
  ∧ State.reset.bpl.active = ⟨400, 2, 5, 2, 3000, true, true⟩
  ∧ State.reset.bpl.staged = ⟨none, none, none, everyChannel false⟩
  ∧ State.reset.bpl.plan = ⟨[], []⟩ ∧ State.reset.bpl.rotation = ⟨.c3, .c3⟩
  ∧ (∀ c, State.reset.bpl.cursor.get c = ⟨0, 0⟩)
  ∧ State.reset.ptr.enabled = everyChannel true ∧ State.reset.ptr.records = []
  ∧ (∀ c, State.reset.slot c = ⟨.search, 0, 0, 0, 0, 0, [], none, false, none, none, .up, none,
      none, none⟩)
  ∧ State.reset.wdc = ⟨false, 4, true⟩
  ∧ State.reset.ptb.tools = []
  ∧ State.reset.ptb.defaults.c0 = ⟨27234, 26187, 1800, 60, 40, true, none⟩
  ∧ State.reset.ptb.defaults.c1 = ⟨24151, 23222, 1800, 60, 40, true, none⟩
  ∧ State.reset.ptb.defaults.c2 = ⟨21695, 20861, 1800, 60, 40, true, none⟩
  ∧ State.reset.ptb.defaults.c3 = ⟨19692, 18935, 1800, 60, 40, true, none⟩
  ∧ State.reset.rqu = ⟨[.announce 0x2240 1 .single .pin], everyChannel false, none, none⟩
  ∧ State.reset.lnk = ⟨⟨.hunt, 0, 0, 0, [], 0, none⟩, [], [], none, 0⟩
  ∧ State.reset.cpr = .idle

/-! ### Receiving and transmitting -/

/-- The framer's table for a byte (R176), and what it does not touch. The byte that completes a frame
(R178, R179): a CRC error raises LINK_CRC, a full buffer CMD_OVERRUN, an unknown KIND is buffered with
its mark and LINK_FRAMING, and a command is buffered. Once a frame is discarded or complete the framer
is in HUNT with no frame in progress; that the framer's LENGTH, KIND, TAG, CRC high byte and payload are
then 0 and empty is the model's choice (log 24). -/
def Obligations.FramerTakesByte : Prop :=
  ∀ (b : Byte) (s : State), s.pins.resetLow = false →
    let f := s.lnk.framer
    let go := fun (g : Framer) => exec (.receiveByte b) s
      = .next (arbitrate { s with lnk := { s.lnk with framer := g } })
    (f.st = .hunt → b = 0xC3 → ∃ g, go g ∧ g.st = .length ∧ g.gap = some 0)
    ∧ (f.st = .hunt → b ≠ 0xC3 → go f)
    ∧ (f.st = .length → b.toNat ≤ 200 →
        go { f with st := .kind, length := b.toNat, gap := some 0 })
    ∧ (f.st = .length → 200 < b.toNat → exec (.receiveByte b) s
        = .next (arbitrate (raiseFault .linkFraming
            { s with lnk := { s.lnk with framer := idleFramer } })))
    ∧ (f.st = .kind → go { f with st := .tag, kind := b, gap := some 0 })
    ∧ (f.st = .tag → go { f with
        st := if f.length = 0 then .crcHigh else .payload, tag := b, payload := [], gap := some 0 })
    ∧ (f.st = .payload → f.payload.length < f.length → go { f with
        st := if f.payload.length + 1 = f.length then .crcHigh else .payload
        payload := f.payload ++ [b], gap := some 0 })
    ∧ (f.st = .crcHigh → go { f with st := .crcLow, crcHigh := b, gap := some 0 })
    ∧ (f.st = .crcLow →
      let good := crc (BitVec.ofNat 8 f.length :: f.kind :: f.tag :: f.payload) = f.crcHigh ++ b
      let known := 1 ≤ f.kind.toNat ∧ f.kind.toNat ≤ 20
      let hunting := { s with lnk := { s.lnk with framer := idleFramer } }
      let buffered := fun m => { s with lnk := { s.lnk with
        framer := idleFramer, buffer := s.lnk.buffer ++ [⟨f.kind, f.tag, f.payload, m⟩] } }
      (¬ good → exec (.receiveByte b) s = .next (arbitrate (raiseFault .linkCrc hunting)))
      ∧ (good → 4 ≤ s.lnk.buffer.length →
          exec (.receiveByte b) s = .next (arbitrate (raiseFault .cmdOverrun hunting)))
      ∧ (good → s.lnk.buffer.length < 4 → known →
          exec (.receiveByte b) s = .next (arbitrate (buffered false)))
      ∧ (good → s.lnk.buffer.length < 4 → ¬ known →
          exec (.receiveByte b) s = .next (arbitrate (raiseFault .linkFraming (buffered true)))))

/-- The receiver takes every frame a transmitter builds (R174 to R179): whatever the KIND of a command,
the TAG and a payload of at most 200 bytes, the bytes of its frame, received one after the other from
HUNT with room in the buffer, buffer exactly that command, leave the framer in HUNT and change no fault,
setting, slot or plan. The framer starts with no frame in progress, its LENGTH, KIND, TAG, CRC high byte
and payload 0 and empty by the model's choice (log 24). -/
def Obligations.ReceiverTakesEveryFrame : Prop :=
  ∀ (kind tag : Byte) (payload : List Byte) (s : State),
    1 ≤ kind.toNat → kind.toNat ≤ 20 → payload.length ≤ 200 →
    s.pins.resetLow = false → s.lnk.framer = idleFramer → s.lnk.buffer.length < 4 →
    ∃ t, (frameBytes kind tag payload).foldlM (m := Option)
        (fun u b => match exec (.receiveByte b) u with
          | .next v => some v
          | _ => none) s = some t
      ∧ t.lnk.framer.st = .hunt ∧ t.lnk.framer.gap = none
      ∧ t.lnk.buffer = s.lnk.buffer ++ [⟨kind, tag, payload, false⟩]
      ∧ t.pins = s.pins ∧ t.cfe = s.cfe ∧ t.fts = s.fts ∧ t.bpl = s.bpl ∧ t.ptr = s.ptr
      ∧ t.wdc = s.wdc ∧ t.ptb = s.ptb ∧ t.fmo = s.fmo ∧ t.cpr = s.cpr ∧ t.pending = s.pending

/-- The arbiter gives a free transmitter to the oldest pending reply, else with no hold in force to
the head of the queue, and else leaves it free (R145, R146, R183). A frame's length is its payload's
and six bytes, at 10 µs or 10 ÷ 3 µs a byte, after the idle time the line still owes (R173, R174); each
report has its KIND and its payload of R192 and R196. -/
def Obligations.ArbiterChooses : Prop :=
  ∀ s : State,
    let free := s.pins.resetLow = false ∧ s.cpr ≠ .resetDue ∧ s.lnk.tx = none
    let byte := if s.pins.linkFast then 10 else 30
    (∀ r rest, free → s.lnk.replies = r :: rest →
      arbitrate s = { s with lnk := { s.lnk with
        replies := rest
        tx := some ⟨frameBytes r.kind r.tag r.payload,
          s.lnk.quiet + (r.payload.length + 6) * byte, r.ofReset⟩
        quiet := 0 } })
    ∧ (∀ e rest, free → s.lnk.replies = [] → s.rqu.hold = none → s.rqu.queue = e :: rest →
      ∃ kind payload, arbitrate s = { s with
          rqu := { s.rqu with queue := rest }
          lnk := { s.lnk with
            tx := some ⟨frameBytes kind 0 payload,
              s.lnk.quiet + (payload.length + 6) * byte, false⟩
            quiet := 0 } }
        ∧ (∀ c, e = .penIn c → kind = 0x41 ∧ payload = u8 c.num)
        ∧ (∀ c, e = .penOut c → kind = 0x42 ∧ payload = u8 c.num)
        ∧ (∀ c i b, e = .tool c i b → kind = 0x43 ∧ payload = u8 c.num ++ u16 i ++ u16 (b.getD 0))
        ∧ (e = .alert → kind = 0x44 ∧ payload =
            u16 (faultWord (perFault fun f => (s.fmo.recs.get f).status))
              ++ u16 (faultWord (perFault fun f => (s.fmo.recs.get f).marker))
              ++ u8 ((s.fmo.pointer.map FaultId.num).getD 255) ++ [s.fmo.snapshot]
              ++ u8 s.fts.scan.code)
        ∧ (∀ m, e = .motion m → kind = 0x40 ∧ payload.length = 34
          ∧ Holds payload 0 (u8 m.ch.num)
          ∧ Holds payload 1 (u8 (m.tilt.isSome.toNat + 2 * m.buttons.isSome.toNat
              + 4 * m.toolId.isSome.toNat))
          ∧ Holds payload 2 (u16 m.frame.toNat) ∧ Holds payload 4 (u32 m.x)
          ∧ Holds payload 8 (u32 m.y) ∧ Holds payload 12 (u16 m.pressure)
          ∧ Holds payload 14 (u8 (if m.tip = .down then 1 else 0))
          ∧ Holds payload 15 (s16 (m.tilt.getD (0, 0)).1)
          ∧ Holds payload 17 (s16 (m.tilt.getD (0, 0)).2)
          ∧ (m.buttons = none → Holds payload 19 (u8 0))
          ∧ (∀ b, m.buttons = some b →
              Holds payload 19 (u8 (b.b1.toNat + 2 * b.b2.toNat + 4 * b.tail.toNat)))
          ∧ Holds payload 20 (u16 (m.toolId.getD 0))
          ∧ Holds payload 22 (u8 (m.flags.unsynced.toNat + 2 * m.flags.pressureHeld.toNat
              + 4 * m.flags.tiltHeld.toNat + 8 * m.flags.tiltSat.toNat + 16 * m.flags.twin.toNat
              + 32 * m.flags.relocated.toNat + 64 * m.flags.realigned.toNat
              + 128 * m.gapMark.toNat))
          ∧ Holds payload 23 (u8 m.coalesced) ∧ Holds payload 24 (List.replicate 10 0))
        ∧ (∀ f v l k, e = .announce f v l k → kind = 0x45 ∧ payload =
            u16 f ++ u8 v ++ u8 l.code ++ u8 k.code))
    ∧ (¬ free → arbitrate s = s)
    ∧ (s.lnk.replies = [] → (s.rqu.hold ≠ none ∨ s.rqu.queue = []) → arbitrate s = s)

/-! ### Commands: what is common -/

/-- A command of the wrong LENGTH is answered with BAD_LENGTH and changes nothing else, for each of
the twenty kinds; an unknown KIND is answered with BAD_KIND in the reply kind 80h with the received
KIND; and whatever a command's own checks refuse, they change nothing (R2, R4, R28, R49, R95, R122,
R125, R162, R167, R181). -/
def Obligations.RefusalsChangeNothing : Prop :=
  (∀ (k : CommandKind) (i : Instr) (s : State) (c : Command) (rest : List Command),
    Takes k s c rest → rowOf c = some i → c.payload.length ≠ k.length →
    exec i s = .next (arbitrate (replied (refusal k c.tag 0x02) (taken rest s))))
  ∧ (∀ (s : State) (c : Command) (rest : List Command),
    s.pins.resetLow = false → s.cpr = .idle → s.lnk.replies.length < 2 →
    s.lnk.buffer = c :: rest → c.unknown = true →
    exec .unknownCommand s
      = .next (arbitrate (replied ⟨0x80, c.tag, [0x01, c.kind], false⟩ (taken rest s))))
  ∧ (∀ (p : List Byte) (s : State),
    ∀ rule ∈ [setLayoutRule, setPanelRule, setScanRule, setDisplayRule, setWordRule, channelsRule,
        releaseRule, loadProfileRule, dropProfileRule, readProfileRule, clearFaultsRule,
        setFaultPolicyRule, injectRule],
      (rule p s).payload.head? ≠ some 0x00 → (rule p s).state = s)

/-- A payload of the right LENGTH that carries a value its command does not take is answered with
BAD_VALUE and changes nothing else: the ranges and codes of R2, R4, R28, R49, R74, R76, R95, R121,
R122, R125, R126, R162, R165, R167, R192 and R193, SET_LAYOUT's while the layout is unfixed and
SET_PANEL's in STOPPED. -/
def Obligations.BadFieldsRefused : Prop :=
  let refused := fun (k : CommandKind) (i : Instr) (bad : List Byte → State → Prop) =>
    ∀ (s : State) (c : Command) (rest : List Command), Takes k s c rest →
      c.payload.length = k.length → bad c.payload s →
      exec i s = .next (arbitrate (replied (refusal k c.tag 0x03) (taken rest s)))
  let outside := fun (v lo hi : Nat) => v < lo ∨ hi < v
  let badCurve := fun (p : List Byte) =>
    let x := fun k => u16At p (15 + 2 * k)
    let y := fun k => u16At p (23 + 2 * k)
    (∃ k, k < 4 ∧ outside (x k) 1 4094) ∨ (∃ k, k < 3 ∧ x (k + 1) ≤ x k)
      ∨ (∃ k, k < 5 ∧ y (k + 1) < y k) ∨ 4095 < y 5
  refused .setLayout .setLayout (fun p s => s.cfe.fixed = false ∧ 1 < u8At p 0)
  ∧ refused .setPanel .setPanel (fun p s => s.fts.scan = .stopped
      ∧ ((s.cfe.layout = .single
          ∧ (outside (u8At p 0) 9 192 ∨ u8At p 1 ≠ 0 ∨ outside (u8At p 2) 9 128))
        ∨ (s.cfe.layout = .dual
          ∧ (outside (u8At p 0) 9 96 ∨ outside (u8At p 1) 9 96 ∨ outside (u8At p 2) 9 64))
        ∨ outside (u16At p 3) 400 800 ∨ 153600 < u32At p 5 ∨ 153600 < u32At p 9
        ∨ outside (u32At p 13) 1 153600 ∨ outside (u32At p 17) 1 153600))
  ∧ refused .setScan .setScan (fun p _ => outside (u16At p 0) 2400 10000
      ∨ outside (u16At p 2) 64 65535 ∨ outside (u8At p 4) 2 3 ∨ outside (u8At p 5) 4 8
      ∨ outside (u8At p 6) 2 3 ∨ outside (u16At p 7) 500 50000 ∨ 3 < u8At p 9)
  ∧ refused .setDisplay .setDisplay (fun p _ => outside (u16At p 0) 6000 32000
      ∨ outside (u16At p 2) 10 2000 ∨ 3 < u8At p 4)
  ∧ refused .setWord .setWord (fun p _ => 1 < u8At p 0 ∨ outside (u8At p 1) 4 6 ∨ 1 < u8At p 2)
  ∧ refused .channels .channels (fun p _ => 15 < u8At p 0)
  ∧ refused .release .release (fun p _ => 3 < u8At p 0)
  ∧ refused .loadProfile .loadProfile (fun p _ =>
      ¬ (u8At p 0 = 0 ∧ u16At p 1 ≤ 3) ∧ ¬ (u8At p 0 = 1 ∧ u16At p 1 ≠ 0)
      ∨ outside (u16At p 3) 10000 40000 ∨ outside (u16At p 5) 10000 40000
      ∨ u16At p 3 ≤ u16At p 5 ∨ outside (u16At p 7) 500 3000 ∨ outside (u16At p 9) 1 4095
      ∨ u16At p 9 ≤ u16At p 11 ∨ 1 < u8At p 13 ∨ 1 < u8At p 14
      ∨ (u8At p 14 = 1 ∧ badCurve p))
  ∧ refused .dropProfile .dropProfile (fun p _ => ¬ (u8At p 0 = 1 ∧ u16At p 1 ≠ 0))
  ∧ refused .readProfile .readProfile (fun p _ => ¬ (u8At p 0 = 0 ∧ u16At p 1 ≤ 3)
      ∧ ¬ (u8At p 0 = 1 ∧ u16At p 1 ≠ 0) ∧ u8At p 0 ≠ 2)
  ∧ refused .clearFaults .clearFaults (fun p _ => 1024 ≤ u16At p 1)
  ∧ refused .setFaultPolicy .setFaultPolicy (fun p _ => 1024 ≤ u16At p 0 ∨ 1024 ≤ u16At p 2)
  ∧ refused .inject .inject (fun p _ => 3 < u8At p 0 ∨ (u8At p 0 ≤ 1 ∧ 3 < u8At p 1))

/-! ### Commands that identify and set up -/

/-- QUERY_ID answers the identification and changes nothing else (R184, R194). -/
def Obligations.QueryIdReplies : Prop :=
  ∀ (s : State) (c : Command) (rest : List Command), Takes .queryId s c rest → c.payload = [] →
    exec .queryId s = .next (arbitrate (replied (okReply .queryId c.tag
      [0x40, 0x22, 1, if s.cfe.layout = .dual then 1 else 0, if s.cfe.fixed then 1 else 0,
        if s.pins.strapLayout = .dual then 1 else 0, if s.pins.linkFast then 1 else 0,
        if s.pins.cause = .command then 1 else 0,
        if s.fts.scan = .stopped then 0 else if s.fts.scan = .running then 1 else 2,
        if s.fts.stopReq then 1 else 0]) (taken rest s)))

/-- SET_LAYOUT while the layout is unfixed: the layout named with its panel defaults, floors 0,
thresholds at the detect minimum, cursors band 0, the layout fixed (R2, R17, R185), the rotation
pointers kept but for a sheet 1 it brings into being, whose pointer is channel 3 (R44, R47); while it is
fixed, WRONG_STATE whatever it names. What sheet 1's floor, threshold and cursors hold in SINGLE, where
it does not exist, is the model's choice (log 5). SET_PANEL in STOPPED replaces the record as a whole
and sets every cursor to band 0, where every field lies in its range; outside STOPPED it is refused with
WRONG_STATE whatever the values (R4). -/
def Obligations.GeometryCommandsTake : Prop :=
  (∀ (s : State) (c : Command) (rest : List Command) (l : Layout) (b : Byte),
     Takes .setLayout s c rest → c.payload = [b] →
     (s.cfe.fixed = false → b.toNat = (if l = .single then 0 else 1) →
       s.bpl.active.detectMin ≤ 65535 →
       exec .setLayout s = .next (arbitrate (replied (okReply .setLayout c.tag [b])
         { taken rest s with
           cfe := { s.cfe with
             layout := l, fixed := true, floor := ⟨0, 0⟩
             threshold := ⟨s.bpl.active.detectMin, s.bpl.active.detectMin⟩
             panel := if l = .single then ⟨160, 0, 96, 600, 0, 0, 96000, 57600⟩
               else ⟨80, 80, 64, 600, 0, 0, 96000, 38400⟩ }
           bpl := { s.bpl with
             cursor := everyChannel ⟨0, 0⟩
             rotation := if s.cfe.layout = .single ∧ l = .dual then
               { s.bpl.rotation with s1 := .c3 } else s.bpl.rotation } })))
     ∧ (s.cfe.fixed = true → exec .setLayout s
         = .next (arbitrate (replied (refusal .setLayout c.tag 0x04) (taken rest s)))))
  ∧ (∀ (s : State) (c : Command) (rest : List Command) (g : Panel), Takes .setPanel s c rest →
     c.payload = u8 g.n0 ++ u8 g.n1 ++ u8 g.yCount ++ u16 g.pitch ++ u32 g.originX ++ u32 g.originY
       ++ u32 g.width ++ u32 g.height →
     (s.fts.scan = .stopped →
       (s.cfe.layout = .single → 9 ≤ g.n0 ∧ g.n0 ≤ 192 ∧ g.n1 = 0 ∧ 9 ≤ g.yCount ∧ g.yCount ≤ 128) →
       (s.cfe.layout = .dual → 9 ≤ g.n0 ∧ g.n0 ≤ 96 ∧ 9 ≤ g.n1 ∧ g.n1 ≤ 96
         ∧ 9 ≤ g.yCount ∧ g.yCount ≤ 64) →
       400 ≤ g.pitch → g.pitch ≤ 800 → g.originX ≤ 153600 → g.originY ≤ 153600 →
       1 ≤ g.width → g.width ≤ 153600 → 1 ≤ g.height → g.height ≤ 153600 →
       exec .setPanel s = .next (arbitrate (replied (okReply .setPanel c.tag [])
         { taken rest s with
           cfe := { s.cfe with panel := g }
           bpl := { s.bpl with cursor := everyChannel (everySheet 0) } })))
     ∧ (s.fts.scan ≠ .stopped → exec .setPanel s
         = .next (arbitrate (replied (refusal .setPanel c.tag 0x04) (taken rest s)))))

/-- SET_SCAN puts the frame period into the reload latch at once and stages the other seven
settings; SET_WORD, CHANNELS and RELEASE stage their item; each answers the effective frame; a RELEASE
of a channel whose slot is IDLE is refused with WRONG_STATE. SET_DISPLAY replaces its four settings at
once and returns the lock monitor to UNLOCKED with nothing known (R22, R28, R49, R50, R52, R74, R76,
R95). -/
def Obligations.SettingsCommandsTake : Prop :=
  (∀ (s : State) (c : Command) (rest : List Command) (period : Nat) (r : ScanSettings),
     Takes .setScan s c rest →
     c.payload = u16 period ++ u16 r.detectMin ++ u8 r.confirm ++ u8 r.missWindow ++ u8 r.missLimit
       ++ u16 r.jump ++ u8 (r.edgeReload.toNat + 2 * r.align.toNat) →
     2400 ≤ period → period ≤ 10000 → 64 ≤ r.detectMin → r.detectMin ≤ 65535 →
     2 ≤ r.confirm → r.confirm ≤ 3 → 4 ≤ r.missWindow → r.missWindow ≤ 8 →
     2 ≤ r.missLimit → r.missLimit ≤ 3 → 500 ≤ r.jump → r.jump ≤ 50000 →
     exec .setScan s = .next (arbitrate (replied
       (okReply .setScan c.tag (u16 (s.fts.frameNo + 1).toNat))
       { taken rest s with
         fts := { s.fts with latch := period }
         bpl := { s.bpl with staged := { s.bpl.staged with scan := some r } } })))
  ∧ (∀ (s : State) (c : Command) (rest : List Command),
     let stages := fun k i g => exec i s = .next (arbitrate (replied
       (okReply k c.tag (u16 (s.fts.frameNo + 1).toNat))
       { taken rest s with bpl := { s.bpl with staged := g } }))
     (∀ strict debounce w, Takes .setWord s c rest →
       c.payload = u8 strict.toNat ++ u8 w ++ u8 debounce.toNat → 4 ≤ w → w ≤ 6 →
       stages .setWord .setWord { s.bpl.staged with word := some ⟨strict, w, debounce⟩ })
     ∧ (∀ set : PerChannel Bool, Takes .channels s c rest →
         c.payload = u8 (set.c0.toNat + 2 * set.c1.toNat + 4 * set.c2.toNat + 8 * set.c3.toNat) →
         stages .channels .channels { s.bpl.staged with enable := some set })
     ∧ (∀ ch : Channel, Takes .release s c rest → c.payload = u8 ch.num →
         (s.slot ch).state ≠ .idle →
         stages .release .release
           { s.bpl.staged with releases := s.bpl.staged.releases.set ch true })
     ∧ (∀ ch : Channel, Takes .release s c rest → c.payload = u8 ch.num →
         (s.slot ch).state = .idle → exec .release s
           = .next (arbitrate (replied (refusal .release c.tag 0x04) (taken rest s)))))
  ∧ (∀ (s : State) (c : Command) (rest : List Command) (period tolerance : Nat) (ff lf : Bool),
     Takes .setDisplay s c rest →
     c.payload = u16 period ++ u16 tolerance ++ u8 (ff.toNat + 2 * lf.toNat) →
     6000 ≤ period → period ≤ 32000 → 10 ≤ tolerance → tolerance ≤ 2000 →
     exec .setDisplay s = .next (arbitrate (replied (okReply .setDisplay c.tag [])
       { taken rest s with fts := { s.fts with
           display := ⟨period, tolerance, if ff then .falling else .rising,
             if lf then .falling else .rising⟩
           lock := .unlocked, capture := none, history := [], consec := 0, gap := none
           acq := none, timeoutRaised := false } })))

/-! ### START, STOP, HOLD and RESET -/

/-- START from STOPPED with no halting condition: the layout is fixed, the timer takes the latch, and
the first frame opens in RUNNING on the state so left, as every frame opens (`FrameOpened`): its number
incremented, every staged item taken up, a budget of its own, the plans that slots and cursors after the
take-up give, each sheet's rotation pointer after its plan and each engine at its PROBE (R2, R7, R8,
R17, R23, R24, R25, R35, R40, R41, R44, R51, R76); that an engine's ALIGN times begin at 0 and absent,
and what sheet 1 holds in SINGLE, are the model's choice (log 19, log 5); with a halting condition it
opens a planless frame in HALTED; in RUNNING it cancels a pending stop request; in HALTED it changes
nothing (R35). -/
def Obligations.StartOpensFirstFrame : Prop :=
  ∀ (s : State) (c : Command) (rest : List Command), Takes .start s c rest → c.payload = [] →
    (s.fts.scan = .stopped → s.fmo.halting = false →
      ∃ t, exec .start s = .next (arbitrate (replied (okReply .start c.tag [1]) t))
        ∧ t.fts = { s.fts with
            scan := .running, frame := .planned, frameNo := s.fts.frameNo + 1
            period := s.fts.latch, timerOn := true, timer := 0, age := 0 }
        ∧ t.cfe.fixed = true ∧ t.cfe.layout = s.cfe.layout ∧ t.cfe.panel = s.cfe.panel
        ∧ t.cfe.floor = s.cfe.floor
        ∧ (∀ sh, sheetGet t.cfe.threshold sh = match s.bpl.staged.scan with
            | none => sheetGet s.cfe.threshold sh
            | some r => min 65535 (max r.detectMin (4 * sheetGet s.cfe.floor sh)))
        ∧ t.bpl.staged = ⟨none, none, none, everyChannel false⟩
        ∧ t.bpl.active = s.bpl.staged.scan.getD s.bpl.active
        ∧ t.wdc = s.bpl.staged.word.getD s.wdc
        ∧ t.ptr.enabled = s.bpl.staged.enable.getD s.ptr.enabled
        ∧ t.ptr.records = s.ptr.records
        ∧ t.bpl.budget = min 40 ((s.fts.latch - 300) / 210)
        ∧ ((∀ d, (s.slot d).state.active = false) → t.rqu = s.rqu
          ∧ ∀ d, t.slot d = match s.bpl.staged.enable with
            | none => s.slot d
            | some set => { s.slot d with state := if set.get d then .search else .idle })
        ∧ t.pins = s.pins ∧ t.ptb = s.ptb ∧ t.fmo = s.fmo ∧ t.cpr = s.cpr
        ∧ t.lnk = (taken rest s).lnk
        ∧ let v := { taken rest s with
            cfe := { s.cfe with fixed := true }, fts := { reloaded s.fts with scan := .running } }
          t = openFrame v ∧ FrameOpened v t)
    ∧ (s.fts.scan = .stopped → s.fmo.halting = true →
      exec .start s = .next (arbitrate (replied (okReply .start c.tag [2]) { taken rest s with
        cfe := { s.cfe with fixed := true }
        fts := { s.fts with
          scan := .halted, frame := .planless, period := s.fts.latch, timerOn := true
          timer := 0, age := 0 } })))
    ∧ (s.fts.scan = .running →
      exec .start s = .next (arbitrate (replied (okReply .start c.tag [1])
        { taken rest s with fts := { s.fts with stopReq := false } })))
    ∧ (s.fts.scan = .halted →
      exec .start s = .next (arbitrate (replied (okReply .start c.tag [2]) (taken rest s))))

/-- STOP disarms every injection (R169); in RUNNING it sets the stop request, from HALTED it stops at
once without a close, in STOPPED it changes nothing more (R36). That the stopped frame timer keeps its
count is the model's choice (log 19). HOLD sets the hold timer to n × 256 µs, ends any hold with n = 0,
and answers the occupancy (R147). RESET places its OK reply and the CPR takes nothing more until the
command reset (R187). -/
def Obligations.StopHoldResetTake : Prop :=
  ∀ (s : State) (c : Command) (rest : List Command),
    (Takes .stop s c rest → c.payload = [] →
      exec .stop s = .next (arbitrate (replied
        (okReply .stop c.tag [if s.fts.scan = .running then 1 else 0])
        { taken rest s with
          fmo := { s.fmo with armed := ⟨everyChannel false, everyChannel false, false, false⟩ }
          fts := if s.fts.scan = .running then { s.fts with stopReq := true }
            else if s.fts.scan = .halted then
              { s.fts with scan := .stopped, stopReq := false, timerOn := false, frame := .noFrame }
            else s.fts })))
    ∧ (∀ n, Takes .hold s c rest → c.payload = u16 n → n ≤ 65535 →
      exec .hold s = .next (arbitrate (replied
        (okReply .hold c.tag (u8 s.rqu.queue.length ++ u8 (s.rqu.queue.countP Entry.isMotion)))
        { taken rest s with
          rqu := { s.rqu with hold := if n = 0 then none else some (n * 256) } })))
    ∧ (Takes .reset s c rest → c.payload = [] →
      exec .reset s = .next (arbitrate (replied ⟨0x82, c.tag, [0x00], true⟩
        { taken rest s with cpr := .resetWaits })))

/-! ### The Profile Table and the track table -/

/-- LOAD_PROFILE stores exactly the record whose bytes it carries, in the order READ_PROFILE sends them;
with the curve indicator 0 its twenty curve bytes may hold anything (R122, R193). Of a DEFAULT target it
moves no binding. Of a TOOL target with room it stores the record under its ID and no other, and binds
every slot of that tool ID to it, in slot order, handing a TOOL for the slots whose binding moves and
for no other; the reply gives the records held and the channels bound to the record; nothing else
changes. Without room it is refused with TABLE_FULL (R122, R123, R124, R129, R193, R194). -/
def Obligations.LoadProfileStores : Prop :=
  let carries := fun (r : Profile) (p : List Byte) => p.length = 32
    ∧ p.take 12 = (profileBytes r).take 12 ∧ (r.curve ≠ none → p = profileBytes r)
  (∀ (s : State) (c : Command) (rest : List Command) (ch : Channel) (r : Profile)
     (p : List Byte), Takes .loadProfile s c rest → profileValid r = true → carries r p →
     c.payload = u8 0 ++ u16 ch.num ++ p →
     exec .loadProfile s = .next (arbitrate (replied
       (okReply .loadProfile c.tag (u8 s.ptb.tools.length
         ++ u8 (if (s.slot ch).bound = none then 2 ^ ch.num else 0)))
       { taken rest s with ptb := { s.ptb with defaults := s.ptb.defaults.set ch r } })))
  ∧ (∀ (s : State) (c : Command) (rest : List Command) (id : Nat) (r : Profile)
     (p : List Byte), Takes .loadProfile s c rest → profileValid r = true → carries r p →
     1 ≤ id → id ≤ 65535 → c.payload = u8 1 ++ u16 id ++ p →
     let moves := fun ch => (s.slot ch).toolId = some id ∧ (s.slot ch).bound ≠ some id
     ((∃ q, toolRecord s.ptb id = some q) ∨ s.ptb.tools.length < 16 →
       ∃ t, exec .loadProfile s = .next (arbitrate (replied (okReply .loadProfile c.tag
             (u8 t.ptb.tools.length
               ++ u8 (ofBits (Channel.all.map fun ch => (t.slot ch).bound = some id)))) t))
         ∧ toolRecord t.ptb id = some r
         ∧ (∀ k, k ≠ id → toolRecord t.ptb k = toolRecord s.ptb k)
         ∧ (TableLegal s.ptb → t.ptb.tools.length
             = s.ptb.tools.length + if (toolRecord s.ptb id).isSome then 0 else 1)
         ∧ t.ptb.defaults = s.ptb.defaults
         ∧ (∀ ch, t.slot ch = if (s.slot ch).toolId = some id
             then { s.slot ch with bound := some id } else s.slot ch)
         ∧ t.rqu = Channel.all.foldl
             (fun r ch => if moves ch then r.handTool ch id (some id) else r) s.rqu
         ∧ (∀ ch, moves ch → Entry.tool ch id (some id) ∈ t.rqu.queue)
         ∧ t.rqu.queue.filter (fun e => !Channel.all.any (Entry.isToolOf · e))
             = s.rqu.queue.filter (fun e => !Channel.all.any (Entry.isToolOf · e))
         ∧ t = { taken rest s with
             ptb := t.ptb, rqu := t.rqu, ptr := { s.ptr with slots := t.ptr.slots } })
     ∧ (toolRecord s.ptb id = none → 16 ≤ s.ptb.tools.length →
         exec .loadProfile s
           = .next (arbitrate (replied (refusal .loadProfile c.tag 0x05) (taken rest s)))))

/-- DROP_PROFILE removes the record of its ID and no other, rebinds every slot of that tool ID to its
channel's default, in slot order, with a TOOL for the slots whose binding moves and for no other, and
raises no PROFILE_MISS; the reply gives the records held and the channels of that tool ID; nothing else
changes. An ID not held is refused with NOT_FOUND (R125, R129, R194). -/
def Obligations.DropProfileRebinds : Prop :=
  ∀ (s : State) (c : Command) (rest : List Command) (id : Nat),
    Takes .dropProfile s c rest → 1 ≤ id → id ≤ 65535 → c.payload = u8 1 ++ u16 id →
    let moves := fun ch => (s.slot ch).toolId = some id ∧ (s.slot ch).bound ≠ none
    (∀ q, toolRecord s.ptb id = some q →
      ∃ t, exec .dropProfile s = .next (arbitrate (replied (okReply .dropProfile c.tag
            (u8 t.ptb.tools.length
              ++ u8 (ofBits (Channel.all.map fun ch => (s.slot ch).toolId = some id)))) t))
        ∧ toolRecord t.ptb id = none
        ∧ (∀ k, k ≠ id → toolRecord t.ptb k = toolRecord s.ptb k)
        ∧ (TableLegal s.ptb → t.ptb.tools.length + 1 = s.ptb.tools.length)
        ∧ t.ptb.defaults = s.ptb.defaults
        ∧ (∀ ch, t.slot ch = if (s.slot ch).toolId = some id
            then { s.slot ch with bound := none } else s.slot ch)
        ∧ t.rqu = Channel.all.foldl
            (fun r ch => if moves ch then r.handTool ch id none else r) s.rqu
        ∧ (∀ ch, moves ch → Entry.tool ch id none ∈ t.rqu.queue)
        ∧ t = { taken rest s with
            ptb := t.ptb, rqu := t.rqu, ptr := { s.ptr with slots := t.ptr.slots } })
    ∧ (toolRecord s.ptb id = none →
        exec .dropProfile s
          = .next (arbitrate (replied (refusal .dropProfile c.tag 0x06) (taken rest s))))

/-- READ_PROFILE answers the record named with the slots bound to it, or the directory, and changes
nothing; an ID not held is refused with NOT_FOUND (R126, R127, R194). -/
def Obligations.ReadProfileReads : Prop :=
  ∀ (s : State) (c : Command) (rest : List Command), Takes .readProfile s c rest →
    let answers := fun body => exec .readProfile s
      = .next (arbitrate (replied (okReply .readProfile c.tag body) (taken rest s)))
    (∀ ch : Channel, c.payload = u8 0 ++ u16 ch.num →
      answers (u8 0 ++ u16 ch.num ++ profileBytes (s.ptb.defaults.get ch)
        ++ u8 (if (s.slot ch).bound = none then 2 ^ ch.num else 0)))
    ∧ (∀ id r, 1 ≤ id → id ≤ 65535 → c.payload = u8 1 ++ u16 id → toolRecord s.ptb id = some r →
        answers (u8 1 ++ u16 id ++ profileBytes r
          ++ u8 (ofBits (Channel.all.map fun ch => (s.slot ch).bound = some id))))
    ∧ (∀ v, c.payload = u8 2 ++ u16 v →
        answers (u8 s.ptb.tools.length ++ s.ptb.tools.flatMap fun e =>
          u16 e.1 ++ u8 (ofBits (Channel.all.map fun ch => (s.slot ch).bound = some e.1))))
    ∧ (∀ id, 1 ≤ id → id ≤ 65535 → c.payload = u8 1 ++ u16 id → toolRecord s.ptb id = none →
        exec .readProfile s
          = .next (arbitrate (replied (refusal .readProfile c.tag 0x06) (taken rest s))))

/-- READ_TRACK changes nothing, and its reply of 140 bytes holds every field of R195 at its offset: the
scan state, the stop request, the frame number, the lock state, the enable set; of each slot the state,
flags, window centre, last position, confirm count, miss window, pending relocation, tool ID and bound
record; the cursors, rotation pointers, budgets and plan lengths, sheet 1's as 0 in SINGLE; the staged
items and the armed set (R54, R97, R171, R186, R191, R195). -/
def Obligations.ReadTrackShowsTable : Prop :=
  ∀ (s : State) (c : Command) (rest : List Command), Takes .readTrack s c rest → c.payload = [] →
    let one := fun n => if s.cfe.layout = .dual then n else 0
    let staged := s.bpl.staged
    let armed := s.fmo.armed
    ∃ p, exec .readTrack s
        = .next (arbitrate (replied ⟨0x8F, c.tag, p, false⟩ (taken rest s)))
      ∧ p.length = 140
      ∧ Holds p 0 (u8 0) ∧ Holds p 1 (u8 s.fts.scan.code) ∧ Holds p 2 (u8 s.fts.stopReq.toNat)
      ∧ Holds p 3 (u16 s.fts.frameNo.toNat) ∧ Holds p 5 (u8 s.fts.lock.code)
      ∧ Holds p 6 (u8 (ofBits (Channel.all.map s.ptr.enabled.get)))
      ∧ (∀ ch : Channel,
          let sl := s.slot ch
          let offset := sl.word.bind (·.aligned)
          let shows := fun k l => Holds p (7 + 29 * ch.num + k) l
          shows 0 (u8 sl.state.code)
          ∧ shows 1 (u8 (sl.prox.toNat + 2 * sl.tip.code + 4 * sl.pendingRel.isSome.toNat
              + 8 * offset.isSome.toNat + 16 * ((sl.word.map (·.mimic)).getD false).toNat
              + 32 * offset.getD 0))
          ∧ shows 2 (u8 sl.centreX) ∧ shows 3 (u8 sl.centreY)
          ∧ shows 4 (s32 sl.lastX) ∧ shows 8 (s32 sl.lastY) ∧ shows 12 (u8 sl.confirm)
          ∧ shows 13 (u8 sl.misses.length) ∧ shows 14 (u8 (ofBits (sl.misses.take 8)))
          ∧ (sl.pendingRel = none → shows 15 (List.replicate 10 0))
          ∧ (∀ r, sl.pendingRel = some r →
              shows 15 (s32 r.x) ∧ shows 19 (s32 r.y) ∧ shows 23 (u16 r.frame.toNat))
          ∧ shows 25 (u16 (sl.toolId.getD 0)) ∧ shows 27 (u16 (sl.bound.getD 0)))
      ∧ (∀ ch : Channel, Holds p (123 + 2 * ch.num) (u8 (s.bpl.cursor.get ch).s0)
        ∧ Holds p (124 + 2 * ch.num) (u8 (one (s.bpl.cursor.get ch).s1)))
      ∧ Holds p 131 (u8 s.bpl.rotation.s0.num) ∧ Holds p 132 (u8 (one s.bpl.rotation.s1.num))
      ∧ Holds p 133 (u8 s.bpl.budget) ∧ Holds p 134 (u8 (one s.bpl.budget))
      ∧ Holds p 135 (u8 s.bpl.plan.s0.length) ∧ Holds p 136 (u8 (one s.bpl.plan.s1.length))
      ∧ Holds p 137 (u8 (staged.scan.isSome.toNat + 2 * staged.word.isSome.toNat
          + 4 * staged.enable.isSome.toNat
          + 8 * (Channel.all.any staged.releases.get).toNat))
      ∧ Holds p 138 (u8 (ofBits (Channel.all.map armed.tipMiss.get)
          + 16 * ofBits (Channel.all.map armed.collarFlip.get)))
      ∧ Holds p 139 (u8 (armed.edgeDrop.toNat + 2 * armed.driverTrip.toNat))

/-! ### Faults -/

/-- READ_FAULTS increments the snapshot number, clears every since-read marker and answers the fault
state; statuses, masks, severities, the pointer and the scan state stay (R161, R194). -/
def Obligations.ReadFaultsOpensSnapshot : Prop :=
  ∀ (s : State) (c : Command) (rest : List Command), Takes .readFaults s c rest → c.payload = [] →
    exec .readFaults s = .next (arbitrate (replied
      (okReply .readFaults c.tag (u16 (faultWord (perFault fun f => (s.fmo.recs.get f).status))
        ++ u16 (faultWord (perFault fun f => (s.fmo.recs.get f).masked))
        ++ u16 (faultWord (perFault fun f => (s.fmo.recs.get f).halt))
        ++ u8 ((s.fmo.pointer.map FaultId.num).getD 255) ++ [s.fmo.snapshot + 1]))
      { taken rest s with fmo := { s.fmo with
          snapshot := s.fmo.snapshot + 1
          recs := perFault fun f => { s.fmo.recs.get f with marker := false } } }))

/-- CLEAR_FAULTS with the current snapshot number clears the status of each fault named whose marker
is clear, empties a pointer to one of them, and lets a HALTED part run where no halting condition
remains; with another number it is refused with STALE and the current one (R160, R162, R163). -/
def Obligations.ClearFaultsClears : Prop :=
  ∀ (s : State) (c : Command) (rest : List Command) (b : Byte) (named : PerFault Bool),
    Takes .clearFaults s c rest → c.payload = b :: u16 (faultWord named) →
    (s.fts.scan = .running → s.fmo.halting = false) →
    (s.fts.scan = .halted → s.fmo.halting = true) →
    (b = s.fmo.snapshot →
      ∃ t, (∀ f, t.fmo.recs.get f = { s.fmo.recs.get f with
            status := (s.fmo.recs.get f).status && !(named.get f && !(s.fmo.recs.get f).marker) })
        ∧ t.fmo.pointer = s.fmo.pointer.filter (fun f =>
            !(named.get f && (s.fmo.recs.get f).status && !(s.fmo.recs.get f).marker))
        ∧ t = { taken rest s with
            fmo := { s.fmo with recs := t.fmo.recs, pointer := t.fmo.pointer }
            fts := { s.fts with scan :=
              if s.fts.scan = .halted ∧ t.fmo.halting = false then .running else s.fts.scan } }
        ∧ exec .clearFaults s = .next (arbitrate (replied (okReply .clearFaults c.tag
            (u16 (faultWord (perFault fun f =>
                named.get f && (s.fmo.recs.get f).status && !(s.fmo.recs.get f).marker))
              ++ u16 (faultWord (perFault fun f => (t.fmo.recs.get f).status))
              ++ u8 ((t.fmo.pointer.map FaultId.num).getD 255) ++ u8 t.fts.scan.code)) t)))
    ∧ (b ≠ s.fmo.snapshot → exec .clearFaults s = .next (arbitrate
        (replied ⟨0x92, c.tag, [0x07, s.fmo.snapshot], false⟩ (taken rest s))))

/-- SET_FAULT_POLICY replaces every mask and severity, and at once halts a RUNNING part where a
halting condition then holds, and lets a HALTED part run where none does (R157, R158, R160, R165). -/
def Obligations.SetFaultPolicyActsAtOnce : Prop :=
  ∀ (s : State) (c : Command) (rest : List Command) (mask halt : PerFault Bool),
    Takes .setFaultPolicy s c rest →
    c.payload = u16 (faultWord mask) ++ u16 (faultWord halt) →
    let f := { s.fmo with recs := perFault fun f =>
      { s.fmo.recs.get f with masked := mask.get f, halt := halt.get f } }
    let t := { taken rest s with fmo := f }
    let answers := fun u => exec .setFaultPolicy s
      = .next (arbitrate (replied (okReply .setFaultPolicy c.tag (u8 u.fts.scan.code)) u))
    (f.halting = true → s.fts.scan = .running → answers (enterHalt t))
    ∧ (f.halting = true → s.fts.scan ≠ .running → answers t)
    ∧ (f.halting = false → s.fts.scan = .halted →
        answers { t with fts := { s.fts with scan := .running } })
    ∧ (f.halting = false → s.fts.scan ≠ .halted → answers t)

/-- INJECT adds its member to the armed set, whatever the channel byte of EDGE_DROP and DRIVER_TRIP;
a member already armed is refused with ARMED (R167). -/
def Obligations.InjectArms : Prop :=
  ∀ (s : State) (c : Command) (rest : List Command) (i : Injection) (b : Byte),
    Takes .inject s c rest →
    c.payload = (match i with
      | .tipMiss ch => u8 0 ++ u8 ch.num
      | .collarFlip ch => u8 1 ++ u8 ch.num
      | .edgeDrop => [2, b]
      | .driverTrip => [3, b]) →
    (s.fmo.armed.has i = false →
      ∃ a, exec .inject s = .next (arbitrate (replied (okReply .inject c.tag [])
          { taken rest s with fmo := { s.fmo with armed := a } }))
        ∧ ∀ j, a.has j = (s.fmo.armed.has j || decide (j = i)))
    ∧ (s.fmo.armed.has i = true → exec .inject s
        = .next (arbitrate (replied (refusal .inject c.tag 0x08) (taken rest s))))

/-- A setting event (R154, R155, R156, R158): the status and the marker are set whatever the mask; a
masked fault does nothing more; an unmasked one loads an empty pointer, leaves one ALERT unsent, and
halts a RUNNING part where a halting condition then holds. In a close's processing it does the same but
for the halt, which waits until the processing is done (R159). -/
def Obligations.RaiseRecords : Prop :=
  ∀ (f : FaultId) (s : State),
    let r := s.fmo.recs.get f
    let t := raiseFault f s
    t.fmo.recs = s.fmo.recs.set f { r with status := true, marker := true }
    ∧ t.fmo.snapshot = s.fmo.snapshot ∧ t.fmo.armed = s.fmo.armed
    ∧ t.fmo.pointer = (if r.masked then s.fmo.pointer else s.fmo.pointer.or (some f))
    ∧ (r.masked = true → t = { s with fmo := t.fmo })
    ∧ (r.masked = false → .alert ∈ t.rqu.queue)
    ∧ recordFault f s = { s with
        fmo := t.fmo
        rqu := if r.masked = true ∨ .alert ∈ s.rqu.queue then s.rqu
          else { s.rqu with queue := s.rqu.queue ++ [.alert] } }
    ∧ (r.masked = false → (t.fmo.halting = false ∨ s.fts.scan ≠ .running) →
        t = { s with fmo := t.fmo, rqu := { s.rqu with
          queue := if .alert ∈ s.rqu.queue then s.rqu.queue else s.rqu.queue ++ [.alert] } })
    ∧ (r.masked = false → t.fmo.halting = true → s.fts.scan = .running →
        t = enterHalt { s with fmo := t.fmo, rqu := { s.rqu with
          queue := if .alert ∈ s.rqu.queue then s.rqu.queue else s.rqu.queue ++ [.alert] } })

/-- HALTED entry (R9, R38, R71, R78): engines IDLE, plans and results gone, every slot in CONFIRM or
TRACK ended into SEARCH, in slot order, with an OUT handed where its proximity was sent, and the others
kept, with cursors, faults and settings; the frame timer runs on. A stop request turns the entry into a
stop; that the stopped frame timer keeps its count is the model's choice (log 19). -/
def Obligations.HaltEntryClears : Prop :=
  ∀ s : State,
    let t := enterHalt s
    t.cfe = { s.cfe with engine := ⟨⟨.idle, 0, 0, none, false⟩, ⟨.idle, 0, 0, none, false⟩⟩ }
    ∧ t.bpl = { s.bpl with plan := ⟨[], []⟩, budget := 0 }
    ∧ t.ptr.records = [] ∧ t.ptr.enabled = s.ptr.enabled
    ∧ (∀ c, t.slot c = if (s.slot c).state.active then { s.slot c with
          state := .search, confirm := 0, misses := [], pendingRel := none, prox := false
          toolId := none, bound := none, tip := .up, heldPressure := none, heldTilt := none
          word := none }
        else s.slot c)
    ∧ t.rqu = Channel.all.foldl (fun r c =>
        if (s.slot c).state.active = true ∧ (s.slot c).prox = true then r.handOut c else r) s.rqu
    ∧ t.fts = (if s.fts.stopReq then
          { s.fts with scan := .stopped, stopReq := false, timerOn := false, frame := .noFrame }
        else { s.fts with scan := .halted, frame := .planless })
    ∧ t = { s with cfe := t.cfe, bpl := t.bpl, ptr := t.ptr, rqu := t.rqu, fts := t.fts }

/-! ### Display sync and the timers -/

/-- An FSYNC edge outside LOCKED (R27, R29, R30, R31): in UNLOCKED it begins an attempt; in
ACQUIRING the count rises on an interval in tolerance and falls to 0 on one out of it, and the third in
a row locks, that edge being offered for edge reload (R33); that the lock then returns the count to 0
and clears the SYNC_TIMEOUT mark is the model's choice (log 19). An edge of the other polarity is not
captured, and an armed EDGE_DROP leaves the next active edge uncaptured, in every lock state. -/
def Obligations.FsyncAcquires : Prop :=
  ∀ (p : Polarity) (s : State), s.pins.resetLow = false →
    let f := { s.fts with capture := some s.fts.timebase, gap := some 0 }
    let becomes := fun g => exec (.fsyncEdge p) s = .next (arbitrate { s with fts := g })
    let fits := fun e : Half =>
      s.fts.display.period ≤ (s.fts.timebase - e).toNat + s.fts.display.tolerance
        ∧ (s.fts.timebase - e).toNat ≤ s.fts.display.period + s.fts.display.tolerance
    let judged := p = s.fts.display.frameSync ∧ s.fmo.armed.edgeDrop = false
    (p ≠ s.fts.display.frameSync → exec (.fsyncEdge p) s = .next s)
    ∧ (p = s.fts.display.frameSync → s.fmo.armed.edgeDrop = true →
      exec (.fsyncEdge p) s = .next (arbitrate { s with fmo := { s.fmo with
        armed := { s.fmo.armed with edgeDrop := false } } }))
    ∧ (judged → s.fts.lock = .unlocked → becomes { f with
      lock := .acquiring, consec := 0, acq := some 0, timeoutRaised := false })
    ∧ (judged → s.fts.lock = .acquiring → s.fts.capture = none → becomes f)
    ∧ (∀ e, judged → s.fts.lock = .acquiring → s.fts.capture = some e → ¬ fits e →
        becomes { f with consec := 0 })
    ∧ (∀ e, judged → s.fts.lock = .acquiring → s.fts.capture = some e → fits e →
        s.fts.consec < 2 → becomes { f with consec := s.fts.consec + 1 })
    ∧ (∀ e, judged → s.fts.lock = .acquiring → s.fts.capture = some e → fits e →
        s.fts.consec = 2 →
        let g := { f with
          lock := .locked, consec := 0, acq := none, timeoutRaised := false
          history := [true, true, true] }
        ((s.fts.scan = .stopped ∨ s.bpl.active.edgeReload = false) → becomes g)
        ∧ (s.fts.scan ≠ .stopped → s.bpl.active.edgeReload = true → s.fts.age < 300 →
          becomes { g with period := s.fts.latch, timerOn := true, timer := 0 })
        ∧ (s.fts.scan ≠ .stopped → s.bpl.active.edgeReload = true → 300 ≤ s.fts.age →
          exec (.fsyncEdge p) s = .next (arbitrate (boundary { s with fts := g }))))

/-- A captured FSYNC edge in LOCKED (R32, R33): two judgements out of tolerance among the last four
lose the lock and raise SYNC_LOST; an edge that keeps it reloads the frame timer, with a frame
boundary where the frame has been open for 300 µs. -/
def Obligations.FsyncInLocked : Prop :=
  ∀ (p : Polarity) (s : State), s.pins.resetLow = false →
    p = s.fts.display.frameSync → s.fmo.armed.edgeDrop = false → s.fts.lock = .locked →
    let fits := fun e : Half => decide
      (s.fts.display.period ≤ (s.fts.timebase - e).toNat + s.fts.display.tolerance
        ∧ (s.fts.timebase - e).toNat ≤ s.fts.display.period + s.fts.display.tolerance)
    let history := match s.fts.capture with
      | none => s.fts.history
      | some e => (s.fts.history ++ [fits e]).drop (s.fts.history.length + 1 - 4)
    let kept := { s.fts with capture := some s.fts.timebase, gap := some 0, history := history }
    let becomes := fun t => exec (.fsyncEdge p) s = .next (arbitrate t)
    (2 ≤ history.count false → becomes (raiseFault .syncLost { s with fts := { s.fts with
      lock := .unlocked, capture := none, gap := none, acq := none, timeoutRaised := false
      consec := 0, history := [] } }))
    ∧ (history.count false < 2 → (s.fts.scan = .stopped ∨ s.bpl.active.edgeReload = false) →
        becomes { s with fts := kept })
    ∧ (history.count false < 2 → s.fts.scan ≠ .stopped → s.bpl.active.edgeReload = true →
        s.fts.age < 300 → becomes { s with fts := { kept with
          period := s.fts.latch, timerOn := true, timer := 0 } })
    ∧ (history.count false < 2 → s.fts.scan ≠ .stopped → s.bpl.active.edgeReload = true →
        300 ≤ s.fts.age → becomes (boundary { s with fts := kept }))

/-- FRAMER_GAP_EXPIRY: 1,000 µs with no byte during a frame discard it, raise LINK_FRAMING and return
the framer to HUNT with its gap timer stopped (R177); that the framer's LENGTH, KIND, TAG, CRC high byte
and payload are then 0 and empty is the model's choice (log 24). TRANSMIT_COMPLETE frees the
transmitter, the line then owing an idle time of at least one bit (R173), and the last byte of a RESET's
reply makes the command reset due (R146, R183, R187). HOLD_TIMER_EXPIRY ends the hold (R148). Of the
lock monitor's timers (R29, R31, R32), 2 × E µs without an edge make the capture unusable in ACQUIRING
and lose the lock with SYNC_LOST in LOCKED, and 64 × E µs of an attempt raise SYNC_TIMEOUT once. -/
def Obligations.TimersExpire : Prop :=
  ∀ (n : Nat) (s : State), s.pins.resetLow = false →
    (s.lnk.framer.gap = some n → 1000 ≤ n →
      exec .framerGapExpiry s = .next (arbitrate (raiseFault .linkFraming
        { s with lnk := { s.lnk with framer := ⟨.hunt, 0, 0, 0, [], 0, none⟩ } })))
    ∧ (∀ x, s.lnk.tx = some x → x.left = 0 →
      ∃ idle, (if s.pins.linkFast then 1 else 3) ≤ idle
        ∧ exec .transmitComplete s = .next (arbitrate { s with
          lnk := { s.lnk with tx := none, quiet := idle }
          cpr := if x.ofReset = true ∧ s.cpr = .resetWaits then .resetDue else s.cpr
          free := s.free + 1 }))
    ∧ (s.rqu.hold = some 0 →
      exec .holdTimerExpiry s = .next (arbitrate { s with rqu := { s.rqu with hold := none } }))
    ∧ (s.fts.gap = some n → 2 * s.fts.display.period ≤ n → s.fts.lock = .acquiring →
      exec .syncGapTimerExpiry s = .next (arbitrate { s with fts := { s.fts with
        consec := 0, capture := none, gap := none } }))
    ∧ (s.fts.gap = some n → 2 * s.fts.display.period ≤ n → s.fts.lock = .locked →
      exec .lockTimerExpiry s = .next (arbitrate (raiseFault .syncLost { s with fts := { s.fts with
        lock := .unlocked, capture := none, gap := none, acq := none, timeoutRaised := false
        consec := 0, history := [] } })))
    ∧ (s.fts.acq = some n → 64 * s.fts.display.period ≤ n → s.fts.lock = .acquiring →
      s.fts.timeoutRaised = false →
      exec .acquisitionTimeout s = .next (arbitrate (raiseFault .syncTimeout
        { s with fts := { s.fts with timeoutRaised := true } })))
    ∧ (s.fts.timeoutRaised = true → exec .acquisitionTimeout s = .next s)

/-! ### Frame boundaries -/

/-- A frame boundary after which no planned frame opens, and FRAME_CUT; the boundary is that of
FRAME_TIMER_EXPIRY and of an edge reload alike (R23, R24, R33). In HALTED the planless frame closes and
another opens: only the timer and the active period move, and the frame number is held (R22, R23, R24,
R25). With a stop request pending, where no fault that a boundary raises can halt the part, the closing
frame is processed (`FrameClosed`) and the stop carried out after it (`StopCarriedOut`): STOPPED, the
timer stopped, no frame open, every slot in SEARCH or IDLE and every enabled slot's cursors at band 0,
while the frame number, the staged items and the lock state stay (R24, R37, R77); the order 0..3 of the
OUTs is the model's choice (log 22), and so is that the stopped timer keeps its count and its active
period (log 19). A FRAME_CUT of HALT severity halts the part at once, with nothing handed to the tracker
(log 14, DEDUCED; R38, R78). A fault of HALT severity raised in the processing of the close does not
interrupt it: the reports stay queued, HALTED entry follows, and the next frame opens in HALTED,
planless, with its number held (R38, R159); with a stop request pending too the part is STOPPED, by the
entry or by the stop, whichever a free value takes first (log 9). And where no such fault can halt the
part, FRAME_CUT is raised at the close of a planned frame exactly where it leaves an entry PLANNED or
IN_FLIGHT (R26). -/
def Obligations.BoundaryCloses : Prop :=
  ∀ s : State,
    let t := boundary s
    let opensHalted := fun (u : State) => { u with
      fts := { reloaded u.fts with frame := .planless, age := 0 } }
    (s.pins.resetLow = false → s.fts.timerOn = true → s.fts.period ≤ s.fts.timer →
      exec .frameTimerExpiry s = .next (arbitrate t))
    ∧ (s.fts.scan = .halted → s.fts.frame ≠ .planned →
      t = { s with
        cfe := { s.cfe with engine := everySheet idleEngine }
        bpl := { s.bpl with plan := everySheet [], budget := 0 }
        ptr := { s.ptr with records := [] }
        fts := { reloaded s.fts with frame := .planless, age := 0 } })
    ∧ (s.fts.scan = .running → s.fts.stopReq = true → NoHaltBy boundaryFaults s.fmo →
      t.fts = { s.fts with
          scan := .stopped, stopReq := false, timerOn := false, frame := .noFrame }
        ∧ (∀ c, (t.slot c).state = .idle ∨ (t.slot c).state = .search)
        ∧ (∀ c, (t.slot c).state = .search → t.bpl.cursor.get c = ⟨0, 0⟩)
        ∧ t.bpl.staged = s.bpl.staged ∧ t.bpl.active = s.bpl.active
        ∧ t.bpl.plan = everySheet [] ∧ t.cfe = { s.cfe with engine := everySheet idleEngine }
        ∧ t.ptr.records = [] ∧ t.ptr.enabled = s.ptr.enabled
        ∧ t.ptb = s.ptb ∧ t.wdc = s.wdc ∧ t.lnk = s.lnk
        ∧ ∃ u, FrameClosed s u ∧ StopCarriedOut u t)
    ∧ (s.fts.scan = .running → s.fts.frame = .planned → LeavesUnrun s →
      (s.fmo.recs.get .frameCut).masked = false → (s.fmo.recs.get .frameCut).halt = true →
      t = if s.fts.stopReq then enterHalt (closing s)
        else opensHalted (enterHalt (closing s)))
    ∧ (s.fts.scan = .running → s.fts.frame = .planned → (closing s).fmo.halting = false →
      (closedSlots s).fmo.halting = true →
      ∃ u, CloseProcessed s u
        ∧ (s.fts.stopReq = false → t = opensHalted (enterHalt u))
        ∧ (s.fts.stopReq = true →
          let drawn := { u with free := u.free + 1 }
          t = enterHalt drawn ∨ StopCarriedOut drawn t))
    ∧ (s.fts.scan = .running → s.fts.frame = .planned → NoHaltBy boundaryFaults s.fmo →
      ((t.fmo.recs.get .frameCut).status = true
        ↔ (s.fmo.recs.get .frameCut).status = true ∨ LeavesUnrun s))

/-- A frame boundary in RUNNING with no stop pending, where no fault that a boundary raises can halt the
part; the boundary is that of FRAME_TIMER_EXPIRY and of an edge reload alike (R23, R24, R33). The
current frame closes (`FrameClosed`): where it was planned, the slots 0..3 have been closed in order on
its records, their reports queued and their faults raised, an ALERT of the close anywhere among its
reports (R133), and records and plans are discarded (R24, R48, R59). The next frame then opens on the
state so left (`FrameOpened`): in RUNNING with its number incremented, the timer reloaded, every staged
item taken up, a budget of its own, the plans that the slots as the close and the take-up left them
give, for the sheets of the layout, each sheet's rotation pointer after its plan and each engine at its
PROBE; layout, geometry, floors, profiles and link stay (R7, R8, R22 to R25, R40, R41, R44, R51). That
an engine's ALIGN times begin at 0 and absent, and what sheet 1 holds in SINGLE, are the model's choice
(log 19, log 5). -/
def Obligations.RunningBoundaryOpensNext : Prop :=
  ∀ s : State,
    s.fts.scan = .running → s.fts.stopReq = false → NoHaltBy boundaryFaults s.fmo →
    let t := boundary s
    (s.pins.resetLow = false → s.fts.timerOn = true → s.fts.period ≤ s.fts.timer →
        exec .frameTimerExpiry s = .next (arbitrate t))
      ∧ t.fts = { reloaded s.fts with
          frameNo := s.fts.frameNo + 1, frame := .planned, age := 0 }
      ∧ t.bpl.staged = ⟨none, none, none, everyChannel false⟩
      ∧ t.bpl.active = s.bpl.staged.scan.getD s.bpl.active
      ∧ t.wdc = s.bpl.staged.word.getD s.wdc
      ∧ t.ptr.enabled = s.bpl.staged.enable.getD s.ptr.enabled
      ∧ t.bpl.budget = min 40 ((s.fts.latch - 300) / 210)
      ∧ t.ptr.records = []
      ∧ t.cfe.layout = s.cfe.layout ∧ t.cfe.fixed = s.cfe.fixed ∧ t.cfe.panel = s.cfe.panel
      ∧ t.cfe.floor = s.cfe.floor
      ∧ t.pins = s.pins ∧ t.ptb = s.ptb ∧ t.lnk = s.lnk ∧ t.cpr = s.cpr
      ∧ ∃ u, FrameClosed s u
        ∧ u.cfe.layout = s.cfe.layout ∧ u.cfe.panel = s.cfe.panel ∧ u.bpl.rotation = s.bpl.rotation
        ∧ (let v := { u with fts := reloaded u.fts }
           t = openFrame v ∧ FrameOpened v t)

/-! ### Bursts -/

/-- EXCITATION_END places the listening once for every sheet of the burst: aligned where the sync is
LOCKED and listen alignment enabled, and else at once with the unsynced mark. An active LSYNC edge
starts the guard on each engine in ALIGN; 3 µs later listening starts aligned, and 64 µs without an
edge start it with the unsynced mark; an edge of the other polarity does nothing (R8). That an engine's
ALIGN times are 0 and absent from the start of a state on is the model's choice (log 19). -/
def Obligations.ListeningPlaced : Prop :=
  (∀ (sh : Sheet) (s : State), s.pins.resetLow = false → (s.engine sh).st = .excite →
     let aligned := s.fts.lock = .locked ∧ s.bpl.active.align = true
     ∃ t, exec (.excitationEnd sh) s = .next (arbitrate t)
       ∧ (∀ x, t.engine x = if x = sh ∨ (s.burstAt sh).any Burst.straddles = true
           then { s.engine x with
             st := if aligned then .align else .listen, wait := 0, since := none
             unsynced := !decide aligned }
           else s.engine x)
       ∧ t = { s with cfe := { s.cfe with engine := t.cfe.engine } })
  ∧ (∀ (sh : Sheet) (s : State), s.pins.resetLow = false →
     let listens := fun (i : Instr) (mark : Bool) => ∃ t, exec i s = .next (arbitrate t)
       ∧ (∀ x, t.engine x = if x = sh ∨ (s.burstAt sh).any Burst.straddles = true
           then { s.engine x with st := .listen, wait := 0, since := none, unsynced := mark }
           else s.engine x)
       ∧ t = { s with cfe := { s.cfe with engine := t.cfe.engine } }
     (∀ p, p = s.fts.display.lineSync → ∃ t, exec (.lsyncEdge p) s = .next (arbitrate t)
       ∧ (∀ x, t.engine x = if (s.engine x).st = .align ∧ (s.engine x).since = none
           then { s.engine x with since := some 0 } else s.engine x)
       ∧ t = { s with cfe := { s.cfe with engine := t.cfe.engine } })
     ∧ (∀ p, p ≠ s.fts.display.lineSync → exec (.lsyncEdge p) s = .next s)
     ∧ (∀ n, (s.engine sh).st = .align → (s.engine sh).since = some n → 3 ≤ n →
         listens (.listenGuardEnd sh) false)
     ∧ ((s.engine sh).st = .align → (s.engine sh).since = none → 64 ≤ (s.engine sh).wait →
         listens (.alignTimeout sh) true))

/-- An engine starts the entry it is at (R7, R8, R15, R41). A PROBE has its listening placed at the
start: ALIGN where the sync is LOCKED and listen alignment enabled, and else LISTEN with the unsynced
mark. A TIP, COLLAR or SEARCH that does not straddle enters EXCITE. A straddling burst enters PAIRED,
its entry still PLANNED, until the other sheet's engine, waiting in PAIRED, is at the same burst: then
both enter EXCITE. What starts is in flight. Past the last entry the engine is IDLE. A completed burst,
and one that an overcurrent ends without halting the part, lets the engine of each of its sheets start
the next entry so; and at a frame open in RUNNING each sheet of the layout starts the PROBE of its new
plan. That the ALIGN times are 0 and absent from the start of a state on is the model's choice (log 19).
-/
def Obligations.EntriesStart : Prop :=
  (∀ (sh : Sheet) (s : State),
     let t := beginEntry s sh
     let aligned := s.fts.lock = .locked ∧ s.bpl.active.align = true
     let entered := fun (x : Sheet) (st : EngineState) (mark : Bool) =>
       t.engine x = { s.engine x with st := st, wait := 0, since := none, unsynced := mark }
     let flies := fun x => sheetGet t.bpl.plan x
       = (sheetGet s.bpl.plan x).modify (s.engine x).pos fun e => { e with run := .inFlight }
     let kept := fun x => sheetGet t.bpl.plan x = sheetGet s.bpl.plan x
     let alone := t.engine (otherSheet sh) = s.engine (otherSheet sh) ∧ kept (otherSheet sh)
     let pairs := fun b => (s.engine (otherSheet sh)).st = .paired
       ∧ s.burstAt (otherSheet sh) = some b
     (s.burstAt sh = none → entered sh .idle false ∧ kept sh ∧ alone)
     ∧ (s.burstAt sh = some .probe →
         entered sh (if aligned then .align else .listen) (!decide aligned) ∧ flies sh ∧ alone)
     ∧ (∀ b, s.burstAt sh = some b → b ≠ .probe → b.straddles = false →
         entered sh .excite false ∧ flies sh ∧ alone)
     ∧ (∀ b, s.burstAt sh = some b → b.straddles = true → ¬ pairs b →
         entered sh .paired false ∧ kept sh ∧ alone)
     ∧ (∀ b, s.burstAt sh = some b → b.straddles = true → pairs b →
         ∀ x, entered x .excite false ∧ flies x)
     ∧ t = { s with
         cfe := { s.cfe with engine := t.cfe.engine }, bpl := { s.bpl with plan := t.bpl.plan } })
  ∧ (∀ (sh : Sheet) (b : Burst) (s : State), s.pins.resetLow = false →
     s.burstAt sh = some b → s.fmo.armed.driverTrip = false →
     let sheets := if b.straddles then [Sheet.s0, Sheet.s1] else [sh]
     let goesOn := fun (i : Instr) => ∃ u, exec i s = .next (arbitrate (sheets.foldl beginEntry u))
       ∧ (∀ x, u.engine x = if x ∈ sheets then { idleEngine with pos := (s.engine x).pos + 1 }
           else s.engine x)
       ∧ (∀ x, (sheetGet u.bpl.plan x).map (·.burst) = (sheetGet s.bpl.plan x).map (·.burst))
       ∧ u.bpl.active = s.bpl.active ∧ u.fts = s.fts ∧ u.cfe.layout = s.cfe.layout
     (∀ r, (s.engine sh).st = .listen → goesOn (.burstComplete sh r))
     ∧ ((s.engine sh).st = .excite → s.fts.frame = .planned → NoHaltBy [.driverTrip] s.fmo →
         goesOn (.driverOvercurrent sh)))
  ∧ (∀ s : State, s.fts.scan = .running →
     let t := openFrame s
     let aligned := s.fts.lock = .locked ∧ t.bpl.active.align = true
     ∀ sh, (sh = .s1 → s.cfe.layout = .dual) →
       t.engine sh = { idleEngine with
         st := if aligned then .align else .listen, unsynced := !decide aligned }
       ∧ (sheetGet t.bpl.plan sh).head? = some ⟨.probe, .inFlight⟩
       ∧ ∀ e ∈ (sheetGet t.bpl.plan sh).tail, e.run = .planned)

/-- BURST_COMPLETE of a PROBE (R10, R11, R17): its record holds the greatest amplitude on the sheet's
X coils, the floor moves by an eighth of the difference, the threshold follows, and the entry is
COMPLETED. -/
def Obligations.ProbeMovesFloor : Prop :=
  ∀ (sh : Sheet) (r : Reading) (s : State), s.pins.resetLow = false →
    (s.engine sh).st = .listen → s.burstAt sh = some .probe → s.fmo.armed.driverTrip = false →
    ∃ t a, exec (.burstComplete sh r) s = .next (arbitrate t)
      ∧ t.ptr = { s.ptr with records := s.ptr.records ++ [.probe sh (s.engine sh).unsynced a] }
      ∧ (∀ k, k < s.cfe.panel.xCount sh → (r.x.getD k 0).toNat ≤ a)
      ∧ (0 < s.cfe.panel.xCount sh → ∃ k, k < s.cfe.panel.xCount sh ∧ (r.x.getD k 0).toNat = a)
      ∧ sheetGet t.cfe.floor sh = (7 * sheetGet s.cfe.floor sh + a) / 8
      ∧ sheetGet t.cfe.threshold sh
          = min 65535 (max s.bpl.active.detectMin (4 * sheetGet t.cfe.floor sh))
      ∧ sheetGet t.cfe.floor (otherSheet sh) = sheetGet s.cfe.floor (otherSheet sh)
      ∧ sheetGet t.cfe.threshold (otherSheet sh) = sheetGet s.cfe.threshold (otherSheet sh)
      ∧ ((sheetGet t.bpl.plan sh)[(s.engine sh).pos]?).map (·.run) = some .completed
      ∧ (t.engine sh).pos = (s.engine sh).pos + 1
      ∧ t.fts = s.fts ∧ t.fmo = s.fmo ∧ t.rqu = s.rqu ∧ t.bpl.cursor = s.bpl.cursor

/-- BURST_COMPLETE of a SEARCH (R10, R16, R46): the record names the coil of the greatest amplitude on
each axis, the lowest on a tie, and the smaller of the two amplitudes; a band that is the cursor's
advances it, from the last band to 0, and another leaves it. Its entry is COMPLETED and the engine one
entry on (R41), and floors and thresholds stay. -/
def Obligations.SearchFindsPeak : Prop :=
  ∀ (sh : Sheet) (r : Reading) (c : Channel) (band : Nat) (s : State), s.pins.resetLow = false →
    (s.engine sh).st = .listen → s.burstAt sh = some (.search c band) →
    s.fmo.armed.driverTrip = false → 16 * band < s.cfe.panel.xCount sh → 0 < s.cfe.panel.yCount →
    let n := min 16 (s.cfe.panel.xCount sh - 16 * band)
    let x := fun k => (r.x.getD k 0).toNat
    let y := fun k => ((sheetGet r.y sh).getD k 0).toNat
    ∃ t px py, exec (.burstComplete sh r) s = .next (arbitrate t)
      ∧ t.ptr.records = s.ptr.records ++ [.search sh c (s.engine sh).unsynced band
          (s.cfe.panel.xBase sh + 16 * band + px) py (min (x px) (y py))]
      ∧ px < n ∧ (∀ k, k < n → x k ≤ x px) ∧ (∀ k, k < px → x k < x px)
      ∧ py < s.cfe.panel.yCount ∧ (∀ k, k < s.cfe.panel.yCount → y k ≤ y py)
      ∧ (∀ k, k < py → y k < y py)
      ∧ sheetGet (t.bpl.cursor.get c) sh
          = (if band = sheetGet (s.bpl.cursor.get c) sh
            then (band + 1) % ((s.cfe.panel.xCount sh + 15) / 16)
            else sheetGet (s.bpl.cursor.get c) sh)
      ∧ (∀ d x', (d ≠ c ∨ x' ≠ sh) →
          sheetGet (t.bpl.cursor.get d) x' = sheetGet (s.bpl.cursor.get d) x')
      ∧ (sheetGet t.bpl.plan sh)[(s.engine sh).pos]? = some ⟨.search c band, .completed⟩
      ∧ (t.engine sh).pos = (s.engine sh).pos + 1
      ∧ t.cfe.floor = s.cfe.floor ∧ t.cfe.threshold = s.cfe.threshold
      ∧ t.fts = s.fts ∧ t.fmo = s.fmo ∧ t.rqu = s.rqu ∧ t.ptr.slots = s.ptr.slots

/-- BURST_COMPLETE of a TIP or COLLAR (R10, R13, R14, R15): nine amplitudes on X, nine on the Y of each
sheet fired and none of the other; a TIP's period count is present exactly where the ringing on the
counter coil stayed at its sheet's half-threshold level and the count fits 65535. On each sheet fired,
both where it straddles, the entry is COMPLETED and the engine one entry on (R41, R43); floors,
thresholds and cursors stay. -/
def Obligations.WindowBurstsRecord : Prop :=
  ∀ (sh : Sheet) (r : Reading) (c : Channel) (wx wy : Nat) (st : Bool) (s : State),
    s.pins.resetLow = false → (s.engine sh).st = .listen → s.fmo.armed.driverTrip = false →
    let nine := fun (l : List Half) => (List.range 9).map fun k => (l.getD k 0).toNat
    let fired := fun x => x = sh ∨ st = true
    let w : WindowRec := ⟨c, (s.engine sh).unsynced, wx, wy, nine r.x,
      ⟨if fired .s0 then nine r.y.s0 else [], if fired .s1 then nine r.y.s1 else []⟩⟩
    let completed := fun (t : State) => ∀ x, fired x →
      (t.engine x).pos = (s.engine x).pos + 1
      ∧ ∀ e, (sheetGet s.bpl.plan x)[(s.engine x).pos]? = some e →
          (sheetGet t.bpl.plan x)[(s.engine x).pos]? = some { e with run := .completed }
    (s.burstAt sh = some (.collar c wx wy st) →
      ∃ t, exec (.burstComplete sh r) s = .next (arbitrate t)
        ∧ t.ptr = { s.ptr with records := s.ptr.records ++ [.collar w] }
        ∧ completed t ∧ t.cfe.floor = s.cfe.floor ∧ t.cfe.threshold = s.cfe.threshold
        ∧ t.fts = s.fts ∧ t.fmo = s.fmo ∧ t.rqu = s.rqu ∧ t.bpl.cursor = s.bpl.cursor)
    ∧ (s.burstAt sh = some (.tip c wx wy st) →
      ∃ t coil period, exec (.burstComplete sh r) s = .next (arbitrate t)
        ∧ t.ptr = { s.ptr with records := s.ptr.records ++ [.tip w period] }
        ∧ coil < 9 ∧ (∀ k, k < 9 → (r.x.getD k 0).toNat ≤ (r.x.getD coil 0).toNat)
        ∧ (∀ k, k < coil → (r.x.getD k 0).toNat < (r.x.getD coil 0).toNat)
        ∧ period = (if sheetGet s.cfe.threshold
              (sheetOfCoil s.cfe.layout s.cfe.panel (wx + coil)) / 2 ≤ r.ringLow.toNat
            ∧ r.ringTicks ≤ 65535 then some r.ringTicks else none)
        ∧ completed t ∧ t.cfe.floor = s.cfe.floor ∧ t.cfe.threshold = s.cfe.threshold
        ∧ t.fts = s.fts ∧ t.fmo = s.fmo ∧ t.rqu = s.rqu ∧ t.bpl.cursor = s.bpl.cursor)

/-- DRIVER_OVERCURRENT (R7, R9, R19, R20, R38). Where it does not halt the part: no record, the entry
UNRUN, DRIVER_TRIP set with its marker, and the engine at its next entry; floors, cursors and slots
stay. In RUNNING with DRIVER_TRIP unmasked at HALT severity: HALTED at once, the burst of either sheet
abandoned, plans and results gone, no slot with a pen, and the ALERT waiting or on TXD. And an armed
DRIVER_TRIP does the same to the next burst of one sheet that enters EXCITE, under the one policy and
the other, and is consumed by it. -/
def Obligations.OvercurrentEndsBurst : Prop :=
  ∀ (sh : Sheet) (s : State), s.pins.resetLow = false →
    let tripped := s.fmo.recs.set .driverTrip
      { s.fmo.recs.get .driverTrip with status := true, marker := true }
    ((s.engine sh).st = .excite → s.fts.frame = .planned → NoHaltBy [.driverTrip] s.fmo →
      s.fmo.armed.driverTrip = false → (s.burstAt sh).isSome = true →
      ∃ t, exec (.driverOvercurrent sh) s = .next (arbitrate t)
        ∧ t.ptr = s.ptr
        ∧ ((sheetGet t.bpl.plan sh)[(s.engine sh).pos]?).map (·.run) = some .unrun
        ∧ (t.engine sh).pos = (s.engine sh).pos + 1
        ∧ t.fmo.recs = tripped
        ∧ t.cfe.floor = s.cfe.floor ∧ t.bpl.cursor = s.bpl.cursor ∧ t.fts = s.fts)
    ∧ ((s.engine sh).st = .excite → s.fts.scan = .running → s.fts.stopReq = false →
      (s.fmo.recs.get .driverTrip).masked = false → (s.fmo.recs.get .driverTrip).halt = true →
      ∃ t, exec (.driverOvercurrent sh) s = .next (arbitrate t)
        ∧ t.fts = { s.fts with scan := .halted, frame := .planless }
        ∧ t.cfe = { s.cfe with engine := everySheet idleEngine }
        ∧ t.bpl = { s.bpl with plan := everySheet [], budget := 0 }
        ∧ t.ptr.records = [] ∧ (∀ c, (t.slot c).state.active = false)
        ∧ t.fmo.recs = tripped
        ∧ t.fmo.pointer = s.fmo.pointer.or (some .driverTrip)
        ∧ .alert ∈ t.rqu.queue)
    ∧ (∀ r b next, (s.engine sh).st = .listen → s.fts.frame = .planned → NoHaltBy [.driverTrip] s.fmo →
      s.fmo.armed.driverTrip = true → s.burstAt sh = some b → b.straddles = false →
      (sheetGet s.bpl.plan sh)[(s.engine sh).pos + 1]? = some next → next.burst ≠ .probe →
      next.burst.straddles = false →
      ∃ t, exec (.burstComplete sh r) s = .next (arbitrate t)
        ∧ t.ptr.records.length = s.ptr.records.length + 1
        ∧ (sheetGet t.bpl.plan sh)[(s.engine sh).pos + 1]? = some { next with run := .unrun }
        ∧ (t.engine sh).pos = (s.engine sh).pos + 2
        ∧ t.fmo.recs = tripped
        ∧ t.fmo.armed = { s.fmo.armed with driverTrip := false }
        ∧ t.fts = s.fts)
    ∧ (∀ r b next, (s.engine sh).st = .listen → s.fts.scan = .running → s.fts.stopReq = false →
      s.fts.frame = .planned →
      (s.fmo.recs.get .driverTrip).masked = false → (s.fmo.recs.get .driverTrip).halt = true →
      s.fmo.armed.driverTrip = true → s.burstAt sh = some b → b.straddles = false →
      (sheetGet s.bpl.plan sh)[(s.engine sh).pos + 1]? = some next → next.burst ≠ .probe →
      next.burst.straddles = false →
      ∃ t, exec (.burstComplete sh r) s = .next (arbitrate t)
        ∧ t.fts = { s.fts with scan := .halted, frame := .planless }
        ∧ t.cfe.engine = everySheet idleEngine
        ∧ t.bpl.plan = everySheet [] ∧ t.bpl.budget = 0
        ∧ t.ptr.records = [] ∧ (∀ c, (t.slot c).state.active = false)
        ∧ t.fmo = { s.fmo with
            recs := tripped, pointer := s.fmo.pointer.or (some .driverTrip)
            armed := { s.fmo.armed with driverTrip := false } }
        ∧ .alert ∈ t.rqu.queue)

/-- What the pins show. TXD is high while RESETN is low and while no frame is sent; a frame goes out
byte after byte without idle time, each with a low start bit, its eight bits least significant first and
a high stop bit, the line high before the first start bit; and the ten bits of a byte sampled on RXD
spell that byte whatever the stop bit (R173). In EXCITE a sheet's driver drives its burst's frequency
over the X coils of the burst that lie on that sheet, against EXA for sheet 0 and EXB for sheet 1; in
LISTEN the sheet samples its burst's bands on the same X coils and, but for a PROBE, on its Y coils;
no other line is driven or sampled, and none of a sheet that the layout does not have (R1, R6, R11, R13
to R16). -/
def Obligations.PinsShowLineAndCoils : Prop :=
  (∀ s : State,
    ((s.pins.resetLow = true ∨ s.lnk.tx = none) → s.txd = true)
    ∧ (∀ x, s.pins.resetLow = false → s.lnk.tx = some x →
      let bit := if s.pins.linkFast then 1 else 3
      (10 * x.bytes.length * bit < x.left → s.txd = true)
      ∧ (∀ k j d, k < x.bytes.length → j < 10 → d < bit →
          x.left + (10 * k + j) * bit + d = 10 * x.bytes.length * bit →
          s.txd = (if j = 0 then false else if j = 9 then true
            else (x.bytes.getD k 0).getLsbD (j - 1)))))
  ∧ (∀ (b : Byte) (stop : Bool),
      sampledByte (false :: (List.range 8).map b.getLsbD ++ [stop]) = b)
  ∧ (∀ (s : State) (sh : Sheet) (b : Burst),
    (sh = .s1 → s.cfe.layout = .dual) → s.burstAt sh = some b →
    let p := s.cfe.panel
    let first := if sh = .s0 then 0 else p.n0
    let count := if sh = .s0 then p.n0 else p.n1
    let onSheet := fun i => s.cfe.layout = .dual → if sh = .s0 then i < p.n0 else p.n0 ≤ i
    let xBase := if sh = .s0 then 0 else 160
    let yBase := if s.cfe.layout = .single then 192 else if sh = .s0 then 96 else 256
    let tips : Channel → Nat := (⟨470, 530, 590, 650⟩ : PerChannel Nat).get
    let collars : Channel → Nat := (⟨440, 500, 560, 620⟩ : PerChannel Nat).get
    let xOf := fun l => match b with
      | .probe => ∃ k, k < count ∧ l = xBase + k
      | .tip _ wx _ _ => ∃ i, wx ≤ i ∧ i ≤ wx + 8 ∧ onSheet i ∧ l = xBase + (i - first)
      | .collar _ wx _ _ => ∃ i, wx ≤ i ∧ i ≤ wx + 8 ∧ onSheet i ∧ l = xBase + (i - first)
      | .search _ n => ∃ k, 16 * n ≤ k ∧ k ≤ 16 * n + 15 ∧ k < count ∧ l = xBase + k
    let yOf := fun l => match b with
      | .probe => False
      | .tip _ _ wy _ => ∃ j, wy ≤ j ∧ j ≤ wy + 8 ∧ l = yBase + j
      | .collar _ _ wy _ => ∃ j, wy ≤ j ∧ j ≤ wy + 8 ∧ l = yBase + j
      | .search _ _ => ∃ j, j < p.yCount ∧ l = yBase + j
    ((s.engine sh).st = .excite → match b with
      | .probe => s.driveOn sh = none
      | .tip c _ _ _ => ∃ lines, s.driveOn sh
            = some ⟨tips c, lines, if sh = .s0 then .exa else .exb⟩ ∧ ∀ l, l ∈ lines ↔ xOf l
      | .collar c _ _ _ => ∃ lines, s.driveOn sh
            = some ⟨collars c, lines, if sh = .s0 then .exa else .exb⟩ ∧ ∀ l, l ∈ lines ↔ xOf l
      | .search c _ => ∃ lines, s.driveOn sh
            = some ⟨tips c, lines, if sh = .s0 then .exa else .exb⟩ ∧ ∀ l, l ∈ lines ↔ xOf l)
    ∧ ((s.engine sh).st ≠ .excite → s.driveOn sh = none)
    ∧ ((s.engine sh).st = .listen → ∃ m, s.samplesOn sh = some m
        ∧ m.bands = (match b with
          | .probe => [.tip .c0, .tip .c1, .tip .c2, .tip .c3]
          | .tip c _ _ _ => [.tip c]
          | .collar c _ _ _ => [.collar c]
          | .search c _ => [.tip c])
        ∧ (∀ l, l ∈ m.x ↔ xOf l) ∧ (∀ l, l ∈ m.y ↔ yOf l))
    ∧ ((s.engine sh).st ≠ .listen → s.samplesOn sh = none))
  ∧ (∀ s : State, s.cfe.layout = .single → s.driveOn .s1 = none ∧ s.samplesOn .s1 = none)

/-! ### The planner -/

/-- The plan of a sheet under a budget of at least 10 (R41, R42, R44, R45): the PROBE first, never
longer than the budget, as long as it where a channel is in SEARCH, and with no SEARCH where none is.
The search positions go to the channels in SEARCH in turn: the first to the first such channel after the
rotation pointer in cyclic order, each next to the first after the one before, and the pointer becomes
the channel of the last, or stays where there is none. No channel in SEARCH has two SEARCH entries more
than another, and the k-th SEARCH entry of a channel, counting from 0, names the band k after the
channel's cursor on that sheet, modulo the sheet's ceil(n ÷ 16) bands. -/
def Obligations.PlanFillsBudget : Prop :=
  ∀ (layout : Layout) (p : Panel) (slots : PerChannel Slot) (cursor : PerChannel (PerSheet Nat))
    (budget : Nat) (rotation : Channel) (sh : Sheet), 10 ≤ budget →
    let built := sheetPlan layout p slots cursor budget rotation sh
    let plan := built.1
    let searching := fun (c : Channel) => (slots.get c).state = .search
    let turns := plan.filterMap fun e => match e.burst with
      | .search c _ => some c
      | _ => none
    let bandsOf := fun (c : Channel) => plan.filterMap fun e => match e.burst with
      | .search d b => if d = c then some b else none
      | _ => none
    let ahead := fun (a b : Channel) => (b.num + 3 - a.num) % 4
    (∀ k a b, (rotation :: turns)[k]? = some a → (rotation :: turns)[k + 1]? = some b →
        searching b ∧ ∀ d, ahead a d < ahead a b → ¬ searching d)
    ∧ built.2 = (turns.getLast?).getD rotation
    ∧ (∀ c d, searching c → searching d → (bandsOf c).length ≤ (bandsOf d).length + 1)
    ∧ (∀ c, ¬ searching c → bandsOf c = [])
    ∧ (∀ c, bandsOf c = (List.range (bandsOf c).length).map fun k =>
        (sheetGet (cursor.get c) sh + k) % ((p.xCount sh + 15) / 16))
    ∧ plan.head? = some ⟨.probe, .planned⟩
    ∧ plan.length ≤ budget
    ∧ ((∃ c, searching c) → plan.length = budget)
    ∧ (∀ e ∈ plan, e.run = .planned)

/-- The fixed entries of a plan (R12, R41, R42, R43): after the PROBE, in channel order, a TIP and
directly after it a COLLAR for each channel in CONFIRM or TRACK whose window belongs to the sheet, both
of the window that lies around the slot's centre, shifted inward at a panel edge, and both marked
straddling on each sheet where the window has coils of both; then SEARCH entries alone, of channels in
SEARCH and of bands the sheet has. A frame that opens in RUNNING has these plans of the state its
take-up leaves, for the sheets of its layout, and each such sheet's rotation pointer moves as its plan
says (R25, R40, R41, R44, R51). -/
def Obligations.FixedEntriesPlanned : Prop :=
  (∀ (layout : Layout) (p : Panel) (slots : PerChannel Slot) (cursor : PerChannel (PerSheet Nat))
     (budget : Nat) (rotation : Channel) (sh : Sheet), (sh = .s1 → layout = .dual) →
     let n := p.n0 + if layout = .dual then p.n1 else 0
     let low := fun (centre coils : Nat) => (max 0 (min ((centre : Int) - 4) ((coils : Int) - 9))).toNat
     let wx := fun c => low (slots.get c).centreX n
     let wy := fun c => low (slots.get c).centreY p.yCount
     let belongs := fun c => layout = .dual → if sh = .s0 then wx c < p.n0 else p.n0 ≤ wx c + 8
     let straddles := fun c => decide (layout = .dual ∧ wx c < p.n0 ∧ p.n0 ≤ wx c + 8)
     let tracked := fun c => (slots.get c).state = .confirm ∨ (slots.get c).state = .track
     ∃ search, (sheetPlan layout p slots cursor budget rotation sh).1
         = ⟨.probe, .planned⟩ :: (Channel.all.flatMap fun c =>
             if tracked c ∧ belongs c then
               [⟨.tip c (wx c) (wy c) (straddles c), .planned⟩,
                 ⟨.collar c (wx c) (wy c) (straddles c), .planned⟩]
             else []) ++ search
       ∧ (∀ e ∈ search, ∃ c b, e = ⟨.search c b, .planned⟩ ∧ (slots.get c).state = .search
           ∧ (0 < p.xCount sh → 16 * b < p.xCount sh)))
  ∧ (∀ s : State, s.fts.scan = .running →
     let u := takeUp { s with fts := { s.fts with
       frameNo := s.fts.frameNo + 1, frame := .planned, age := 0 } }
     let t := openFrame s
     let planned := fun sh => sheetPlan u.cfe.layout u.cfe.panel u.ptr.slots u.bpl.cursor
       (min 40 ((s.fts.period - 300) / 210)) (sheetGet u.bpl.rotation sh) sh
     t.bpl.plan.s0.map (·.burst) = (planned .s0).1.map (·.burst)
     ∧ t.bpl.plan.s1.map (·.burst)
         = (if s.cfe.layout = .dual then (planned .s1).1.map (·.burst) else [])
     ∧ t.bpl.rotation = ⟨(planned .s0).2,
         if s.cfe.layout = .dual then (planned .s1).2 else s.bpl.rotation.s1⟩
     ∧ t.ptr.slots = u.ptr.slots ∧ t.bpl.cursor = u.bpl.cursor)

/-- The take-up at a frame open in RUNNING (R17, R51, R71, R75, R76, R96): scan settings, word settings
and enable set become the active ones, the thresholds follow, and every place is emptied. The enable set
first: an IDLE slot it holds enters SEARCH with its cursors at band 0, and a slot it does not hold
enters IDLE, its proximity ended. Then the releases, of the slots as they then stand: CONFIRM or TRACK
ends its proximity and enters SEARCH with its cursors kept, SEARCH has them set to band 0, and IDLE
drops it. An OUT is handed where a proximity had been sent. That each pass goes through the channels in
the order 0..3, so the order of the OUTs, is the model's choice (log 22). -/
def Obligations.TakeUpMovesSlots : Prop :=
  ∀ s : State,
    let t := takeUp s
    let g := s.bpl.staged
    let ended := fun (st : SlotState) (sl : Slot) => { sl with
      state := st, confirm := 0, misses := [], pendingRel := none, prox := false, toolId := none
      bound := none, tip := .up, heldPressure := none, heldTilt := none, word := none }
    let pen := fun (sl : Slot) => sl.state = .confirm ∨ sl.state = .track
    let enters := fun c => (g.enable.any (·.get c)) = true ∧ (s.slot c).state = .idle
    let disabled := fun c => (g.enable.any (!·.get c)) = true
    let then' := fun c =>
      if enters c then { s.slot c with state := .search }
      else if disabled c then
        if pen (s.slot c) then ended .idle (s.slot c) else { s.slot c with state := .idle }
      else s.slot c
    let released := fun c => g.releases.get c = true
    (∀ c, t.slot c = if released c ∧ pen (then' c) then ended .search (then' c) else then' c)
    ∧ (∀ c, t.bpl.cursor.get c
        = if enters c ∨ (released c ∧ (then' c).state = .search) then ⟨0, 0⟩
          else s.bpl.cursor.get c)
    ∧ t.rqu = Channel.all.foldl (fun r c =>
          if released c ∧ pen (then' c) ∧ (then' c).prox = true then r.handOut c else r)
        (Channel.all.foldl (fun r c =>
          if disabled c ∧ pen (s.slot c) ∧ (s.slot c).prox = true then r.handOut c else r) s.rqu)
    ∧ t.ptr.enabled = g.enable.getD s.ptr.enabled ∧ t.ptr.records = s.ptr.records
    ∧ t.wdc = g.word.getD s.wdc
    ∧ t.cfe = { s.cfe with threshold := match g.scan with
        | none => s.cfe.threshold
        | some r => ⟨min 65535 (max r.detectMin (4 * s.cfe.floor.s0)),
            min 65535 (max r.detectMin (4 * s.cfe.floor.s1))⟩ }
    ∧ t.bpl = { s.bpl with
        active := g.scan.getD s.bpl.active, cursor := t.bpl.cursor
        staged := ⟨none, none, none, everyChannel false⟩ }
    ∧ t = { s with cfe := t.cfe, bpl := t.bpl, ptr := t.ptr, wdc := t.wdc, rqu := t.rqu }

/-! ### The report queue -/

/-- A MOTION is handed. While fewer than 48 are held it is placed at the newest end with coalesced count
0 and the channel's gap flag as its gap mark, whatever the queue holds of its channel (R136). At the
limit it merges into the newest unsent entry of its channel where that is a MOTION of equal tip state,
buttons and tail (R137), and is else dropped: the channel's gap flag is set, the queue is otherwise as
it was, and QUEUE_DROP is raised once; its raw position becomes the slot's last position all the same
(R135, R138). -/
def Obligations.MotionHanded : Prop :=
  (∀ (r : Rqu) (m : Motion),
    let out := r.handMotion m
    (r.queue.countP Entry.isMotion < 48 →
      out.2 = false
      ∧ out.1 = { r with
          queue := r.queue ++ [.motion { m with coalesced := 0, gapMark := r.gap.get m.ch }]
          gap := r.gap.set m.ch false
          fresh := r.fresh.map (· + 1) })
    ∧ (48 ≤ r.queue.countP Entry.isMotion →
        (∀ (before : List Entry) (held : Motion) (after : List Entry),
            r.queue = before ++ Entry.motion held :: after → held.ch = m.ch →
            (∀ e ∈ after, e.channel ≠ some m.ch) → held.tip = m.tip → held.buttons = m.buttons →
          out = ({ r with
            gap := r.gap.set m.ch false
            queue := before ++ Entry.motion { m with
              flags := { m.flags with
                twin := held.flags.twin || m.flags.twin
                relocated := held.flags.relocated || m.flags.relocated
                realigned := held.flags.realigned || m.flags.realigned }
              coalesced := min 255 (held.coalesced + 1)
              gapMark := held.gapMark || r.gap.get m.ch } :: after }, false))
        ∧ (∀ (before : List Entry) (held : Motion) (after : List Entry),
            r.queue = before ++ Entry.motion held :: after → held.ch = m.ch →
            (∀ e ∈ after, e.channel ≠ some m.ch) → ¬ (held.tip = m.tip ∧ held.buttons = m.buttons) →
          out = ({ r with gap := r.gap.set m.ch true }, true))
        ∧ (∀ (before : List Entry) (e : Entry) (after : List Entry),
            r.queue = before ++ e :: after → e.channel = some m.ch → e.isMotion = false →
            (∀ e ∈ after, e.channel ≠ some m.ch) →
          out = ({ r with gap := r.gap.set m.ch true }, true))
        ∧ ((∀ e ∈ r.queue, e.channel ≠ some m.ch) →
          out = ({ r with gap := r.gap.set m.ch true }, true))))
  ∧ (∀ (m : Motion) (s : State),
    let out := s.rqu.handMotion m
    (out.2 = false → handMotion m s = { s with rqu := out.1 })
    ∧ (out.2 = true →
      handMotion m s = recordFault .queueDrop { s with rqu := out.1 }
      ∧ (handMotion m s).fmo.recs = s.fmo.recs.set .queueDrop
          { s.fmo.recs.get .queueDrop with status := true, marker := true }))
  ∧ (∀ (c : Channel) (sm : Sample) (twin relocated : Bool) (s : State),
    let t := reportSample c sm twin relocated s
    (t.slot c).lastX = sm.rawX ∧ (t.slot c).lastY = sm.rawY)

/-- An OUT removes an unsent IN of its channel with every later MOTION and TOOL of the channel, and is
itself placed only where no IN is unsent (R140). A TOOL is placed where its channel has none unsent;
one of the current proximity is replaced where it stands; one with an OUT of its channel after it is
removed and the new one placed (R142). -/
def Obligations.NoticesHanded : Prop :=
  (∀ (r : Rqu) (c : Channel),
     (∀ before after : List Entry, r.queue = before ++ Entry.penIn c :: after → Entry.penIn c ∉ before →
       (r.handOut c).queue = before ++ after.filter fun e =>
         !(decide (e.channel = some c) && (e.isMotion || e.isToolOf c)))
     ∧ (Entry.penIn c ∉ r.queue → (r.handOut c).queue = r.queue ++ [Entry.penOut c])
     ∧ (r.handOut c).gap = r.gap ∧ (r.handOut c).hold = r.hold)
  ∧ (∀ (r : Rqu) (c : Channel) (id : Nat) (bound : Option Nat),
     let out := (r.handTool c id bound).queue
     ((∀ e ∈ r.queue, e.isToolOf c = false) → out = r.queue ++ [Entry.tool c id bound])
     ∧ (∀ (before : List Entry) (i : Nat) (b : Option Nat) (after : List Entry),
        r.queue = before ++ Entry.tool c i b :: after →
         (∀ e ∈ before ++ after, e.isToolOf c = false) → Entry.penOut c ∉ after →
       out = before ++ Entry.tool c id bound :: after)
     ∧ (∀ (before : List Entry) (i : Nat) (b : Option Nat) (after : List Entry),
        r.queue = before ++ Entry.tool c i b :: after →
         (∀ e ∈ before ++ after, e.isToolOf c = false) → Entry.penOut c ∈ after →
       out = before ++ after ++ [Entry.tool c id bound]))

/-! ### The tracker -/

/-- A SEARCH slot enters CONFIRM at its strongest candidate, on a tie sheet 0 before sheet 1 and the
earlier delivered on a sheet, which is the lower plan position, and stays in SEARCH with none. Nothing
else of the part changes, the search cursors among it (R65). -/
def Obligations.SearchEntersConfirm : Prop :=
  ∀ (c : Channel) (s : State), (s.slot c).state = .search →
    let candidate := fun r => ∃ sh u b px py a, r = BurstRecord.search sh c u b px py a
      ∧ sheetGet s.cfe.threshold sh ≤ a
    ((∀ r ∈ s.ptr.records, ¬ candidate r) → closeSlot s c = s)
    ∧ ((∃ r ∈ s.ptr.records, candidate r) →
      ∃ sh u b px py a, (∃ before after : List BurstRecord,
          s.ptr.records = before ++ BurstRecord.search sh c u b px py a :: after
          ∧ ∀ u' b' px' py', BurstRecord.search sh c u' b' px' py' a ∉ before)
        ∧ sheetGet s.cfe.threshold sh ≤ a
        ∧ (∀ sh' u' b' px' py' a', BurstRecord.search sh' c u' b' px' py' a' ∈ s.ptr.records →
            sheetGet s.cfe.threshold sh' ≤ a' → a' ≤ a ∧ (a' = a → sh' = .s0 → sh = .s0))
        ∧ closeSlot s c = s.setSlot c { s.slot c with
            state := .confirm, centreX := px, centreY := py
            lastX := (px * s.cfe.panel.pitch : Nat), lastY := (py * s.cfe.panel.pitch : Nat)
            confirm := 0, misses := [], pendingRel := none, word := some newWord })

/-- What a delivered TIP record is (R15, R57, R60, R61). It is a hit exactly where no TIP_MISS is armed
for its channel and both its axes have a main peak, each of at least the detect threshold of the sheet
that holds the X main peak; else it is a miss. The main peak is the local maximum nearest the window
centre, the lower coil of two equally near, and the Y list is that of the X main peak's sheet
(`PeaksOf`). A hit's view holds these peaks, the period count and the channel's COLLAR record, and the
collar's own peaks exactly where they reach the half-threshold level of their sheet (R18, R64). A
channel's records are those that were delivered for it. -/
def Obligations.HitClassified : Prop :=
  (∀ (c : Channel) (w : WindowRec) (p : Option Nat) (s : State),
     let detect := sheetGet s.cfe.threshold
     let half := fun sh => sheetGet s.cfe.threshold sh / 2
     let unarmed := s.fmo.armed.tipMiss.get c = false
     ((classifyTip c s w p).isSome = true ↔ unarmed ∧ ∃ pk, Shows s c w detect pk)
     ∧ (∀ v, classifyTip c s w p = some v ↔
         unarmed ∧ Shows s c w detect v.peaks ∧ v.tip = w ∧ v.period = p
         ∧ v.collar = collarRecord c s.ptr.records
         ∧ ∀ pk, v.collarPeaks = some pk ↔ ∃ k, v.collar = some k ∧ Shows s c k half pk))
  ∧ (∀ (a : List Nat) (k : Nat), localMax a k = true ↔ IsLocalMax a k)
  ∧ (∀ (c : Channel) (recs : List BurstRecord),
     (tipRecord c recs = none ↔ ∀ w p, BurstRecord.tip w p ∈ recs → w.ch ≠ c)
     ∧ (∀ w p, tipRecord c recs = some (w, p) → BurstRecord.tip w p ∈ recs ∧ w.ch = c)
     ∧ (collarRecord c recs = none ↔ ∀ w, BurstRecord.collar w ∈ recs → w.ch ≠ c)
     ∧ (∀ w, collarRecord c recs = some w → BurstRecord.collar w ∈ recs ∧ w.ch = c))

/-- The collar bit of a frame that is not skipped (R18, R62): unknown on a miss and on a hit with no
COLLAR record; on a hit with one, 1 where both main peaks of the COLLAR record reach the half-threshold
level of their sheet, and else 0. At the close the bit is handed to the decoder, where it enters the
history at the present count (R83): inverted where a COLLAR_FLIP is armed for the channel and the bit is
known, which consumes that injection; an unknown bit leaves it armed (R84, R168). The classification
consumes an armed TIP_MISS of the channel, in CONFIRM as in TRACK (R61, R168). No other injection is
touched, and a skipped frame hands nothing and consumes nothing. -/
def Obligations.CollarBitHanded : Prop :=
  ∀ (c : Channel) (w : WindowRec) (p : Option Nat) (s : State),
    let hit := classifyTip c s w p
    let bit := collarBit hit
    let half := fun sh => sheetGet s.cfe.threshold sh / 2
    (hit = none → bit = none)
    ∧ (∀ v, hit = some v → collarRecord c s.ptr.records = none → bit = none)
    ∧ (∀ v k, hit = some v → collarRecord c s.ptr.records = some k →
        ((∃ pk, Shows s c k half pk) → bit = some true)
        ∧ ((∀ pk, ¬ Shows s c k half pk) → bit = some false))
    ∧ (∀ u, (s.slot c).state.active = true → (s.slot c).word = some u →
      let t := closeSlot s c
      let flips := s.fmo.armed.collarFlip.get c = true ∧ bit ≠ none
      let handed := if flips then bit.map (!·) else bit
      (tipRecord c s.ptr.records = none → t = s)
      ∧ (tipRecord c s.ptr.records = some (w, p) →
        t.fmo.armed = { s.fmo.armed with
          tipMiss := s.fmo.armed.tipMiss.set c false
          collarFlip := if flips then s.fmo.armed.collarFlip.set c false
            else s.fmo.armed.collarFlip }
        ∧ (∀ x, (t.slot c).word = some x →
          x.history = (u.history ++ [HistoryEntry.mk handed u.count]).drop (u.history.length + 1 - 16)
          ∧ x.count = (u.count + 1) % 8)))

/-- A hit (R60, R66 to R73, R105, R106). In TRACK, with no pending relocation: within the jump limit of
the last position it enters a hit and is reported; beyond it, it becomes the pending relocation, and
nothing is entered or reported (R67, R68, R69). With a pending relocation: near that, hit and hit are
entered and it is reported with RELOCATED; else near the last position, miss and hit, and it is
reported; else a miss alone, and it becomes the pending relocation (R70). Where the entries leave M
misses in the window the slot is lost to SEARCH: no MOTION is queued, a due TOOL is dropped, and where
its proximity was sent the OUT is handed to the queue the close has built: placed, or the unsent IN
cancelled (R68, R70, R71, R140); that this holds of a hit with no pending relocation too, where R67
hands the MOTION, is the model's choice (log 12, DEDUCED). In CONFIRM: within the limit the count rises,
and at the confirm setting the slot enters TRACK with an IN and its MOTION; beyond the limit the slot
returns to SEARCH. In the queue the ALERT of an unmasked TWIN or PROFILE_MISS comes first, then the IN
of a confirmation, the TOOL due and the MOTION (R63, R66, R72); at the limit of 48 the MOTION is merged,
or dropped, which records QUEUE_DROP and, unmasked, hands an ALERT (R136 to R138, R154). The window
centre moves to the main peaks, and a report's raw position becomes the last position. A report holds
its full sample's pressure, tip state and tilt, and buttons and tail as the decoder has them once the
frame's bit is handed; it carries REALIGNED where pending, and clears it (R67, R73, R90). The sample is
that of the slot's bound record and held state, which moves with every full sample and no other hit
(R64, R128). A report carries PRESSURE_HELD where the TIP record has no period count, and UNSYNCED where
the TIP or the COLLAR record is so marked; a proximity begins with no pressure or tilt held (R64, R99,
R111, R112, R117). -/
def Obligations.HitResolves : Prop :=
  ∀ (c : Channel) (w : WindowRec) (p : Option Nat) (v : HitView) (s : State),
    tipRecord c s.ptr.records = some (w, p) → classifyTip c s w p = some v →
    let sl := s.slot c
    let t := closeSlot s c
    let raw := rawPosition s.cfe.layout s.cfe.panel w v.peaks
    let within' := fun (x y : Int) => (raw.1 - x).natAbs ≤ s.bpl.active.jump
      ∧ (raw.2 - y).natAbs ≤ s.bpl.active.jump
    let near := within' sl.lastX sl.lastY
    let far : Relocation := ⟨raw.1, raw.2, s.fts.frameNo⟩
    let bit := (collarBit (some v)).map (· != s.fmo.armed.collarFlip.get c)
    let decoded := sl.word.map fun u => (decodeBit s.wdc bit u).1
    let new := (sl.word.bind fun u => (decodeBit s.wdc bit u).2).filter fun id => sl.toolId ≠ some id
    let alerts := fun f => (s.fmo.recs.get f).masked = false
    let built := if (twinSeen s.cfe.threshold v = true ∧ alerts .twin)
        ∨ ((∃ id, new = some id ∧ toolRecord s.ptb id = none) ∧ alerts .profileMiss)
      then s.rqu.handAlert else s.rqu
    let tooled := fun (r : Rqu) => match new with
      | none => r
      | some id => r.handTool c id (if (toolRecord s.ptb id).isSome then some id else none)
    let drops := s.fmo.recs.get .queueDrop
    let held := if sl.state = .confirm then
      { sl with tip := .up, heldPressure := none, heldTilt := none } else sl
    let record := boundProfile s.ptb c (t.slot c).bound
    let sample := fullSample s.cfe.layout s.cfe.panel record held v
    let sampled := (t.slot c).tip = sample.tip ∧ (t.slot c).heldTilt = sample.tilt
      ∧ (t.slot c).heldPressure = if p.isSome then some (sampleOut record held p)
        else held.heldPressure
    let keptBack := sampled ∧ (t.slot c).word = decoded
    let reports := fun (r : Rqu) relocated => ∃ m,
      let out := r.handMotion m
      t.rqu = (if out.2 = true ∧ alerts .queueDrop then out.1.handAlert else out.1)
      ∧ t.fmo.recs.get .queueDrop
          = (if out.2 then { drops with status := true, marker := true } else drops)
      ∧ (motionCount s.rqu.queue < 48 →
          t.rqu.queue.getLast? = some (.motion { m with gapMark := s.rqu.gap.get c }))
      ∧ m.ch = c ∧ m.frame = s.fts.frameNo
      ∧ (m.x : Int) = max 0 (min (raw.1 - s.cfe.panel.originX) s.cfe.panel.width)
      ∧ (m.y : Int) = max 0 (min (raw.2 - s.cfe.panel.originY) s.cfe.panel.height)
      ∧ m.flags.relocated = relocated ∧ m.flags.twin = twinSeen s.cfe.threshold v
      ∧ m.flags.pressureHeld = p.isNone
      ∧ m.flags.unsynced = (w.unsynced || (collarRecord c s.ptr.records).any (·.unsynced))
      ∧ m.toolId = (t.slot c).toolId ∧ m.tip = (t.slot c).tip
      ∧ m.coalesced = 0 ∧ m.gapMark = false
      ∧ m.pressure = sample.pressure ∧ m.tip = sample.tip ∧ m.tilt = sample.tilt
      ∧ m.flags.tiltHeld = sample.tiltHeld ∧ m.flags.tiltSat = sample.tiltSat
      ∧ m.buttons = decoded.bind (·.buttons)
      ∧ m.flags.realigned = decoded.any (·.realigned)
      ∧ sampled ∧ (t.slot c).word = decoded.map fun u => { u with realigned := false }
    let silent := fun (r : Rqu) => t.rqu = r ∧ motionCount t.rqu.queue = motionCount s.rqu.queue
      ∧ t.fmo.recs.get .queueDrop = drops
    let centred := (t.slot c).centreX = v.peaks.coilX ∧ (t.slot c).centreY = v.peaks.coilY
    let enters := fun (es : List Bool) (pending : Option Relocation) (report : Option Bool) =>
      let misses := (sl.misses ++ es).drop
        (sl.misses.length + es.length - s.bpl.active.missWindow)
      (misses.count true < s.bpl.active.missLimit →
        (t.slot c).state = .track ∧ (t.slot c).misses = misses
          ∧ (t.slot c).pendingRel = pending ∧ (t.slot c).prox = sl.prox ∧ centred
          ∧ match report with
            | some relocated =>
              (t.slot c).lastX = raw.1 ∧ (t.slot c).lastY = raw.2
                ∧ reports (tooled built) relocated
            | none => (t.slot c).lastX = sl.lastX ∧ (t.slot c).lastY = sl.lastY
                ∧ silent (tooled built) ∧ keptBack)
      ∧ (s.bpl.active.missLimit ≤ misses.count true →
        (t.slot c).state = .search ∧ (t.slot c).misses = [] ∧ (t.slot c).pendingRel = none
          ∧ (t.slot c).prox = false ∧ (t.slot c).toolId = none ∧ (t.slot c).word = none ∧ centred
          ∧ (t.slot c).lastX = sl.lastX ∧ (t.slot c).lastY = sl.lastY
          ∧ t.rqu = (if sl.prox then built.handOut c else built)
          ∧ motionCount t.rqu.queue ≤ motionCount s.rqu.queue
          ∧ t.fmo.recs.get .queueDrop = drops)
    (∀ d, d ≠ c → t.slot d = s.slot d)
    ∧ (sl.state = .track → sl.pendingRel = none → near → enters [false] none (some false))
    ∧ (sl.state = .track → sl.pendingRel = none → ¬ near →
      (t.slot c).state = .track ∧ (t.slot c).pendingRel = some far
        ∧ (t.slot c).misses = sl.misses ∧ centred
        ∧ (t.slot c).lastX = sl.lastX ∧ (t.slot c).lastY = sl.lastY
        ∧ silent (tooled built) ∧ keptBack)
    ∧ (∀ q, sl.state = .track → sl.pendingRel = some q → within' q.x q.y →
      enters [false, false] none (some true))
    ∧ (∀ q, sl.state = .track → sl.pendingRel = some q → ¬ within' q.x q.y → near →
      enters [true, false] none (some false))
    ∧ (∀ q, sl.state = .track → sl.pendingRel = some q → ¬ within' q.x q.y → ¬ near →
      enters [true] (some far) none)
    ∧ (sl.state = .confirm → near → s.bpl.active.confirm ≤ sl.confirm + 1 →
      (t.slot c).state = .track ∧ (t.slot c).prox = true ∧ (t.slot c).misses = [false] ∧ centred
        ∧ (t.slot c).lastX = raw.1 ∧ (t.slot c).lastY = raw.2
        ∧ .penIn c ∈ t.rqu.queue ∧ reports (tooled (built.handIn c)) false
        ∧ (p = none → (t.slot c).heldPressure = none)
        ∧ (v.collarPeaks = none → (t.slot c).heldTilt = none))
    ∧ (sl.state = .confirm → near → sl.confirm + 1 < s.bpl.active.confirm →
      (t.slot c).state = .confirm ∧ (t.slot c).confirm = sl.confirm + 1 ∧ centred
        ∧ (t.slot c).lastX = raw.1 ∧ (t.slot c).lastY = raw.2 ∧ silent built
        ∧ (t.slot c).tip = sl.tip ∧ (t.slot c).heldPressure = sl.heldPressure
        ∧ (t.slot c).heldTilt = sl.heldTilt ∧ (t.slot c).word = decoded)
    ∧ (sl.state = .confirm → ¬ near →
      (t.slot c).state = .search ∧ (t.slot c).word = none ∧ silent built)

/-- Twins and tool IDs at a close. A hit holds a twin where either axis has a local maximum, not the
main peak, at least 3 coils from it and of at least the detect threshold of the main peak's sheet and
half the main peak; TWIN is then raised, which sets its status and its since-read marker whether it was
set before or not, and on no miss (R58, R154). A tool ID that the slot's decoder validates and the slot
does not have yet becomes the slot's, binds it to the tool record of that ID or, with PROFILE_MISS
raised in the same way, to its channel's default, and hands a TOOL unless the close loses the slot; an
ID the slot already has changes nothing (R63, R94). Without such a cause neither record changes, and a
miss validates no ID. -/
def Obligations.TwinAndToolAtClose : Prop :=
  (∀ (threshold : PerSheet Nat) (v : HitView),
     let twin := fun (a : List Nat) (k : Nat) => ∃ j, j < 9 ∧ localMax a j = true
       ∧ (j + 3 ≤ k ∨ k + 3 ≤ j)
       ∧ sheetGet threshold v.peaks.sheet ≤ a.getD j 0 ∧ a.getD k 0 / 2 ≤ a.getD j 0
     (twinSeen threshold v = true ↔ twin v.tip.x v.peaks.kx ∨ twin v.peaks.y v.peaks.ky))
  ∧ (∀ (c : Channel) (w : WindowRec) (p : Option Nat) (s : State),
     (s.slot c).state.active = true → tipRecord c s.ptr.records = some (w, p) →
     let t := closeSlot s c
     let hit := classifyTip c s w p
     let bit := (collarBit hit).map (· != s.fmo.armed.collarFlip.get c)
     let validated := (s.slot c).word.bind fun u => (decodeBit s.wdc bit u).2
     let twin := ∃ v, hit = some v ∧ twinSeen s.cfe.threshold v = true
     let missed := ∃ id, validated = some id ∧ (s.slot c).toolId ≠ some id
       ∧ toolRecord s.ptb id = none
     let raised := fun (f : FaultId) => { s.fmo.recs.get f with status := true, marker := true }
     (twin → t.fmo.recs.get .twin = raised .twin)
     ∧ (¬ twin → t.fmo.recs.get .twin = s.fmo.recs.get .twin)
     ∧ (missed → t.fmo.recs.get .profileMiss = raised .profileMiss)
     ∧ (¬ missed → t.fmo.recs.get .profileMiss = s.fmo.recs.get .profileMiss)
     ∧ (hit = none → validated = none))
  ∧ (∀ (c : Channel) (w : WindowRec) (p : Option Nat) (u : WordRec) (id : Nat) (s : State),
     (s.slot c).state = .track → tipRecord c s.ptr.records = some (w, p) →
     (s.slot c).word = some u →
     (decodeBit s.wdc ((collarBit (classifyTip c s w p)).map
       (· != s.fmo.armed.collarFlip.get c)) u).2 = some id →
     let t := closeSlot s c
     let new := (s.slot c).toolId ≠ some id
     let bound := if (toolRecord s.ptb id).isSome then some id else none
     ((t.slot c).state = .track → (t.slot c).toolId = some id)
     ∧ ((t.slot c).state = .track → new →
         (t.slot c).bound = bound ∧ Entry.tool c id bound ∈ t.rqu.queue)
     ∧ (¬ new → (t.slot c).state = .track → (t.slot c).bound = (s.slot c).bound
         ∧ t.rqu.queue.filter (Entry.isToolOf c) = s.rqu.queue.filter (Entry.isToolOf c)))

/-- A slot whose TIP burst delivered no record is skipped: its close changes nothing at all (R60, R67).
A miss in TRACK enters one miss, or two with a relocation pending; with M misses in the window the slot
is lost to SEARCH, and where its proximity-sent flag was set its OUT is handed, so placed, or its unsent
IN cancelled; else it keeps its window centre and last position and the queue is as it was; no fault is
raised and no MOTION queued (R68, R70, R71, R140). A miss in CONFIRM returns the slot to SEARCH, its
word sub-record discarded, its window centre kept and nothing queued for it (R60, R66). An armed
TIP_MISS makes the first TIP record of its channel that is classified a miss, in CONFIRM and in TRACK,
and is consumed by it (R61, R168). -/
def Obligations.MissesResolve : Prop :=
  (∀ (c : Channel) (s : State), (s.slot c).state.active = true →
     (∀ w p, BurstRecord.tip w p ∈ s.ptr.records → w.ch ≠ c) → closeSlot s c = s)
  ∧ (∀ (c : Channel) (w : WindowRec) (p : Option Nat) (s : State), (s.slot c).state = .track →
     tipRecord c s.ptr.records = some (w, p) → classifyTip c s w p = none →
     let t := closeSlot s c
     let all := (s.slot c).misses
       ++ (if (s.slot c).pendingRel.isSome then [true, true] else [true])
     let misses := all.drop (all.length - s.bpl.active.missWindow)
     (s.bpl.active.missLimit ≤ misses.count true →
       (t.slot c).state = .search ∧ (t.slot c).prox = false ∧ (t.slot c).misses = []
         ∧ (t.slot c).toolId = none ∧ (t.slot c).word = none
         ∧ t.rqu = if (s.slot c).prox then s.rqu.handOut c else s.rqu)
     ∧ (misses.count true < s.bpl.active.missLimit →
       (t.slot c).state = .track ∧ (t.slot c).misses = misses
         ∧ (t.slot c).prox = (s.slot c).prox ∧ t.rqu = s.rqu)
     ∧ t.fmo.recs = s.fmo.recs
     ∧ (t.slot c).pendingRel = none
     ∧ (t.slot c).centreX = (s.slot c).centreX ∧ (t.slot c).centreY = (s.slot c).centreY
     ∧ (t.slot c).lastX = (s.slot c).lastX ∧ (t.slot c).lastY = (s.slot c).lastY
     ∧ t.rqu.queue.countP Entry.isMotion ≤ s.rqu.queue.countP Entry.isMotion
     ∧ (∀ d, d ≠ c → t.slot d = s.slot d))
  ∧ (∀ (c : Channel) (w : WindowRec) (p : Option Nat) (s : State), (s.slot c).state = .confirm →
     tipRecord c s.ptr.records = some (w, p) → classifyTip c s w p = none →
     let t := closeSlot s c
     (t.slot c).state = .search ∧ (t.slot c).word = none
     ∧ (t.slot c).centreX = (s.slot c).centreX ∧ (t.slot c).centreY = (s.slot c).centreY
     ∧ t.rqu = s.rqu ∧ t.fmo.recs = s.fmo.recs
     ∧ (∀ d, d ≠ c → t.slot d = s.slot d))
  ∧ (∀ (c : Channel) (w : WindowRec) (p : Option Nat) (s : State), (s.slot c).state.active = true →
     tipRecord c s.ptr.records = some (w, p) →
     let t := closeSlot s c
     (s.fmo.armed.tipMiss.get c = true → classifyTip c s w p = none)
     ∧ t.fmo.armed.tipMiss.get c = false
     ∧ (∀ d, d ≠ c → t.fmo.armed.tipMiss.get d = s.fmo.armed.tipMiss.get d)
     ∧ (s.fmo.armed.tipMiss.get c = true → t.fmo.armed.collarFlip = s.fmo.armed.collarFlip))

/-- The end of a proximity (R71): the slot's fields, the OUT handed where the proximity-sent flag was
set, and nothing else of the part. -/
def Obligations.ProximityEnds : Prop :=
  ∀ (c : Channel) (st : SlotState) (s : State),
    let t := endProximity c st s
    t.slot c = { s.slot c with
      state := st, confirm := 0, misses := [], pendingRel := none, prox := false, toolId := none
      bound := none, tip := .up, heldPressure := none, heldTilt := none, word := none }
    ∧ (∀ d, d ≠ c → t.slot d = s.slot d)
    ∧ t.rqu = (if (s.slot c).prox then s.rqu.handOut c else s.rqu)
    ∧ t = { s with rqu := t.rqu, ptr := { s.ptr with slots := t.ptr.slots } }

/-! ### The Word Decoder -/

/-- A bit handed to a sub-record is entered at the newest end with the present count, of at most sixteen
entries, and the count advances from 7 to 0, whatever else the bit brings about (R83). An offset is
matched where the two newest sync triples at it, each three consecutive entries of the history whose
oldest was entered at that count, both read known 1, 1, 0 (R85). The alignment search of an UNALIGNED
sub-record (R86, R87, R90): with strict mode off it takes the lowest matched offset; with it on, exactly
one, and two or more set MIMIC; REALIGNED becomes pending where the offset is not the one lost. -/
def Obligations.AlignmentSearch : Prop :=
  (∀ (ws : WordSettings) (bit : Option Bool) (w : WordRec),
     let all := w.history ++ [⟨bit, w.count⟩]
     (decodeBit ws bit w).1.history = all.drop (all.length - 16)
     ∧ (decodeBit ws bit w).1.count = (w.count + 1) % 8)
  ∧ (∀ (h : List HistoryEntry) (o : Nat),
     let triple := fun i => i + 2 < h.length ∧ (h[i]?).map (·.count) = some o
     let reads := fun i => (h[i]?).map (·.bit) = some (some true)
       ∧ (h[i + 1]?).map (·.bit) = some (some true) ∧ (h[i + 2]?).map (·.bit) = some (some false)
     (matchedAt h o = true ↔ ∃ i j, i < j ∧ triple i ∧ triple j
       ∧ (∀ k, triple k → i < k → k = j) ∧ reads i ∧ reads j))
  ∧ (∀ (ws : WordSettings) (bit : Option Bool) (w : WordRec), w.aligned = none →
     let t := (decodeBit ws bit w).1
     let matched := (List.range 8).filter (matchedAt t.history)
     (decodeBit ws bit w).2 = none
     ∧ (matched = [] → t.aligned = none ∧ t.mimic = false)
     ∧ (∀ o rest, matched = o :: rest → (ws.strict = false ∨ rest = []) →
         t.aligned = some o ∧ t.mimic = false ∧ t.errors = [] ∧ t.cycle = none
         ∧ t.previous = none ∧ t.lastCycle = none
         ∧ t.realigned = (w.realigned || w.lost.any (· != o)))
     ∧ (∀ o o' rest, matched = o :: o' :: rest → ws.strict = true →
         t.aligned = none ∧ t.mimic = true)
     ∧ t.lost = w.lost ∧ t.buttons = w.buttons)

/-- A bit handed while ALIGNED at offset o (R88, R89, R91, R92, R93). It completes a word only at the
count (o + 7) modulo 8, and else changes nothing but the history and the count. The word is the eight
newest entries; ERROR enters the window, cut to W, unless its sync positions read 1, 1, 0; two ERRORs
lose alignment, which keeps the offset as the lost one and clears window, buttons, previous word, cycle
and previous cycle value. A usable word, clean and all known, sets the buttons, with debounce on only
where the previous word had the same, and becomes the previous word; its ID bit starts, restarts or
joins a cycle, whose sixteenth word completes it. Another word clears the previous word, the cycle and
the previous cycle value, and leaves the buttons. -/
def Obligations.WordCompletes : Prop :=
  ∀ (ws : WordSettings) (bit : Option Bool) (w : WordRec) (o : Nat), w.aligned = some o →
    let r := decodeBit ws bit w
    let t := r.1
    let entered := { w with
      history := (w.history ++ [HistoryEntry.mk bit w.count]).drop (w.history.length + 1 - 16)
      count := (w.count + 1) % 8 }
    (w.count ≠ (o + 7) % 8 → r = (entered, none))
    ∧ (w.count = (o + 7) % 8 →
      let word := (entered.history.drop (entered.history.length - 8)).map (·.bit)
      let clean := word.take 3 = [some true, some true, some false]
      let usable := fun (u : Buttons) (id marker : Bool) => word
        = [some true, some true, some false, some u.b1, some u.b2, some u.tail, some id, some marker]
      let errors := (w.errors ++ [!decide clean]).drop (w.errors.length + 1 - ws.window)
      t.history = entered.history ∧ t.count = entered.count
      ∧ t.mimic = w.mimic ∧ t.realigned = w.realigned
      ∧ (2 ≤ errors.count true →
        t.aligned = none ∧ t.lost = some o ∧ t.errors = [] ∧ t.buttons = none
          ∧ t.previous = none ∧ t.cycle = none ∧ t.lastCycle = none)
      ∧ (errors.count true < 2 →
        t.aligned = some o ∧ t.lost = w.lost ∧ t.errors = errors
        ∧ (∀ u id marker, usable u id marker →
          t.previous = some u
          ∧ t.buttons = (if ws.debounce = true ∧ w.previous ≠ some u then w.buttons else some u)
          ∧ (marker = true → t.cycle = some [id] ∧ r.2 = none
              ∧ t.lastCycle = (if w.cycle = none then w.lastCycle else none))
          ∧ (marker = false → w.cycle = none → t.cycle = none ∧ t.lastCycle = none ∧ r.2 = none)
          ∧ (∀ bits, marker = false → w.cycle = some bits → bits.length < 15 →
              t.cycle = some (bits ++ [id]) ∧ t.lastCycle = w.lastCycle ∧ r.2 = none)
          ∧ (∀ bits, marker = false → w.cycle = some bits → bits.length = 15 →
              let value := (bits ++ [id]).foldl (fun v b => 2 * v + b.toNat) 0
              t.cycle = none ∧ t.lastCycle = (if value = 0 then none else some value)
              ∧ r.2 = (if value ≠ 0 ∧ (ws.debounce = false ∨ w.lastCycle = some value)
                then some value else none)))
        ∧ ((∀ u id marker, ¬ usable u id marker) →
          t.previous = none ∧ t.buttons = w.buttons ∧ t.cycle = none ∧ t.lastCycle = none))
      ∧ ((∀ u id marker, ¬ usable u id marker) → r.2 = none))

/-- A completed ID cycle (R93): the value 0 is discarded; with debounce on a value is validated where
the previous cycle gave it too, with debounce off at once, and it becomes the previous cycle value;
and the tracker takes an ID the slot already has without effect. And the decoder reads back the tool ID
a pen sends (R81, R92): for every ID, sixteen usable words that carry its bits, most significant first,
the first with marker 1, complete a cycle whose value is that ID, and a second such cycle validates it
with debounce on. -/
def Obligations.CycleValidates : Prop :=
  (∀ (ws : WordSettings) (v : Nat) (w : WordRec),
    (v = 0 → completeCycle ws v w = ({ w with cycle := none, lastCycle := none }, none))
    ∧ (v ≠ 0 → completeCycle ws v w = ({ w with cycle := none, lastCycle := some v },
        if ws.debounce = false ∨ w.lastCycle = some v then some v else none))
    ∧ (∀ (s : State) (c : Channel), (s.slot c).toolId = some v →
        takeTool c (some v) s = (s, false)))
  ∧ (∀ (ws : WordSettings) (b : Nat → Buttons) (id : BitVec 16) (w : WordRec), id ≠ 0 →
    w.cycle = none →
    let word := fun k => UsableWord.mk (b k) (id.getMsbD k) (k = 0)
    let cycle := fun (u : WordRec) => (List.range 16).foldl
      (fun (a : WordRec × Option Nat) k => feedCycle ws (some (word k)) a.1) (u, none)
    cycle w = ({ w with lastCycle := some id.toNat },
        if ws.debounce = false ∨ w.lastCycle = some id.toNat then some id.toNat else none)
    ∧ (cycle (cycle w).1).2 = some id.toNat)

/-! ### The Sample Calculator -/

/-- A panel-edge peak's offset points to its one neighbour, so the raw coordinate lies at or inward of
the edge coil's centre, by p ÷ 2 where both amplitudes are equal (R104). An interior peak's offset is 0
where 2 × (2 × a0 − a− − a+) is 0, and else p × (a+ − a−) divided by it, truncated toward zero and
clamped to half a pitch, a neighbour outside the window reading 0 (R102, R103). And the raw coordinate
of every main peak of a window on the panel lies within 0..(n − 1) × p on its axis and within half a
pitch of its coil (R103, R105). -/
def Obligations.RawCoordinatesOnPanel : Prop :=
  ∀ (p n first : Nat) (a : List Nat) (k : Nat), first + 9 ≤ n → k < 9 → localMax a k = true →
    (first + k = 0 →
      rawCoord p n first a k = ((p * ampAt a 1 / (2 * ampAt a 0) : Nat) : Int))
    ∧ (first + k + 1 = n → ∀ j, k = j + 1 →
      rawCoord p n first a k
          = ((n - 1) * p : Nat) - ((p * ampAt a j / (2 * ampAt a k) : Nat) : Int)
        ∧ (ampAt a j = ampAt a k →
            rawCoord p n first a k = ((n - 1) * p : Nat) - ((p / 2 : Nat) : Int)))
    ∧ (0 < first + k → first + k + 1 < n →
      let a0 : Int := (a.getD k 0 : Nat)
      let below : Int := (if k = 0 then 0 else a.getD (k - 1) 0 : Nat)
      let above : Int := (a.getD (k + 1) 0 : Nat)
      let denom := 2 * (2 * a0 - below - above)
      let half : Int := (p / 2 : Nat)
      rawCoord p n first a k = ((first + k) * p : Nat)
        + if denom = 0 then 0 else max (-half) (min half (Int.tdiv (p * (above - below)) denom)))
    ∧ 0 ≤ rawCoord p n first a k ∧ rawCoord p n first a k ≤ ((n - 1) * p : Nat)
    ∧ (rawCoord p n first a k - ((first + k) * p : Nat)).natAbs ≤ p / 2

/-- The reported pressure is the out value with the tip DOWN and 0 with it UP, and lies within 0..4095
(R110). Of a valid record, raw pressure is 0 from P_free up, 4095 from P_full down, and (P_free − P) ×
4095 ÷ (P_free − P_full) between; the out value is the raw pressure without a curve, and with one y5 at
4095 and below it the segment's y_k + (y_(k+1) − y_k) × (raw − x_k) ÷ (x_(k+1) − x_k); so raw pressure
lies within 0..4095 and rises as the count falls, the out value lies within y0..y5 and rises with it,
and the tip is switched by the two thresholds with its state kept between them (R107, R108, R109). With
a valid period count the out value is that of its raw pressure and becomes the held pressure; with none
it is the held pressure as stored, or with none held that of raw pressure 0 (y0 of a curve, 0 without
one), the sample carries PRESSURE_HELD, and the held pressure stays as it was (R111, R112). -/
def Obligations.PressureFollowsTip : Prop :=
  (∀ (layout : Layout) (panel : Panel) (pr : Profile) (sl : Slot) (v : HitView),
     let sm := fullSample layout panel pr sl v
     (sm.tip = .down → sm.pressure = sampleOut pr sl v.period)
     ∧ (sm.tip = .up → sm.pressure = 0)
     ∧ (profileValid pr = true → (∀ h, sl.heldPressure = some h → h ≤ 4095) → sm.pressure ≤ 4095))
  ∧ (∀ (c : Channel) (v : HitView) (s : State),
     let sl := s.slot c
     let pr := slotProfile s c
     let sm := (sampleSlot c v s).2
     let after := (sampleSlot c v s).1.slot c
     let from' := fun out => sm.tip = nextTip pr sl.tip out ∧ after.tip = sm.tip
       ∧ sm.pressure = if sm.tip = .down then out else 0
     (∀ n, v.period = some n → sm.pressureHeld = false ∧ from' (outValue pr.curve (rawPressure pr n))
         ∧ after.heldPressure = some (outValue pr.curve (rawPressure pr n)))
     ∧ (v.period = none → sm.pressureHeld = true ∧ after.heldPressure = sl.heldPressure)
     ∧ (∀ h, v.period = none → sl.heldPressure = some h → from' h)
     ∧ (v.period = none → sl.heldPressure = none → from' (outValue pr.curve 0)))
  ∧ (∀ x, outValue none x = x)
  ∧ (∀ (pr : Profile), profileValid pr = true →
     (∀ c, rawPressure pr c ≤ 4095)
     ∧ (∀ c d, c ≤ d → rawPressure pr d ≤ rawPressure pr c)
     ∧ (∀ x y, x ≤ y → y ≤ 4095 → outValue pr.curve x ≤ outValue pr.curve y)
     ∧ (∀ q x, pr.curve = some q → x ≤ 4095 →
         q.y0 ≤ outValue pr.curve x ∧ outValue pr.curve x ≤ q.y5)
     ∧ (∀ q, pr.curve = some q → outValue pr.curve 0 = q.y0)
     ∧ (∀ c, (pr.pFree ≤ c → rawPressure pr c = 0) ∧ (c ≤ pr.pFull → rawPressure pr c = 4095)
         ∧ (pr.pFull < c → c < pr.pFree →
           rawPressure pr c = (pr.pFree - c) * 4095 / (pr.pFree - pr.pFull)))
     ∧ (∀ q x, pr.curve = some q →
         let xs := fun k => [0, q.x1, q.x2, q.x3, q.x4, 4095].getD k 0
         let ys := fun k => [q.y0, q.y1, q.y2, q.y3, q.y4, q.y5].getD k 0
         outValue pr.curve 4095 = q.y5
         ∧ ∀ k, k < 5 → xs k ≤ x → x < xs (k + 1) → outValue pr.curve x
             = ys k + (ys (k + 1) - ys k) * (x - xs k) / (xs (k + 1) - xs k))
     ∧ (∀ t out, (pr.on ≤ out → nextTip pr t out = .down)
         ∧ (out < pr.off → nextTip pr t out = .up)
         ∧ (pr.off ≤ out → out < pr.on → nextTip pr t out = t)))

/-- The square root is the greatest integer whose square does not exceed its argument (R114); and of a
computed tilt each component lies within −600..+600 with its offset's sign, saturated exactly where z is
below h ÷ 2 or a quotient reaches 443, and with the magnitude that the table of R115 gives its quotient
|d| × 256 ÷ max(z, h ÷ 2), clamped to 443 (R114, R115). A full sample computes its tilt where the tilt
mode is ON and the collar present, from the raw positions of COLLAR and TIP, with TILT_SAT as just said,
and it becomes the held tilt; with the collar absent it carries the held pair as stored with TILT_HELD
and without TILT_SAT, or with none held no tilt; with the mode OFF it carries none and the held tilt is
made absent (R113, R115, R116). It carries UNSYNCED where its TIP record is marked so, or the delivered
COLLAR record (R117). -/
def Obligations.TiltWithinBounds : Prop :=
  (∀ n : Nat, isqrt n * isqrt n ≤ n ∧ n < (isqrt n + 1) * (isqrt n + 1))
  ∧ (∀ (h : Nat) (dx dy : Int), 500 ≤ h → h ≤ 3000 →
     let t := tiltOf h dx dy
     let z := max (isqrt ((h * h : Int) - (dx * dx + dy * dy)).toNat) (h / 2)
     t.1.1.natAbs ≤ 600 ∧ t.1.2.natAbs ≤ 600
     ∧ (0 ≤ dx → 0 ≤ t.1.1) ∧ (dx ≤ 0 → t.1.1 ≤ 0)
     ∧ (0 ≤ dy → 0 ≤ t.1.2) ∧ (dy ≤ 0 → t.1.2 ≤ 0)
     ∧ (t.2 = true ↔ isqrt ((h * h : Int) - (dx * dx + dy * dy)).toNat < h / 2
         ∨ 443 ≤ dx.natAbs * 256 / z ∨ 443 ≤ dy.natAbs * 256 / z)
     ∧ (let table := fun k => [0, 22, 45, 69, 93, 119, 148, 179, 215, 256, 305, 366, 443].getD k 0
        let converts := fun (d m : Int) =>
          let q := min 443 (d.natAbs * 256 / z)
          (q = 443 → m.natAbs = 600)
          ∧ ∀ k, k < 12 → table k ≤ q → q < table (k + 1) →
            m.natAbs = 50 * k + 50 * (q - table k) / (table (k + 1) - table k)
        converts dx t.1.1 ∧ converts dy t.1.2))
  ∧ (∀ (c : Channel) (v : HitView) (s : State),
     let sl := s.slot c
     let pr := slotProfile s c
     let sm := (sampleSlot c v s).2
     let after := (sampleSlot c v s).1.slot c
     let raw := rawPosition s.cfe.layout s.cfe.panel v.tip v.peaks
     sm.unsynced = (v.tip.unsynced || v.collar.any (·.unsynced))
     ∧ after.heldTilt = sm.tilt
     ∧ (pr.tilt = false → sm.tilt = none ∧ sm.tiltHeld = false ∧ sm.tiltSat = false)
     ∧ (pr.tilt = true → (v.collar = none ∨ v.collarPeaks = none) →
         sm.tilt = sl.heldTilt ∧ sm.tiltHeld = sl.heldTilt.isSome ∧ sm.tiltSat = false)
     ∧ (∀ k pk, pr.tilt = true → v.collar = some k → v.collarPeaks = some pk →
         let collar := rawPosition s.cfe.layout s.cfe.panel k pk
         let tilt := tiltOf pr.height (collar.1 - raw.1) (collar.2 - raw.2)
         sm.tilt = some tilt.1 ∧ sm.tiltHeld = false ∧ sm.tiltSat = tilt.2))

/-! ### Invariants of every step -/

/-- Every step keeps the scan state, the frame, the timer and the engines in agreement; in particular
no burst is in flight while a set, unmasked fault of HALT severity exists (R23, R38, R48, R157). -/
def Obligations.StepKeepsScanConsistent : Prop :=
  ∀ s t : State, ScanConsistent s → step s = .next t → ScanConsistent t
    ∧ (t.fmo.halting = true → ∀ sh, (t.engine sh).st = .idle ∧ t.burstAt sh = none)

/-- Every step keeps every setting, staged or active, and the panel within their ranges (R4, R22, R28,
R49, R95), each sheet's detect threshold that of its floor and the active detect minimum (R17), and
each plan within the slot budget and the budget within 40 (R40, R41). -/
def Obligations.StepKeepsSettingsLegal : Prop :=
  ∀ s t : State, step s = .next t →
    (SettingsLegal s → SettingsLegal t) ∧ (LevelsFollow s → LevelsFollow t)
      ∧ (PlansFit s → PlansFit t)

/-- Every step keeps the Profile Table's records valid, at most sixteen of them of tools, under
distinct IDs (R120, R121, R122); the first-fault pointer empty or at a fault whose status is set
(R155); and at most four commands buffered and two replies pending, with the frame in progress within
its LENGTH (R176, R177, R179, R180). -/
def Obligations.StepKeepsTablesBounded : Prop :=
  ∀ s t : State, step s = .next t →
    (TableLegal s.ptb → TableLegal t.ptb) ∧ (PointerNamesSet s → PointerNamesSet t)
      ∧ (LinkBounded s → LinkBounded t)

/-- Every step keeps the slots consistent: IDLE exactly outside the enable set, bound as R128's table
says, proximity-sent exactly in TRACK, a sub-record exactly in CONFIRM and TRACK, no pen held outside
RUNNING (R55, R56, R71, R77, R78, R82, R128); and the lists of the slots and their sub-records within
their bounds, and every tool ID within 1..65535 (R68, R82, R88, R92). -/
def Obligations.StepKeepsSlotsConsistent : Prop :=
  ∀ s t : State, step s = .next t →
    (SlotsConsistent s → SlotsConsistent t) ∧ (SlotsBounded s → SlotsBounded t)

/-- Every step keeps the two laws of R141 over the reports still to be sent (per channel the notices
alternate, and a MOTION or TOOL stands between an IN and its OUT), and the bounds of R134: at most 48
MOTION, one ALERT, per channel one IN, one OUT and one TOOL, and 64 entries in all. And R141 over what
is transmitted: from whatever view of a channel's proximity the host holds, if the waiting reports lead
from it to the slot's proximity-sent flag (`HostAt`), then the frame whose transmission the step starts,
read by its bytes, is one that R141 allows from that view, and from the view after it the reports then
waiting lead to the flag again. An ANNOUNCE sets the view to no pen, and while RESETN is low any view
will do, since the release's ANNOUNCE comes first (R144). No frame is in transmission while RESETN is
low or the command reset is due (R187, R189). -/
def Obligations.StepKeepsQueueLawful : Prop :=
  ∀ s t : State, QueueLawful s → step s = .next t →
    QueueLawful t ∧ t.rqu.queue.length ≤ 64
    ∧ ∀ c view, HostAt s c view →
      ∃ seen, wireSees c view (frameStarted s t) = some seen ∧ HostAt t c seen

/-- The state after reset meets every invariant of this file, and from any view of the host its ANNOUNCE
leads to the proximity-sent flags, all clear (R141). -/
def Obligations.ResetMeetsInvariants : Prop :=
  ScanConsistent State.reset ∧ SettingsLegal State.reset ∧ TableLegal State.reset.ptb
  ∧ PlansFit State.reset ∧ LevelsFollow State.reset ∧ SlotsConsistent State.reset
  ∧ SlotsBounded State.reset ∧ QueueBounded State.reset ∧ QueueLawful State.reset
  ∧ PointerNamesSet State.reset ∧ LinkBounded State.reset
  ∧ ∀ c view, HostAt State.reset c view
end

