-- ==== Sys2Proof/Laws/State.lean ====
section
/-! SUPPORT. Reading a block of State after setting one, and reading a table after setting one place
of it. -/

namespace Sys2Proof.Machine

@[simp] theorem State.setPins_pins (s : State) (v : Pins) : (s.setPins v).pins = v := rfl
@[simp] theorem State.setPins_cfe (s : State) (v : Pins) : (s.setPins v).cfe = s.cfe := rfl
@[simp] theorem State.setPins_fts (s : State) (v : Pins) : (s.setPins v).fts = s.fts := rfl
@[simp] theorem State.setPins_bpl (s : State) (v : Pins) : (s.setPins v).bpl = s.bpl := rfl
@[simp] theorem State.setPins_ptr (s : State) (v : Pins) : (s.setPins v).ptr = s.ptr := rfl
@[simp] theorem State.setPins_wdc (s : State) (v : Pins) : (s.setPins v).wdc = s.wdc := rfl
@[simp] theorem State.setPins_ptb (s : State) (v : Pins) : (s.setPins v).ptb = s.ptb := rfl
@[simp] theorem State.setPins_rqu (s : State) (v : Pins) : (s.setPins v).rqu = s.rqu := rfl
@[simp] theorem State.setPins_fmo (s : State) (v : Pins) : (s.setPins v).fmo = s.fmo := rfl
@[simp] theorem State.setPins_lnk (s : State) (v : Pins) : (s.setPins v).lnk = s.lnk := rfl
@[simp] theorem State.setPins_cpr (s : State) (v : Pins) : (s.setPins v).cpr = s.cpr := rfl
@[simp] theorem State.setPins_free (s : State) (v : Pins) : (s.setPins v).free = s.free := rfl
@[simp] theorem State.setPins_pending (s : State) (v : Pins) : (s.setPins v).pending = s.pending := rfl
@[simp] theorem State.setCfe_pins (s : State) (v : Cfe) : (s.setCfe v).pins = s.pins := rfl
@[simp] theorem State.setCfe_cfe (s : State) (v : Cfe) : (s.setCfe v).cfe = v := rfl
@[simp] theorem State.setCfe_fts (s : State) (v : Cfe) : (s.setCfe v).fts = s.fts := rfl
@[simp] theorem State.setCfe_bpl (s : State) (v : Cfe) : (s.setCfe v).bpl = s.bpl := rfl
@[simp] theorem State.setCfe_ptr (s : State) (v : Cfe) : (s.setCfe v).ptr = s.ptr := rfl
@[simp] theorem State.setCfe_wdc (s : State) (v : Cfe) : (s.setCfe v).wdc = s.wdc := rfl
@[simp] theorem State.setCfe_ptb (s : State) (v : Cfe) : (s.setCfe v).ptb = s.ptb := rfl
@[simp] theorem State.setCfe_rqu (s : State) (v : Cfe) : (s.setCfe v).rqu = s.rqu := rfl
@[simp] theorem State.setCfe_fmo (s : State) (v : Cfe) : (s.setCfe v).fmo = s.fmo := rfl
@[simp] theorem State.setCfe_lnk (s : State) (v : Cfe) : (s.setCfe v).lnk = s.lnk := rfl
@[simp] theorem State.setCfe_cpr (s : State) (v : Cfe) : (s.setCfe v).cpr = s.cpr := rfl
@[simp] theorem State.setCfe_free (s : State) (v : Cfe) : (s.setCfe v).free = s.free := rfl
@[simp] theorem State.setCfe_pending (s : State) (v : Cfe) : (s.setCfe v).pending = s.pending := rfl
@[simp] theorem State.setFts_pins (s : State) (v : Fts) : (s.setFts v).pins = s.pins := rfl
@[simp] theorem State.setFts_cfe (s : State) (v : Fts) : (s.setFts v).cfe = s.cfe := rfl
@[simp] theorem State.setFts_fts (s : State) (v : Fts) : (s.setFts v).fts = v := rfl
@[simp] theorem State.setFts_bpl (s : State) (v : Fts) : (s.setFts v).bpl = s.bpl := rfl
@[simp] theorem State.setFts_ptr (s : State) (v : Fts) : (s.setFts v).ptr = s.ptr := rfl
@[simp] theorem State.setFts_wdc (s : State) (v : Fts) : (s.setFts v).wdc = s.wdc := rfl
@[simp] theorem State.setFts_ptb (s : State) (v : Fts) : (s.setFts v).ptb = s.ptb := rfl
@[simp] theorem State.setFts_rqu (s : State) (v : Fts) : (s.setFts v).rqu = s.rqu := rfl
@[simp] theorem State.setFts_fmo (s : State) (v : Fts) : (s.setFts v).fmo = s.fmo := rfl
@[simp] theorem State.setFts_lnk (s : State) (v : Fts) : (s.setFts v).lnk = s.lnk := rfl
@[simp] theorem State.setFts_cpr (s : State) (v : Fts) : (s.setFts v).cpr = s.cpr := rfl
@[simp] theorem State.setFts_free (s : State) (v : Fts) : (s.setFts v).free = s.free := rfl
@[simp] theorem State.setFts_pending (s : State) (v : Fts) : (s.setFts v).pending = s.pending := rfl
@[simp] theorem State.setBpl_pins (s : State) (v : Bpl) : (s.setBpl v).pins = s.pins := rfl
@[simp] theorem State.setBpl_cfe (s : State) (v : Bpl) : (s.setBpl v).cfe = s.cfe := rfl
@[simp] theorem State.setBpl_fts (s : State) (v : Bpl) : (s.setBpl v).fts = s.fts := rfl
@[simp] theorem State.setBpl_bpl (s : State) (v : Bpl) : (s.setBpl v).bpl = v := rfl
@[simp] theorem State.setBpl_ptr (s : State) (v : Bpl) : (s.setBpl v).ptr = s.ptr := rfl
@[simp] theorem State.setBpl_wdc (s : State) (v : Bpl) : (s.setBpl v).wdc = s.wdc := rfl
@[simp] theorem State.setBpl_ptb (s : State) (v : Bpl) : (s.setBpl v).ptb = s.ptb := rfl
@[simp] theorem State.setBpl_rqu (s : State) (v : Bpl) : (s.setBpl v).rqu = s.rqu := rfl
@[simp] theorem State.setBpl_fmo (s : State) (v : Bpl) : (s.setBpl v).fmo = s.fmo := rfl
@[simp] theorem State.setBpl_lnk (s : State) (v : Bpl) : (s.setBpl v).lnk = s.lnk := rfl
@[simp] theorem State.setBpl_cpr (s : State) (v : Bpl) : (s.setBpl v).cpr = s.cpr := rfl
@[simp] theorem State.setBpl_free (s : State) (v : Bpl) : (s.setBpl v).free = s.free := rfl
@[simp] theorem State.setBpl_pending (s : State) (v : Bpl) : (s.setBpl v).pending = s.pending := rfl
@[simp] theorem State.setPtr_pins (s : State) (v : Ptr) : (s.setPtr v).pins = s.pins := rfl
@[simp] theorem State.setPtr_cfe (s : State) (v : Ptr) : (s.setPtr v).cfe = s.cfe := rfl
@[simp] theorem State.setPtr_fts (s : State) (v : Ptr) : (s.setPtr v).fts = s.fts := rfl
@[simp] theorem State.setPtr_bpl (s : State) (v : Ptr) : (s.setPtr v).bpl = s.bpl := rfl
@[simp] theorem State.setPtr_ptr (s : State) (v : Ptr) : (s.setPtr v).ptr = v := rfl
@[simp] theorem State.setPtr_wdc (s : State) (v : Ptr) : (s.setPtr v).wdc = s.wdc := rfl
@[simp] theorem State.setPtr_ptb (s : State) (v : Ptr) : (s.setPtr v).ptb = s.ptb := rfl
@[simp] theorem State.setPtr_rqu (s : State) (v : Ptr) : (s.setPtr v).rqu = s.rqu := rfl
@[simp] theorem State.setPtr_fmo (s : State) (v : Ptr) : (s.setPtr v).fmo = s.fmo := rfl
@[simp] theorem State.setPtr_lnk (s : State) (v : Ptr) : (s.setPtr v).lnk = s.lnk := rfl
@[simp] theorem State.setPtr_cpr (s : State) (v : Ptr) : (s.setPtr v).cpr = s.cpr := rfl
@[simp] theorem State.setPtr_free (s : State) (v : Ptr) : (s.setPtr v).free = s.free := rfl
@[simp] theorem State.setPtr_pending (s : State) (v : Ptr) : (s.setPtr v).pending = s.pending := rfl
@[simp] theorem State.setWdc_pins (s : State) (v : WordSettings) : (s.setWdc v).pins = s.pins := rfl
@[simp] theorem State.setWdc_cfe (s : State) (v : WordSettings) : (s.setWdc v).cfe = s.cfe := rfl
@[simp] theorem State.setWdc_fts (s : State) (v : WordSettings) : (s.setWdc v).fts = s.fts := rfl
@[simp] theorem State.setWdc_bpl (s : State) (v : WordSettings) : (s.setWdc v).bpl = s.bpl := rfl
@[simp] theorem State.setWdc_ptr (s : State) (v : WordSettings) : (s.setWdc v).ptr = s.ptr := rfl
@[simp] theorem State.setWdc_wdc (s : State) (v : WordSettings) : (s.setWdc v).wdc = v := rfl
@[simp] theorem State.setWdc_ptb (s : State) (v : WordSettings) : (s.setWdc v).ptb = s.ptb := rfl
@[simp] theorem State.setWdc_rqu (s : State) (v : WordSettings) : (s.setWdc v).rqu = s.rqu := rfl
@[simp] theorem State.setWdc_fmo (s : State) (v : WordSettings) : (s.setWdc v).fmo = s.fmo := rfl
@[simp] theorem State.setWdc_lnk (s : State) (v : WordSettings) : (s.setWdc v).lnk = s.lnk := rfl
@[simp] theorem State.setWdc_cpr (s : State) (v : WordSettings) : (s.setWdc v).cpr = s.cpr := rfl
@[simp] theorem State.setWdc_free (s : State) (v : WordSettings) : (s.setWdc v).free = s.free := rfl
@[simp] theorem State.setWdc_pending (s : State) (v : WordSettings) : (s.setWdc v).pending = s.pending := rfl
@[simp] theorem State.setPtb_pins (s : State) (v : Ptb) : (s.setPtb v).pins = s.pins := rfl
@[simp] theorem State.setPtb_cfe (s : State) (v : Ptb) : (s.setPtb v).cfe = s.cfe := rfl
@[simp] theorem State.setPtb_fts (s : State) (v : Ptb) : (s.setPtb v).fts = s.fts := rfl
@[simp] theorem State.setPtb_bpl (s : State) (v : Ptb) : (s.setPtb v).bpl = s.bpl := rfl
@[simp] theorem State.setPtb_ptr (s : State) (v : Ptb) : (s.setPtb v).ptr = s.ptr := rfl
@[simp] theorem State.setPtb_wdc (s : State) (v : Ptb) : (s.setPtb v).wdc = s.wdc := rfl
@[simp] theorem State.setPtb_ptb (s : State) (v : Ptb) : (s.setPtb v).ptb = v := rfl
@[simp] theorem State.setPtb_rqu (s : State) (v : Ptb) : (s.setPtb v).rqu = s.rqu := rfl
@[simp] theorem State.setPtb_fmo (s : State) (v : Ptb) : (s.setPtb v).fmo = s.fmo := rfl
@[simp] theorem State.setPtb_lnk (s : State) (v : Ptb) : (s.setPtb v).lnk = s.lnk := rfl
@[simp] theorem State.setPtb_cpr (s : State) (v : Ptb) : (s.setPtb v).cpr = s.cpr := rfl
@[simp] theorem State.setPtb_free (s : State) (v : Ptb) : (s.setPtb v).free = s.free := rfl
@[simp] theorem State.setPtb_pending (s : State) (v : Ptb) : (s.setPtb v).pending = s.pending := rfl
@[simp] theorem State.setRqu_pins (s : State) (v : Rqu) : (s.setRqu v).pins = s.pins := rfl
@[simp] theorem State.setRqu_cfe (s : State) (v : Rqu) : (s.setRqu v).cfe = s.cfe := rfl
@[simp] theorem State.setRqu_fts (s : State) (v : Rqu) : (s.setRqu v).fts = s.fts := rfl
@[simp] theorem State.setRqu_bpl (s : State) (v : Rqu) : (s.setRqu v).bpl = s.bpl := rfl
@[simp] theorem State.setRqu_ptr (s : State) (v : Rqu) : (s.setRqu v).ptr = s.ptr := rfl
@[simp] theorem State.setRqu_wdc (s : State) (v : Rqu) : (s.setRqu v).wdc = s.wdc := rfl
@[simp] theorem State.setRqu_ptb (s : State) (v : Rqu) : (s.setRqu v).ptb = s.ptb := rfl
@[simp] theorem State.setRqu_rqu (s : State) (v : Rqu) : (s.setRqu v).rqu = v := rfl
@[simp] theorem State.setRqu_fmo (s : State) (v : Rqu) : (s.setRqu v).fmo = s.fmo := rfl
@[simp] theorem State.setRqu_lnk (s : State) (v : Rqu) : (s.setRqu v).lnk = s.lnk := rfl
@[simp] theorem State.setRqu_cpr (s : State) (v : Rqu) : (s.setRqu v).cpr = s.cpr := rfl
@[simp] theorem State.setRqu_free (s : State) (v : Rqu) : (s.setRqu v).free = s.free := rfl
@[simp] theorem State.setRqu_pending (s : State) (v : Rqu) : (s.setRqu v).pending = s.pending := rfl
@[simp] theorem State.setFmo_pins (s : State) (v : Fmo) : (s.setFmo v).pins = s.pins := rfl
@[simp] theorem State.setFmo_cfe (s : State) (v : Fmo) : (s.setFmo v).cfe = s.cfe := rfl
@[simp] theorem State.setFmo_fts (s : State) (v : Fmo) : (s.setFmo v).fts = s.fts := rfl
@[simp] theorem State.setFmo_bpl (s : State) (v : Fmo) : (s.setFmo v).bpl = s.bpl := rfl
@[simp] theorem State.setFmo_ptr (s : State) (v : Fmo) : (s.setFmo v).ptr = s.ptr := rfl
@[simp] theorem State.setFmo_wdc (s : State) (v : Fmo) : (s.setFmo v).wdc = s.wdc := rfl
@[simp] theorem State.setFmo_ptb (s : State) (v : Fmo) : (s.setFmo v).ptb = s.ptb := rfl
@[simp] theorem State.setFmo_rqu (s : State) (v : Fmo) : (s.setFmo v).rqu = s.rqu := rfl
@[simp] theorem State.setFmo_fmo (s : State) (v : Fmo) : (s.setFmo v).fmo = v := rfl
@[simp] theorem State.setFmo_lnk (s : State) (v : Fmo) : (s.setFmo v).lnk = s.lnk := rfl
@[simp] theorem State.setFmo_cpr (s : State) (v : Fmo) : (s.setFmo v).cpr = s.cpr := rfl
@[simp] theorem State.setFmo_free (s : State) (v : Fmo) : (s.setFmo v).free = s.free := rfl
@[simp] theorem State.setFmo_pending (s : State) (v : Fmo) : (s.setFmo v).pending = s.pending := rfl
@[simp] theorem State.setLnk_pins (s : State) (v : Lnk) : (s.setLnk v).pins = s.pins := rfl
@[simp] theorem State.setLnk_cfe (s : State) (v : Lnk) : (s.setLnk v).cfe = s.cfe := rfl
@[simp] theorem State.setLnk_fts (s : State) (v : Lnk) : (s.setLnk v).fts = s.fts := rfl
@[simp] theorem State.setLnk_bpl (s : State) (v : Lnk) : (s.setLnk v).bpl = s.bpl := rfl
@[simp] theorem State.setLnk_ptr (s : State) (v : Lnk) : (s.setLnk v).ptr = s.ptr := rfl
@[simp] theorem State.setLnk_wdc (s : State) (v : Lnk) : (s.setLnk v).wdc = s.wdc := rfl
@[simp] theorem State.setLnk_ptb (s : State) (v : Lnk) : (s.setLnk v).ptb = s.ptb := rfl
@[simp] theorem State.setLnk_rqu (s : State) (v : Lnk) : (s.setLnk v).rqu = s.rqu := rfl
@[simp] theorem State.setLnk_fmo (s : State) (v : Lnk) : (s.setLnk v).fmo = s.fmo := rfl
@[simp] theorem State.setLnk_lnk (s : State) (v : Lnk) : (s.setLnk v).lnk = v := rfl
@[simp] theorem State.setLnk_cpr (s : State) (v : Lnk) : (s.setLnk v).cpr = s.cpr := rfl
@[simp] theorem State.setLnk_free (s : State) (v : Lnk) : (s.setLnk v).free = s.free := rfl
@[simp] theorem State.setLnk_pending (s : State) (v : Lnk) : (s.setLnk v).pending = s.pending := rfl
@[simp] theorem State.setCpr_pins (s : State) (v : CprPhase) : (s.setCpr v).pins = s.pins := rfl
@[simp] theorem State.setCpr_cfe (s : State) (v : CprPhase) : (s.setCpr v).cfe = s.cfe := rfl
@[simp] theorem State.setCpr_fts (s : State) (v : CprPhase) : (s.setCpr v).fts = s.fts := rfl
@[simp] theorem State.setCpr_bpl (s : State) (v : CprPhase) : (s.setCpr v).bpl = s.bpl := rfl
@[simp] theorem State.setCpr_ptr (s : State) (v : CprPhase) : (s.setCpr v).ptr = s.ptr := rfl
@[simp] theorem State.setCpr_wdc (s : State) (v : CprPhase) : (s.setCpr v).wdc = s.wdc := rfl
@[simp] theorem State.setCpr_ptb (s : State) (v : CprPhase) : (s.setCpr v).ptb = s.ptb := rfl
@[simp] theorem State.setCpr_rqu (s : State) (v : CprPhase) : (s.setCpr v).rqu = s.rqu := rfl
@[simp] theorem State.setCpr_fmo (s : State) (v : CprPhase) : (s.setCpr v).fmo = s.fmo := rfl
@[simp] theorem State.setCpr_lnk (s : State) (v : CprPhase) : (s.setCpr v).lnk = s.lnk := rfl
@[simp] theorem State.setCpr_cpr (s : State) (v : CprPhase) : (s.setCpr v).cpr = v := rfl
@[simp] theorem State.setCpr_free (s : State) (v : CprPhase) : (s.setCpr v).free = s.free := rfl
@[simp] theorem State.setCpr_pending (s : State) (v : CprPhase) : (s.setCpr v).pending = s.pending := rfl
@[simp] theorem State.setFree_pins (s : State) (v : Nat) : (s.setFree v).pins = s.pins := rfl
@[simp] theorem State.setFree_cfe (s : State) (v : Nat) : (s.setFree v).cfe = s.cfe := rfl
@[simp] theorem State.setFree_fts (s : State) (v : Nat) : (s.setFree v).fts = s.fts := rfl
@[simp] theorem State.setFree_bpl (s : State) (v : Nat) : (s.setFree v).bpl = s.bpl := rfl
@[simp] theorem State.setFree_ptr (s : State) (v : Nat) : (s.setFree v).ptr = s.ptr := rfl
@[simp] theorem State.setFree_wdc (s : State) (v : Nat) : (s.setFree v).wdc = s.wdc := rfl
@[simp] theorem State.setFree_ptb (s : State) (v : Nat) : (s.setFree v).ptb = s.ptb := rfl
@[simp] theorem State.setFree_rqu (s : State) (v : Nat) : (s.setFree v).rqu = s.rqu := rfl
@[simp] theorem State.setFree_fmo (s : State) (v : Nat) : (s.setFree v).fmo = s.fmo := rfl
@[simp] theorem State.setFree_lnk (s : State) (v : Nat) : (s.setFree v).lnk = s.lnk := rfl
@[simp] theorem State.setFree_cpr (s : State) (v : Nat) : (s.setFree v).cpr = s.cpr := rfl
@[simp] theorem State.setFree_free (s : State) (v : Nat) : (s.setFree v).free = v := rfl
@[simp] theorem State.setFree_pending (s : State) (v : Nat) : (s.setFree v).pending = s.pending := rfl
@[simp] theorem State.setPending_pins (s : State) (v : List Instr) : (s.setPending v).pins = s.pins := rfl
@[simp] theorem State.setPending_cfe (s : State) (v : List Instr) : (s.setPending v).cfe = s.cfe := rfl
@[simp] theorem State.setPending_fts (s : State) (v : List Instr) : (s.setPending v).fts = s.fts := rfl
@[simp] theorem State.setPending_bpl (s : State) (v : List Instr) : (s.setPending v).bpl = s.bpl := rfl
@[simp] theorem State.setPending_ptr (s : State) (v : List Instr) : (s.setPending v).ptr = s.ptr := rfl
@[simp] theorem State.setPending_wdc (s : State) (v : List Instr) : (s.setPending v).wdc = s.wdc := rfl
@[simp] theorem State.setPending_ptb (s : State) (v : List Instr) : (s.setPending v).ptb = s.ptb := rfl
@[simp] theorem State.setPending_rqu (s : State) (v : List Instr) : (s.setPending v).rqu = s.rqu := rfl
@[simp] theorem State.setPending_fmo (s : State) (v : List Instr) : (s.setPending v).fmo = s.fmo := rfl
@[simp] theorem State.setPending_lnk (s : State) (v : List Instr) : (s.setPending v).lnk = s.lnk := rfl
@[simp] theorem State.setPending_cpr (s : State) (v : List Instr) : (s.setPending v).cpr = s.cpr := rfl
@[simp] theorem State.setPending_free (s : State) (v : List Instr) : (s.setPending v).free = s.free := rfl
@[simp] theorem State.setPending_pending (s : State) (v : List Instr) : (s.setPending v).pending = v := rfl

@[simp] theorem PerChannel.get_set {α : Type} (v : PerChannel α) (c d : Channel) (a : α) :
    (v.set c a).get d = if d = c then a else v.get d := by
  cases c <;> cases d <;> rfl

@[simp] theorem everyChannel_get {α : Type} (a : α) (c : Channel) :
    (everyChannel a).get c = a := by cases c <;> rfl

@[simp] theorem sheetGet_sheetSet {α : Type} (v : PerSheet α) (sh t : Sheet) (a : α) :
    sheetGet (sheetSet v sh a) t = if t = sh then a else sheetGet v t := by
  cases sh <;> cases t <;> rfl

@[simp] theorem sheetGet_everySheet {α : Type} (a : α) (sh : Sheet) :
    sheetGet (everySheet a) sh = a := by cases sh <;> rfl

@[simp] theorem PerFault.get_set {α : Type} (v : PerFault α) (f g : FaultId) (a : α) :
    (v.set f a).get g = if g = f then a else v.get g := by
  cases f <;> cases g <;> rfl

@[simp] theorem perFault_get {α : Type} (h : FaultId → α) (f : FaultId) :
    (perFault h).get f = h f := by cases f <;> rfl

@[simp] theorem PerChannel.get_map {α β : Type} (h : α → β) (v : PerChannel α) (c : Channel) :
    (v.map h).get c = h (v.get c) := by cases c <;> rfl

/-- Records that agree on every fault are equal. -/
theorem PerFault.ext_get {α : Type} {u v : PerFault α} (h : ∀ f, u.get f = v.get f) :
    u = v := by
  cases u; cases v
  simp only [PerFault.mk.injEq]
  refine ⟨?_, ?_, ?_, ?_, ?_, ?_, ?_, ?_, ?_, ?_⟩
  exacts [h .linkCrc, h .linkFraming, h .cmdOverrun, h .syncLost, h .syncTimeout, h .frameCut,
    h .queueDrop, h .twin, h .profileMiss, h .driverTrip]

end Sys2Proof.Machine
end

