-- ==== Sys2Proof/Laws/Ops.lean ====
section
/-! SUPPORT. What the shared operations keep and what they do, once for each: the provers cite these
and unfold none of them. -/

namespace Sys2Proof.Machine

/-! ### Slots -/

@[simp] theorem State.slot_setSlot (s : State) (c d : Channel) (sl : Slot) :
    (s.setSlot c sl).slot d = if d = c then sl else s.slot d :=
  PerChannel.get_set s.ptr.slots c d sl

@[simp] theorem State.slot_setPins (s : State) (v : Pins) (c : Channel) :
    (s.setPins v).slot c = s.slot c := rfl

@[simp] theorem State.slot_setCfe (s : State) (v : Cfe) (c : Channel) :
    (s.setCfe v).slot c = s.slot c := rfl

@[simp] theorem State.slot_setFts (s : State) (v : Fts) (c : Channel) :
    (s.setFts v).slot c = s.slot c := rfl

@[simp] theorem State.slot_setBpl (s : State) (v : Bpl) (c : Channel) :
    (s.setBpl v).slot c = s.slot c := rfl

@[simp] theorem State.slot_setWdc (s : State) (v : WordSettings) (c : Channel) :
    (s.setWdc v).slot c = s.slot c := rfl

@[simp] theorem State.slot_setPtb (s : State) (v : Ptb) (c : Channel) :
    (s.setPtb v).slot c = s.slot c := rfl

@[simp] theorem State.slot_setRqu (s : State) (v : Rqu) (c : Channel) :
    (s.setRqu v).slot c = s.slot c := rfl

@[simp] theorem State.slot_setFmo (s : State) (v : Fmo) (c : Channel) :
    (s.setFmo v).slot c = s.slot c := rfl

@[simp] theorem State.slot_setLnk (s : State) (v : Lnk) (c : Channel) :
    (s.setLnk v).slot c = s.slot c := rfl

@[simp] theorem State.slot_setCpr (s : State) (v : CprPhase) (c : Channel) :
    (s.setCpr v).slot c = s.slot c := rfl

@[simp] theorem State.slot_setFree (s : State) (v : Nat) (c : Channel) :
    (s.setFree v).slot c = s.slot c := rfl

@[simp] theorem State.slot_setPending (s : State) (v : List Instr) (c : Channel) :
    (s.setPending v).slot c = s.slot c := rfl

@[simp] theorem State.setSlot_pins (s : State) (c : Channel) (sl : Slot) :
    (s.setSlot c sl).pins = s.pins := rfl

@[simp] theorem State.setSlot_cfe (s : State) (c : Channel) (sl : Slot) :
    (s.setSlot c sl).cfe = s.cfe := rfl

@[simp] theorem State.setSlot_fts (s : State) (c : Channel) (sl : Slot) :
    (s.setSlot c sl).fts = s.fts := rfl

@[simp] theorem State.setSlot_bpl (s : State) (c : Channel) (sl : Slot) :
    (s.setSlot c sl).bpl = s.bpl := rfl

@[simp] theorem State.setSlot_wdc (s : State) (c : Channel) (sl : Slot) :
    (s.setSlot c sl).wdc = s.wdc := rfl

@[simp] theorem State.setSlot_ptb (s : State) (c : Channel) (sl : Slot) :
    (s.setSlot c sl).ptb = s.ptb := rfl

@[simp] theorem State.setSlot_rqu (s : State) (c : Channel) (sl : Slot) :
    (s.setSlot c sl).rqu = s.rqu := rfl

@[simp] theorem State.setSlot_fmo (s : State) (c : Channel) (sl : Slot) :
    (s.setSlot c sl).fmo = s.fmo := rfl

@[simp] theorem State.setSlot_lnk (s : State) (c : Channel) (sl : Slot) :
    (s.setSlot c sl).lnk = s.lnk := rfl

@[simp] theorem State.setSlot_cpr (s : State) (c : Channel) (sl : Slot) :
    (s.setSlot c sl).cpr = s.cpr := rfl

@[simp] theorem State.setSlot_free (s : State) (c : Channel) (sl : Slot) :
    (s.setSlot c sl).free = s.free := rfl

@[simp] theorem State.setSlot_pending (s : State) (c : Channel) (sl : Slot) :
    (s.setSlot c sl).pending = s.pending := rfl

@[simp] theorem State.setSlot_ptr_enabled (s : State) (c : Channel) (sl : Slot) :
    (s.setSlot c sl).ptr.enabled = s.ptr.enabled := rfl

@[simp] theorem State.setSlot_ptr_records (s : State) (c : Channel) (sl : Slot) :
    (s.setSlot c sl).ptr.records = s.ptr.records := rfl

@[simp] theorem State.modRqu_pins (s : State) (g : Rqu → Rqu) :
    (s.modRqu g).pins = s.pins := rfl

@[simp] theorem State.modRqu_cfe (s : State) (g : Rqu → Rqu) :
    (s.modRqu g).cfe = s.cfe := rfl

@[simp] theorem State.modRqu_fts (s : State) (g : Rqu → Rqu) :
    (s.modRqu g).fts = s.fts := rfl

@[simp] theorem State.modRqu_bpl (s : State) (g : Rqu → Rqu) :
    (s.modRqu g).bpl = s.bpl := rfl

@[simp] theorem State.modRqu_ptr (s : State) (g : Rqu → Rqu) :
    (s.modRqu g).ptr = s.ptr := rfl

@[simp] theorem State.modRqu_wdc (s : State) (g : Rqu → Rqu) :
    (s.modRqu g).wdc = s.wdc := rfl

@[simp] theorem State.modRqu_ptb (s : State) (g : Rqu → Rqu) :
    (s.modRqu g).ptb = s.ptb := rfl

@[simp] theorem State.modRqu_fmo (s : State) (g : Rqu → Rqu) :
    (s.modRqu g).fmo = s.fmo := rfl

@[simp] theorem State.modRqu_lnk (s : State) (g : Rqu → Rqu) :
    (s.modRqu g).lnk = s.lnk := rfl

@[simp] theorem State.modRqu_cpr (s : State) (g : Rqu → Rqu) :
    (s.modRqu g).cpr = s.cpr := rfl

@[simp] theorem State.modRqu_free (s : State) (g : Rqu → Rqu) :
    (s.modRqu g).free = s.free := rfl

@[simp] theorem State.modRqu_pending (s : State) (g : Rqu → Rqu) :
    (s.modRqu g).pending = s.pending := rfl

@[simp] theorem State.modRqu_rqu (s : State) (g : Rqu → Rqu) : (s.modRqu g).rqu = g s.rqu := rfl

@[simp] theorem State.slot_modRqu (s : State) (g : Rqu → Rqu) (c : Channel) :
    (s.modRqu g).slot c = s.slot c := rfl

/-! ### The end of a proximity -/

@[simp] theorem endProximity_pins (c : Channel) (st : SlotState) (s : State) :
    (endProximity c st s).pins = s.pins := by unfold endProximity; split <;> rfl

@[simp] theorem endProximity_cfe (c : Channel) (st : SlotState) (s : State) :
    (endProximity c st s).cfe = s.cfe := by unfold endProximity; split <;> rfl

@[simp] theorem endProximity_fts (c : Channel) (st : SlotState) (s : State) :
    (endProximity c st s).fts = s.fts := by unfold endProximity; split <;> rfl

@[simp] theorem endProximity_bpl (c : Channel) (st : SlotState) (s : State) :
    (endProximity c st s).bpl = s.bpl := by unfold endProximity; split <;> rfl

@[simp] theorem endProximity_wdc (c : Channel) (st : SlotState) (s : State) :
    (endProximity c st s).wdc = s.wdc := by unfold endProximity; split <;> rfl

@[simp] theorem endProximity_ptb (c : Channel) (st : SlotState) (s : State) :
    (endProximity c st s).ptb = s.ptb := by unfold endProximity; split <;> rfl

@[simp] theorem endProximity_fmo (c : Channel) (st : SlotState) (s : State) :
    (endProximity c st s).fmo = s.fmo := by unfold endProximity; split <;> rfl

@[simp] theorem endProximity_lnk (c : Channel) (st : SlotState) (s : State) :
    (endProximity c st s).lnk = s.lnk := by unfold endProximity; split <;> rfl

@[simp] theorem endProximity_cpr (c : Channel) (st : SlotState) (s : State) :
    (endProximity c st s).cpr = s.cpr := by unfold endProximity; split <;> rfl

@[simp] theorem endProximity_free (c : Channel) (st : SlotState) (s : State) :
    (endProximity c st s).free = s.free := by unfold endProximity; split <;> rfl

@[simp] theorem endProximity_pending (c : Channel) (st : SlotState) (s : State) :
    (endProximity c st s).pending = s.pending := by unfold endProximity; split <;> rfl

@[simp] theorem endProximity_ptr_enabled (c : Channel) (st : SlotState) (s : State) :
    (endProximity c st s).ptr.enabled = s.ptr.enabled := by unfold endProximity; split <;> rfl

@[simp] theorem endProximity_ptr_records (c : Channel) (st : SlotState) (s : State) :
    (endProximity c st s).ptr.records = s.ptr.records := by unfold endProximity; split <;> rfl

/-- The end of a proximity changes its own slot alone (R71). -/
@[simp] theorem endProximity_slot (c d : Channel) (st : SlotState) (s : State) :
    (endProximity c st s).slot d = if d = c then endedSlot st (s.slot c) else s.slot d := by
  unfold endProximity; split <;> simp

/-- It hands an OUT where the proximity-sent flag was set (R71). -/
theorem endProximity_rqu (c : Channel) (st : SlotState) (s : State) :
    (endProximity c st s).rqu = if (s.slot c).prox then s.rqu.handOut c else s.rqu := by
  unfold endProximity; split <;> rfl

@[simp] theorem clearSlot_pins (s : State) (c : Channel) :
    (clearSlot s c).pins = s.pins := by unfold clearSlot; split <;> simp

@[simp] theorem clearSlot_cfe (s : State) (c : Channel) :
    (clearSlot s c).cfe = s.cfe := by unfold clearSlot; split <;> simp

@[simp] theorem clearSlot_fts (s : State) (c : Channel) :
    (clearSlot s c).fts = s.fts := by unfold clearSlot; split <;> simp

@[simp] theorem clearSlot_bpl (s : State) (c : Channel) :
    (clearSlot s c).bpl = s.bpl := by unfold clearSlot; split <;> simp

@[simp] theorem clearSlot_wdc (s : State) (c : Channel) :
    (clearSlot s c).wdc = s.wdc := by unfold clearSlot; split <;> simp

@[simp] theorem clearSlot_ptb (s : State) (c : Channel) :
    (clearSlot s c).ptb = s.ptb := by unfold clearSlot; split <;> simp

@[simp] theorem clearSlot_fmo (s : State) (c : Channel) :
    (clearSlot s c).fmo = s.fmo := by unfold clearSlot; split <;> simp

@[simp] theorem clearSlot_lnk (s : State) (c : Channel) :
    (clearSlot s c).lnk = s.lnk := by unfold clearSlot; split <;> simp

@[simp] theorem clearSlot_cpr (s : State) (c : Channel) :
    (clearSlot s c).cpr = s.cpr := by unfold clearSlot; split <;> simp

@[simp] theorem clearSlot_free (s : State) (c : Channel) :
    (clearSlot s c).free = s.free := by unfold clearSlot; split <;> simp

@[simp] theorem clearSlot_pending (s : State) (c : Channel) :
    (clearSlot s c).pending = s.pending := by unfold clearSlot; split <;> simp

@[simp] theorem clearSlot_ptr_enabled (s : State) (c : Channel) :
    (clearSlot s c).ptr.enabled = s.ptr.enabled := by unfold clearSlot; split <;> simp

@[simp] theorem clearSlot_ptr_records (s : State) (c : Channel) :
    (clearSlot s c).ptr.records = s.ptr.records := by unfold clearSlot; split <;> simp

/-- The clearing of a slot ends its proximity, where it holds a pen or a candidate (R77, R78). -/
@[simp] theorem clearSlot_slot (s : State) (c d : Channel) :
    (clearSlot s c).slot d
      = if d = c ∧ (s.slot c).state.active then endedSlot .search (s.slot c) else s.slot d := by
  unfold clearSlot; split <;> simp_all

@[simp] theorem clearSlots_pins (s : State) :
    (clearSlots s).pins = s.pins := by simp [clearSlots, Channel.all]

@[simp] theorem clearSlots_cfe (s : State) :
    (clearSlots s).cfe = s.cfe := by simp [clearSlots, Channel.all]

@[simp] theorem clearSlots_fts (s : State) :
    (clearSlots s).fts = s.fts := by simp [clearSlots, Channel.all]

@[simp] theorem clearSlots_bpl (s : State) :
    (clearSlots s).bpl = s.bpl := by simp [clearSlots, Channel.all]

@[simp] theorem clearSlots_wdc (s : State) :
    (clearSlots s).wdc = s.wdc := by simp [clearSlots, Channel.all]

@[simp] theorem clearSlots_ptb (s : State) :
    (clearSlots s).ptb = s.ptb := by simp [clearSlots, Channel.all]

@[simp] theorem clearSlots_fmo (s : State) :
    (clearSlots s).fmo = s.fmo := by simp [clearSlots, Channel.all]

@[simp] theorem clearSlots_lnk (s : State) :
    (clearSlots s).lnk = s.lnk := by simp [clearSlots, Channel.all]

@[simp] theorem clearSlots_cpr (s : State) :
    (clearSlots s).cpr = s.cpr := by simp [clearSlots, Channel.all]

@[simp] theorem clearSlots_free (s : State) :
    (clearSlots s).free = s.free := by simp [clearSlots, Channel.all]

@[simp] theorem clearSlots_pending (s : State) :
    (clearSlots s).pending = s.pending := by simp [clearSlots, Channel.all]

@[simp] theorem clearSlots_ptr_enabled (s : State) :
    (clearSlots s).ptr.enabled = s.ptr.enabled := by simp [clearSlots, Channel.all]

@[simp] theorem clearSlots_ptr_records (s : State) :
    (clearSlots s).ptr.records = s.ptr.records := by simp [clearSlots, Channel.all]

/-- The clearing of the slots, slot by slot (R78). -/
@[simp] theorem clearSlots_slot (s : State) (d : Channel) :
    (clearSlots s).slot d
      = if (s.slot d).state.active then endedSlot .search (s.slot d) else s.slot d := by
  cases d <;> simp [clearSlots, Channel.all]

/-- Once a slot's proximity has ended it holds neither pen nor candidate. -/
@[simp] theorem endedSlot_search_active (sl : Slot) :
    (endedSlot .search sl).state.active = false := rfl

@[simp] theorem clearSlots_quiet (s : State) (d : Channel) :
    ((clearSlots s).slot d).state.active = false := by
  rw [clearSlots_slot]; split <;> simp_all

@[simp] theorem restartSearch_pins (c : Channel) (s : State) :
    (restartSearch c s).pins = s.pins := rfl

@[simp] theorem restartSearch_cfe (c : Channel) (s : State) :
    (restartSearch c s).cfe = s.cfe := rfl

@[simp] theorem restartSearch_fts (c : Channel) (s : State) :
    (restartSearch c s).fts = s.fts := rfl

@[simp] theorem restartSearch_ptr (c : Channel) (s : State) :
    (restartSearch c s).ptr = s.ptr := rfl

@[simp] theorem restartSearch_wdc (c : Channel) (s : State) :
    (restartSearch c s).wdc = s.wdc := rfl

@[simp] theorem restartSearch_ptb (c : Channel) (s : State) :
    (restartSearch c s).ptb = s.ptb := rfl

@[simp] theorem restartSearch_rqu (c : Channel) (s : State) :
    (restartSearch c s).rqu = s.rqu := rfl

@[simp] theorem restartSearch_fmo (c : Channel) (s : State) :
    (restartSearch c s).fmo = s.fmo := rfl

@[simp] theorem restartSearch_lnk (c : Channel) (s : State) :
    (restartSearch c s).lnk = s.lnk := rfl

@[simp] theorem restartSearch_cpr (c : Channel) (s : State) :
    (restartSearch c s).cpr = s.cpr := rfl

@[simp] theorem restartSearch_free (c : Channel) (s : State) :
    (restartSearch c s).free = s.free := rfl

@[simp] theorem restartSearch_pending (c : Channel) (s : State) :
    (restartSearch c s).pending = s.pending := rfl

@[simp] theorem restartSearch_bpl_active (c : Channel) (s : State) :
    (restartSearch c s).bpl.active = s.bpl.active := rfl

@[simp] theorem restartSearch_bpl_staged (c : Channel) (s : State) :
    (restartSearch c s).bpl.staged = s.bpl.staged := rfl

@[simp] theorem restartSearch_bpl_plan (c : Channel) (s : State) :
    (restartSearch c s).bpl.plan = s.bpl.plan := rfl

@[simp] theorem restartSearch_bpl_budget (c : Channel) (s : State) :
    (restartSearch c s).bpl.budget = s.bpl.budget := rfl

@[simp] theorem restartSearch_bpl_rotation (c : Channel) (s : State) :
    (restartSearch c s).bpl.rotation = s.bpl.rotation := rfl

@[simp] theorem restartSearch_slot (c d : Channel) (s : State) :
    (restartSearch c s).slot d = s.slot d := rfl

/-- A restart takes its own channel's cursors to band 0 (R47). -/
@[simp] theorem restartSearch_cursor (c d : Channel) (s : State) :
    (restartSearch c s).bpl.cursor.get d = if d = c then everySheet 0 else s.bpl.cursor.get d := by
  simp [restartSearch]

@[simp] theorem restartEnabled_pins (s : State) (c : Channel) :
    (restartEnabled s c).pins = s.pins := by unfold restartEnabled; split <;> simp

@[simp] theorem restartEnabled_cfe (s : State) (c : Channel) :
    (restartEnabled s c).cfe = s.cfe := by unfold restartEnabled; split <;> simp

@[simp] theorem restartEnabled_fts (s : State) (c : Channel) :
    (restartEnabled s c).fts = s.fts := by unfold restartEnabled; split <;> simp

@[simp] theorem restartEnabled_ptr (s : State) (c : Channel) :
    (restartEnabled s c).ptr = s.ptr := by unfold restartEnabled; split <;> simp

@[simp] theorem restartEnabled_wdc (s : State) (c : Channel) :
    (restartEnabled s c).wdc = s.wdc := by unfold restartEnabled; split <;> simp

@[simp] theorem restartEnabled_ptb (s : State) (c : Channel) :
    (restartEnabled s c).ptb = s.ptb := by unfold restartEnabled; split <;> simp

@[simp] theorem restartEnabled_rqu (s : State) (c : Channel) :
    (restartEnabled s c).rqu = s.rqu := by unfold restartEnabled; split <;> simp

@[simp] theorem restartEnabled_fmo (s : State) (c : Channel) :
    (restartEnabled s c).fmo = s.fmo := by unfold restartEnabled; split <;> simp

@[simp] theorem restartEnabled_lnk (s : State) (c : Channel) :
    (restartEnabled s c).lnk = s.lnk := by unfold restartEnabled; split <;> simp

@[simp] theorem restartEnabled_cpr (s : State) (c : Channel) :
    (restartEnabled s c).cpr = s.cpr := by unfold restartEnabled; split <;> simp

@[simp] theorem restartEnabled_free (s : State) (c : Channel) :
    (restartEnabled s c).free = s.free := by unfold restartEnabled; split <;> simp

@[simp] theorem restartEnabled_pending (s : State) (c : Channel) :
    (restartEnabled s c).pending = s.pending := by unfold restartEnabled; split <;> simp

@[simp] theorem restartEnabled_bpl_active (s : State) (c : Channel) :
    (restartEnabled s c).bpl.active = s.bpl.active := by unfold restartEnabled; split <;> simp

@[simp] theorem restartEnabled_bpl_staged (s : State) (c : Channel) :
    (restartEnabled s c).bpl.staged = s.bpl.staged := by unfold restartEnabled; split <;> simp

@[simp] theorem restartEnabled_bpl_plan (s : State) (c : Channel) :
    (restartEnabled s c).bpl.plan = s.bpl.plan := by unfold restartEnabled; split <;> simp

@[simp] theorem restartEnabled_bpl_budget (s : State) (c : Channel) :
    (restartEnabled s c).bpl.budget = s.bpl.budget := by unfold restartEnabled; split <;> simp

@[simp] theorem restartEnabled_bpl_rotation (s : State) (c : Channel) :
    (restartEnabled s c).bpl.rotation = s.bpl.rotation := by unfold restartEnabled; split <;> simp

@[simp] theorem restartEnabled_slot (c d : Channel) (s : State) :
    (restartEnabled s c).slot d = s.slot d := by unfold restartEnabled; split <;> simp

@[simp] theorem restartEnabled_cursor (c d : Channel) (s : State) :
    (restartEnabled s c).bpl.cursor.get d
      = if d = c ∧ (s.slot c).state ≠ .idle then everySheet 0 else s.bpl.cursor.get d := by
  unfold restartEnabled; split <;> simp_all

@[simp] theorem clearForStop_pins (s : State) :
    (clearForStop s).pins = s.pins := by simp [clearForStop, Channel.all]

@[simp] theorem clearForStop_cfe (s : State) :
    (clearForStop s).cfe = s.cfe := by simp [clearForStop, Channel.all]

@[simp] theorem clearForStop_fts (s : State) :
    (clearForStop s).fts = s.fts := by simp [clearForStop, Channel.all]

@[simp] theorem clearForStop_wdc (s : State) :
    (clearForStop s).wdc = s.wdc := by simp [clearForStop, Channel.all]

@[simp] theorem clearForStop_ptb (s : State) :
    (clearForStop s).ptb = s.ptb := by simp [clearForStop, Channel.all]

@[simp] theorem clearForStop_fmo (s : State) :
    (clearForStop s).fmo = s.fmo := by simp [clearForStop, Channel.all]

@[simp] theorem clearForStop_lnk (s : State) :
    (clearForStop s).lnk = s.lnk := by simp [clearForStop, Channel.all]

@[simp] theorem clearForStop_cpr (s : State) :
    (clearForStop s).cpr = s.cpr := by simp [clearForStop, Channel.all]

@[simp] theorem clearForStop_free (s : State) :
    (clearForStop s).free = s.free := by simp [clearForStop, Channel.all]

@[simp] theorem clearForStop_pending (s : State) :
    (clearForStop s).pending = s.pending := by simp [clearForStop, Channel.all]

@[simp] theorem clearForStop_ptr_enabled (s : State) :
    (clearForStop s).ptr.enabled = s.ptr.enabled := by simp [clearForStop, Channel.all]

@[simp] theorem clearForStop_ptr_records (s : State) :
    (clearForStop s).ptr.records = s.ptr.records := by simp [clearForStop, Channel.all]

@[simp] theorem clearForStop_bpl_active (s : State) :
    (clearForStop s).bpl.active = s.bpl.active := by simp [clearForStop, Channel.all]

@[simp] theorem clearForStop_bpl_staged (s : State) :
    (clearForStop s).bpl.staged = s.bpl.staged := by simp [clearForStop, Channel.all]

@[simp] theorem clearForStop_bpl_plan (s : State) :
    (clearForStop s).bpl.plan = s.bpl.plan := by simp [clearForStop, Channel.all]

@[simp] theorem clearForStop_bpl_budget (s : State) :
    (clearForStop s).bpl.budget = s.bpl.budget := by simp [clearForStop, Channel.all]

@[simp] theorem clearForStop_bpl_rotation (s : State) :
    (clearForStop s).bpl.rotation = s.bpl.rotation := by simp [clearForStop, Channel.all]

@[simp] theorem clearForStop_slot (s : State) (d : Channel) :
    (clearForStop s).slot d
      = if (s.slot d).state.active then endedSlot .search (s.slot d) else s.slot d := by
  simp [clearForStop, Channel.all]

/-- A stop takes every enabled channel's cursors to band 0 (R77). -/
theorem clearForStop_cursor (s : State) (d : Channel) (h : ((clearForStop s).slot d).state ≠ .idle) :
    (clearForStop s).bpl.cursor.get d = everySheet 0 := by
  have h' : ((clearSlots s).slot d).state ≠ .idle := by simpa using h
  cases d <;> simp [clearForStop, Channel.all, -clearSlots_slot, h']

/-! ### Frames and the scan state -/

@[simp] theorem discardFrame_pins (s : State) :
    (discardFrame s).pins = s.pins := rfl

@[simp] theorem discardFrame_fts (s : State) :
    (discardFrame s).fts = s.fts := rfl

@[simp] theorem discardFrame_wdc (s : State) :
    (discardFrame s).wdc = s.wdc := rfl

@[simp] theorem discardFrame_ptb (s : State) :
    (discardFrame s).ptb = s.ptb := rfl

@[simp] theorem discardFrame_rqu (s : State) :
    (discardFrame s).rqu = s.rqu := rfl

@[simp] theorem discardFrame_fmo (s : State) :
    (discardFrame s).fmo = s.fmo := rfl

@[simp] theorem discardFrame_lnk (s : State) :
    (discardFrame s).lnk = s.lnk := rfl

@[simp] theorem discardFrame_cpr (s : State) :
    (discardFrame s).cpr = s.cpr := rfl

@[simp] theorem discardFrame_free (s : State) :
    (discardFrame s).free = s.free := rfl

@[simp] theorem discardFrame_pending (s : State) :
    (discardFrame s).pending = s.pending := rfl

@[simp] theorem discardFrame_cfe_layout (s : State) :
    (discardFrame s).cfe.layout = s.cfe.layout := rfl

@[simp] theorem discardFrame_cfe_fixed (s : State) :
    (discardFrame s).cfe.fixed = s.cfe.fixed := rfl

@[simp] theorem discardFrame_cfe_panel (s : State) :
    (discardFrame s).cfe.panel = s.cfe.panel := rfl

@[simp] theorem discardFrame_cfe_floor (s : State) :
    (discardFrame s).cfe.floor = s.cfe.floor := rfl

@[simp] theorem discardFrame_cfe_threshold (s : State) :
    (discardFrame s).cfe.threshold = s.cfe.threshold := rfl

@[simp] theorem discardFrame_bpl_active (s : State) :
    (discardFrame s).bpl.active = s.bpl.active := rfl

@[simp] theorem discardFrame_bpl_staged (s : State) :
    (discardFrame s).bpl.staged = s.bpl.staged := rfl

@[simp] theorem discardFrame_bpl_cursor (s : State) :
    (discardFrame s).bpl.cursor = s.bpl.cursor := rfl

@[simp] theorem discardFrame_bpl_rotation (s : State) :
    (discardFrame s).bpl.rotation = s.bpl.rotation := rfl

@[simp] theorem discardFrame_ptr_enabled (s : State) :
    (discardFrame s).ptr.enabled = s.ptr.enabled := rfl

@[simp] theorem discardFrame_ptr_slots (s : State) :
    (discardFrame s).ptr.slots = s.ptr.slots := rfl

@[simp] theorem discardFrame_engine (s : State) :
    (discardFrame s).cfe.engine = everySheet idleEngine := rfl

@[simp] theorem discardFrame_plan (s : State) : (discardFrame s).bpl.plan = everySheet [] := rfl

@[simp] theorem discardFrame_budget (s : State) : (discardFrame s).bpl.budget = 0 := rfl

@[simp] theorem discardFrame_records (s : State) : (discardFrame s).ptr.records = [] := rfl

@[simp] theorem discardFrame_slot (s : State) (c : Channel) :
    (discardFrame s).slot c = s.slot c := rfl

@[simp] theorem stopScanning_pins (s : State) :
    (stopScanning s).pins = s.pins := rfl

@[simp] theorem stopScanning_cfe (s : State) :
    (stopScanning s).cfe = s.cfe := rfl

@[simp] theorem stopScanning_bpl (s : State) :
    (stopScanning s).bpl = s.bpl := rfl

@[simp] theorem stopScanning_ptr (s : State) :
    (stopScanning s).ptr = s.ptr := rfl

@[simp] theorem stopScanning_wdc (s : State) :
    (stopScanning s).wdc = s.wdc := rfl

@[simp] theorem stopScanning_ptb (s : State) :
    (stopScanning s).ptb = s.ptb := rfl

@[simp] theorem stopScanning_rqu (s : State) :
    (stopScanning s).rqu = s.rqu := rfl

@[simp] theorem stopScanning_fmo (s : State) :
    (stopScanning s).fmo = s.fmo := rfl

@[simp] theorem stopScanning_lnk (s : State) :
    (stopScanning s).lnk = s.lnk := rfl

@[simp] theorem stopScanning_cpr (s : State) :
    (stopScanning s).cpr = s.cpr := rfl

@[simp] theorem stopScanning_free (s : State) :
    (stopScanning s).free = s.free := rfl

@[simp] theorem stopScanning_pending (s : State) :
    (stopScanning s).pending = s.pending := rfl

@[simp] theorem stopScanning_slot (s : State) (c : Channel) :
    (stopScanning s).slot c = s.slot c := rfl

/-- What a stop leaves of the Frame Timer (R36, R37). -/
theorem stopScanning_fts (s : State) : (stopScanning s).fts = { s.fts with
    scan := .stopped, stopReq := false, timerOn := false, frame := .noFrame } := rfl

@[simp] theorem enterHalt_pins (s : State) :
    (enterHalt s).pins = s.pins := by unfold enterHalt; split <;> simp

@[simp] theorem enterHalt_wdc (s : State) :
    (enterHalt s).wdc = s.wdc := by unfold enterHalt; split <;> simp

@[simp] theorem enterHalt_ptb (s : State) :
    (enterHalt s).ptb = s.ptb := by unfold enterHalt; split <;> simp

@[simp] theorem enterHalt_fmo (s : State) :
    (enterHalt s).fmo = s.fmo := by unfold enterHalt; split <;> simp

@[simp] theorem enterHalt_lnk (s : State) :
    (enterHalt s).lnk = s.lnk := by unfold enterHalt; split <;> simp

@[simp] theorem enterHalt_cpr (s : State) :
    (enterHalt s).cpr = s.cpr := by unfold enterHalt; split <;> simp

@[simp] theorem enterHalt_free (s : State) :
    (enterHalt s).free = s.free := by unfold enterHalt; split <;> simp

@[simp] theorem enterHalt_pending (s : State) :
    (enterHalt s).pending = s.pending := by unfold enterHalt; split <;> simp

@[simp] theorem enterHalt_cfe_layout (s : State) :
    (enterHalt s).cfe.layout = s.cfe.layout := by unfold enterHalt; split <;> simp

@[simp] theorem enterHalt_cfe_fixed (s : State) :
    (enterHalt s).cfe.fixed = s.cfe.fixed := by unfold enterHalt; split <;> simp

@[simp] theorem enterHalt_cfe_panel (s : State) :
    (enterHalt s).cfe.panel = s.cfe.panel := by unfold enterHalt; split <;> simp

@[simp] theorem enterHalt_cfe_floor (s : State) :
    (enterHalt s).cfe.floor = s.cfe.floor := by unfold enterHalt; split <;> simp

@[simp] theorem enterHalt_cfe_threshold (s : State) :
    (enterHalt s).cfe.threshold = s.cfe.threshold := by unfold enterHalt; split <;> simp

@[simp] theorem enterHalt_bpl_active (s : State) :
    (enterHalt s).bpl.active = s.bpl.active := by unfold enterHalt; split <;> simp

@[simp] theorem enterHalt_bpl_staged (s : State) :
    (enterHalt s).bpl.staged = s.bpl.staged := by unfold enterHalt; split <;> simp

@[simp] theorem enterHalt_bpl_cursor (s : State) :
    (enterHalt s).bpl.cursor = s.bpl.cursor := by unfold enterHalt; split <;> simp

@[simp] theorem enterHalt_bpl_rotation (s : State) :
    (enterHalt s).bpl.rotation = s.bpl.rotation := by unfold enterHalt; split <;> simp

@[simp] theorem enterHalt_ptr_enabled (s : State) :
    (enterHalt s).ptr.enabled = s.ptr.enabled := by unfold enterHalt; split <;> simp

/-- What HALTED entry leaves of the Frame Timer: HALTED in a planless frame, or a stop (R38). -/
theorem enterHalt_fts (s : State) : (enterHalt s).fts = if s.fts.stopReq then
      { s.fts with scan := .stopped, stopReq := false, timerOn := false, frame := .noFrame }
    else { s.fts with scan := .halted, frame := .planless } := by
  unfold enterHalt; split <;> simp [stopScanning_fts]

/-- HALTED entry discards the frame and clears the slots (R9, R38, R78). -/
theorem enterHalt_discards (s : State) :
    (enterHalt s).cfe.engine = everySheet idleEngine ∧ (enterHalt s).bpl.plan = everySheet []
      ∧ (enterHalt s).bpl.budget = 0 ∧ (enterHalt s).ptr.records = [] := by
  unfold enterHalt; split <;> simp

@[simp] theorem enterHalt_slot (s : State) (d : Channel) :
    (enterHalt s).slot d
      = if (s.slot d).state.active then endedSlot .search (s.slot d) else s.slot d := by
  unfold enterHalt; split <;> exact clearSlots_slot (discardFrame s) d

/-- HALTED entry leaves RUNNING. -/
theorem enterHalt_not_running (s : State) : (enterHalt s).fts.scan ≠ .running := by
  rw [enterHalt_fts]; split <;> simp

@[simp] theorem haltIfHeld_pins (s : State) :
    (haltIfHeld s).pins = s.pins := by unfold haltIfHeld; split <;> simp

@[simp] theorem haltIfHeld_wdc (s : State) :
    (haltIfHeld s).wdc = s.wdc := by unfold haltIfHeld; split <;> simp

@[simp] theorem haltIfHeld_ptb (s : State) :
    (haltIfHeld s).ptb = s.ptb := by unfold haltIfHeld; split <;> simp

@[simp] theorem haltIfHeld_fmo (s : State) :
    (haltIfHeld s).fmo = s.fmo := by unfold haltIfHeld; split <;> simp

@[simp] theorem haltIfHeld_lnk (s : State) :
    (haltIfHeld s).lnk = s.lnk := by unfold haltIfHeld; split <;> simp

@[simp] theorem haltIfHeld_cpr (s : State) :
    (haltIfHeld s).cpr = s.cpr := by unfold haltIfHeld; split <;> simp

@[simp] theorem haltIfHeld_free (s : State) :
    (haltIfHeld s).free = s.free := by unfold haltIfHeld; split <;> simp

@[simp] theorem haltIfHeld_pending (s : State) :
    (haltIfHeld s).pending = s.pending := by unfold haltIfHeld; split <;> simp

@[simp] theorem haltIfHeld_cfe_layout (s : State) :
    (haltIfHeld s).cfe.layout = s.cfe.layout := by unfold haltIfHeld; split <;> simp

@[simp] theorem haltIfHeld_cfe_fixed (s : State) :
    (haltIfHeld s).cfe.fixed = s.cfe.fixed := by unfold haltIfHeld; split <;> simp

@[simp] theorem haltIfHeld_cfe_panel (s : State) :
    (haltIfHeld s).cfe.panel = s.cfe.panel := by unfold haltIfHeld; split <;> simp

@[simp] theorem haltIfHeld_cfe_floor (s : State) :
    (haltIfHeld s).cfe.floor = s.cfe.floor := by unfold haltIfHeld; split <;> simp

@[simp] theorem haltIfHeld_cfe_threshold (s : State) :
    (haltIfHeld s).cfe.threshold = s.cfe.threshold := by unfold haltIfHeld; split <;> simp

@[simp] theorem haltIfHeld_bpl_active (s : State) :
    (haltIfHeld s).bpl.active = s.bpl.active := by unfold haltIfHeld; split <;> simp

@[simp] theorem haltIfHeld_bpl_staged (s : State) :
    (haltIfHeld s).bpl.staged = s.bpl.staged := by unfold haltIfHeld; split <;> simp

@[simp] theorem haltIfHeld_bpl_cursor (s : State) :
    (haltIfHeld s).bpl.cursor = s.bpl.cursor := by unfold haltIfHeld; split <;> simp

@[simp] theorem haltIfHeld_bpl_rotation (s : State) :
    (haltIfHeld s).bpl.rotation = s.bpl.rotation := by unfold haltIfHeld; split <;> simp

@[simp] theorem haltIfHeld_ptr_enabled (s : State) :
    (haltIfHeld s).ptr.enabled = s.ptr.enabled := by unfold haltIfHeld; split <;> simp

/-- Where the halting condition does not hold, finding so changes nothing. -/
theorem haltIfHeld_of_not (s : State) (h : s.fmo.halting = false) : haltIfHeld s = s := by
  simp [haltIfHeld, h]

/-- Outside RUNNING a halting condition changes nothing (R158). -/
theorem haltIfHeld_of_scan (s : State) (h : s.fts.scan ≠ .running) : haltIfHeld s = s := by
  simp [haltIfHeld, h]

/-- In RUNNING a halting condition is HALTED entry (R158). -/
theorem haltIfHeld_of_held (s : State) (h : s.fmo.halting = true) (r : s.fts.scan = .running) :
    haltIfHeld s = enterHalt s := by simp [haltIfHeld, h, r]

/-- After the look, no RUNNING part has a halting condition. -/
theorem haltIfHeld_settled (s : State) :
    (haltIfHeld s).fts.scan = .running → (haltIfHeld s).fmo.halting = false := by
  unfold haltIfHeld
  split
  · exact fun h => absurd h (enterHalt_not_running s)
  · rename_i h
    intro r
    simpa [r] using h

/-! ### Raising a fault -/

@[simp] theorem recordFault_pins (f : FaultId) (s : State) :
    (recordFault f s).pins = s.pins := by unfold recordFault; split <;> rfl

@[simp] theorem recordFault_cfe (f : FaultId) (s : State) :
    (recordFault f s).cfe = s.cfe := by unfold recordFault; split <;> rfl

@[simp] theorem recordFault_fts (f : FaultId) (s : State) :
    (recordFault f s).fts = s.fts := by unfold recordFault; split <;> rfl

@[simp] theorem recordFault_bpl (f : FaultId) (s : State) :
    (recordFault f s).bpl = s.bpl := by unfold recordFault; split <;> rfl

@[simp] theorem recordFault_ptr (f : FaultId) (s : State) :
    (recordFault f s).ptr = s.ptr := by unfold recordFault; split <;> rfl

@[simp] theorem recordFault_wdc (f : FaultId) (s : State) :
    (recordFault f s).wdc = s.wdc := by unfold recordFault; split <;> rfl

@[simp] theorem recordFault_ptb (f : FaultId) (s : State) :
    (recordFault f s).ptb = s.ptb := by unfold recordFault; split <;> rfl

@[simp] theorem recordFault_lnk (f : FaultId) (s : State) :
    (recordFault f s).lnk = s.lnk := by unfold recordFault; split <;> rfl

@[simp] theorem recordFault_cpr (f : FaultId) (s : State) :
    (recordFault f s).cpr = s.cpr := by unfold recordFault; split <;> rfl

@[simp] theorem recordFault_free (f : FaultId) (s : State) :
    (recordFault f s).free = s.free := by unfold recordFault; split <;> rfl

@[simp] theorem recordFault_pending (f : FaultId) (s : State) :
    (recordFault f s).pending = s.pending := by unfold recordFault; split <;> rfl

@[simp] theorem recordFault_fmo_snapshot (f : FaultId) (s : State) :
    (recordFault f s).fmo.snapshot = s.fmo.snapshot := by unfold recordFault; split <;> rfl

@[simp] theorem recordFault_fmo_armed (f : FaultId) (s : State) :
    (recordFault f s).fmo.armed = s.fmo.armed := by unfold recordFault; split <;> rfl

@[simp] theorem recordFault_slot (f : FaultId) (s : State) (c : Channel) :
    (recordFault f s).slot c = s.slot c := by unfold recordFault; split <;> rfl

/-- A setting event sets the status and the marker, whatever the mask (R154). -/
@[simp] theorem recordFault_recs (f : FaultId) (s : State) : (recordFault f s).fmo.recs
    = s.fmo.recs.set f { s.fmo.recs.get f with status := true, marker := true } := by
  unfold recordFault; split <;> rfl

/-- An unmasked fault is taken by an empty pointer (R155). -/
theorem recordFault_pointer (f : FaultId) (s : State) : (recordFault f s).fmo.pointer
    = if (s.fmo.recs.get f).masked then s.fmo.pointer else s.fmo.pointer.or (some f) := by
  unfold recordFault; split <;> rfl

/-- An unmasked fault hands an ALERT (R156). -/
theorem recordFault_rqu (f : FaultId) (s : State) : (recordFault f s).rqu
    = if (s.fmo.recs.get f).masked then s.rqu else s.rqu.handAlert := by
  unfold recordFault; split <;> rfl

@[simp] theorem raiseFault_pins (f : FaultId) (s : State) :
    (raiseFault f s).pins = s.pins := by unfold raiseFault; split <;> simp

@[simp] theorem raiseFault_wdc (f : FaultId) (s : State) :
    (raiseFault f s).wdc = s.wdc := by unfold raiseFault; split <;> simp

@[simp] theorem raiseFault_ptb (f : FaultId) (s : State) :
    (raiseFault f s).ptb = s.ptb := by unfold raiseFault; split <;> simp

@[simp] theorem raiseFault_lnk (f : FaultId) (s : State) :
    (raiseFault f s).lnk = s.lnk := by unfold raiseFault; split <;> simp

@[simp] theorem raiseFault_cpr (f : FaultId) (s : State) :
    (raiseFault f s).cpr = s.cpr := by unfold raiseFault; split <;> simp

@[simp] theorem raiseFault_free (f : FaultId) (s : State) :
    (raiseFault f s).free = s.free := by unfold raiseFault; split <;> simp

@[simp] theorem raiseFault_pending (f : FaultId) (s : State) :
    (raiseFault f s).pending = s.pending := by unfold raiseFault; split <;> simp

@[simp] theorem raiseFault_cfe_layout (f : FaultId) (s : State) :
    (raiseFault f s).cfe.layout = s.cfe.layout := by unfold raiseFault; split <;> simp

@[simp] theorem raiseFault_cfe_fixed (f : FaultId) (s : State) :
    (raiseFault f s).cfe.fixed = s.cfe.fixed := by unfold raiseFault; split <;> simp

@[simp] theorem raiseFault_cfe_panel (f : FaultId) (s : State) :
    (raiseFault f s).cfe.panel = s.cfe.panel := by unfold raiseFault; split <;> simp

@[simp] theorem raiseFault_cfe_floor (f : FaultId) (s : State) :
    (raiseFault f s).cfe.floor = s.cfe.floor := by unfold raiseFault; split <;> simp

@[simp] theorem raiseFault_cfe_threshold (f : FaultId) (s : State) :
    (raiseFault f s).cfe.threshold = s.cfe.threshold := by unfold raiseFault; split <;> simp

@[simp] theorem raiseFault_bpl_active (f : FaultId) (s : State) :
    (raiseFault f s).bpl.active = s.bpl.active := by unfold raiseFault; split <;> simp

@[simp] theorem raiseFault_bpl_staged (f : FaultId) (s : State) :
    (raiseFault f s).bpl.staged = s.bpl.staged := by unfold raiseFault; split <;> simp

@[simp] theorem raiseFault_bpl_cursor (f : FaultId) (s : State) :
    (raiseFault f s).bpl.cursor = s.bpl.cursor := by unfold raiseFault; split <;> simp

@[simp] theorem raiseFault_bpl_rotation (f : FaultId) (s : State) :
    (raiseFault f s).bpl.rotation = s.bpl.rotation := by unfold raiseFault; split <;> simp

@[simp] theorem raiseFault_ptr_enabled (f : FaultId) (s : State) :
    (raiseFault f s).ptr.enabled = s.ptr.enabled := by unfold raiseFault; split <;> simp

@[simp] theorem raiseFault_fmo_snapshot (f : FaultId) (s : State) :
    (raiseFault f s).fmo.snapshot = s.fmo.snapshot := by unfold raiseFault; split <;> simp

@[simp] theorem raiseFault_fmo_armed (f : FaultId) (s : State) :
    (raiseFault f s).fmo.armed = s.fmo.armed := by unfold raiseFault; split <;> simp

@[simp] theorem raiseFault_recs (f : FaultId) (s : State) : (raiseFault f s).fmo.recs
    = s.fmo.recs.set f { s.fmo.recs.get f with status := true, marker := true } := by
  unfold raiseFault; split <;> simp

@[simp] theorem raiseFault_fmo (f : FaultId) (s : State) :
    (raiseFault f s).fmo = (recordFault f s).fmo := by
  unfold raiseFault; split <;> simp

/-- Where no fault can halt, raising one is recording it. -/
theorem raiseFault_of_not (f : FaultId) (s : State)
    (h : (recordFault f s).fmo.halting = false) : raiseFault f s = recordFault f s := by
  unfold raiseFault; split
  · rfl
  · exact haltIfHeld_of_not _ h

/-- A slot after a raise: as it was, or cleared by HALTED entry. -/
theorem raiseFault_slot (f : FaultId) (s : State) (c : Channel) :
    (raiseFault f s).slot c = s.slot c
      ∨ ((raiseFault f s).fts.scan ≠ .running ∧ (raiseFault f s).slot c
        = if (s.slot c).state.active then endedSlot .search (s.slot c) else s.slot c) := by
  unfold raiseFault
  split
  · simp
  · unfold haltIfHeld
    split
    · exact .inr ⟨enterHalt_not_running _, by simp⟩
    · simp

/-! ### The transmit arbiter -/

@[simp] theorem arbitrate_pins (s : State) :
    (arbitrate s).pins = s.pins := by
  unfold arbitrate; split
  · split <;> rfl
  · rfl

@[simp] theorem arbitrate_cfe (s : State) :
    (arbitrate s).cfe = s.cfe := by
  unfold arbitrate; split
  · split <;> rfl
  · rfl

@[simp] theorem arbitrate_fts (s : State) :
    (arbitrate s).fts = s.fts := by
  unfold arbitrate; split
  · split <;> rfl
  · rfl

@[simp] theorem arbitrate_bpl (s : State) :
    (arbitrate s).bpl = s.bpl := by
  unfold arbitrate; split
  · split <;> rfl
  · rfl

@[simp] theorem arbitrate_ptr (s : State) :
    (arbitrate s).ptr = s.ptr := by
  unfold arbitrate; split
  · split <;> rfl
  · rfl

@[simp] theorem arbitrate_wdc (s : State) :
    (arbitrate s).wdc = s.wdc := by
  unfold arbitrate; split
  · split <;> rfl
  · rfl

@[simp] theorem arbitrate_ptb (s : State) :
    (arbitrate s).ptb = s.ptb := by
  unfold arbitrate; split
  · split <;> rfl
  · rfl

@[simp] theorem arbitrate_fmo (s : State) :
    (arbitrate s).fmo = s.fmo := by
  unfold arbitrate; split
  · split <;> rfl
  · rfl

@[simp] theorem arbitrate_cpr (s : State) :
    (arbitrate s).cpr = s.cpr := by
  unfold arbitrate; split
  · split <;> rfl
  · rfl

@[simp] theorem arbitrate_free (s : State) :
    (arbitrate s).free = s.free := by
  unfold arbitrate; split
  · split <;> rfl
  · rfl

@[simp] theorem arbitrate_pending (s : State) :
    (arbitrate s).pending = s.pending := by
  unfold arbitrate; split
  · split <;> rfl
  · rfl

@[simp] theorem arbitrate_rqu_gap (s : State) :
    (arbitrate s).rqu.gap = s.rqu.gap := by
  unfold arbitrate; split
  · split <;> rfl
  · rfl

@[simp] theorem arbitrate_rqu_hold (s : State) :
    (arbitrate s).rqu.hold = s.rqu.hold := by
  unfold arbitrate; split
  · split <;> rfl
  · rfl

@[simp] theorem arbitrate_rqu_fresh (s : State) :
    (arbitrate s).rqu.fresh = s.rqu.fresh := by
  unfold arbitrate; split
  · split <;> rfl
  · rfl

@[simp] theorem arbitrate_lnk_framer (s : State) :
    (arbitrate s).lnk.framer = s.lnk.framer := by
  unfold arbitrate; split
  · split <;> rfl
  · rfl

@[simp] theorem arbitrate_lnk_buffer (s : State) :
    (arbitrate s).lnk.buffer = s.lnk.buffer := by
  unfold arbitrate; split
  · split <;> rfl
  · rfl

@[simp] theorem arbitrate_slot (s : State) (c : Channel) : (arbitrate s).slot c = s.slot c := by
  simp [State.slot]

/-- The arbiter takes at most the head of the queue (R145). -/
theorem arbitrate_queue (s : State) : (arbitrate s).rqu.queue = s.rqu.queue
    ∨ ∃ e, s.rqu.queue = e :: (arbitrate s).rqu.queue := by
  unfold arbitrate
  split
  · split <;> simp_all
  · simp

/-- The arbiter takes at most the oldest pending reply (R146). -/
theorem arbitrate_replies (s : State) : (arbitrate s).lnk.replies = s.lnk.replies
    ∨ ∃ r, s.lnk.replies = r :: (arbitrate s).lnk.replies := by
  unfold arbitrate
  split
  · split <;> simp_all
  · simp

/-- While the transmitter is not free the arbiter does nothing. -/
theorem arbitrate_of_not_ready (s : State) (h : s.txReady = false) : arbitrate s = s := by
  simp [arbitrate, h]

/-! ### Binding -/

@[simp] theorem rebindSlot_pins (id : Nat) (s : State) (c : Channel) :
    (rebindSlot id s c).pins = s.pins := by
  unfold rebindSlot; dsimp only; split
  · split <;> rfl
  · rfl

@[simp] theorem rebindSlot_cfe (id : Nat) (s : State) (c : Channel) :
    (rebindSlot id s c).cfe = s.cfe := by
  unfold rebindSlot; dsimp only; split
  · split <;> rfl
  · rfl

@[simp] theorem rebindSlot_fts (id : Nat) (s : State) (c : Channel) :
    (rebindSlot id s c).fts = s.fts := by
  unfold rebindSlot; dsimp only; split
  · split <;> rfl
  · rfl

@[simp] theorem rebindSlot_bpl (id : Nat) (s : State) (c : Channel) :
    (rebindSlot id s c).bpl = s.bpl := by
  unfold rebindSlot; dsimp only; split
  · split <;> rfl
  · rfl

@[simp] theorem rebindSlot_wdc (id : Nat) (s : State) (c : Channel) :
    (rebindSlot id s c).wdc = s.wdc := by
  unfold rebindSlot; dsimp only; split
  · split <;> rfl
  · rfl

@[simp] theorem rebindSlot_ptb (id : Nat) (s : State) (c : Channel) :
    (rebindSlot id s c).ptb = s.ptb := by
  unfold rebindSlot; dsimp only; split
  · split <;> rfl
  · rfl

@[simp] theorem rebindSlot_fmo (id : Nat) (s : State) (c : Channel) :
    (rebindSlot id s c).fmo = s.fmo := by
  unfold rebindSlot; dsimp only; split
  · split <;> rfl
  · rfl

@[simp] theorem rebindSlot_lnk (id : Nat) (s : State) (c : Channel) :
    (rebindSlot id s c).lnk = s.lnk := by
  unfold rebindSlot; dsimp only; split
  · split <;> rfl
  · rfl

@[simp] theorem rebindSlot_cpr (id : Nat) (s : State) (c : Channel) :
    (rebindSlot id s c).cpr = s.cpr := by
  unfold rebindSlot; dsimp only; split
  · split <;> rfl
  · rfl

@[simp] theorem rebindSlot_free (id : Nat) (s : State) (c : Channel) :
    (rebindSlot id s c).free = s.free := by
  unfold rebindSlot; dsimp only; split
  · split <;> rfl
  · rfl

@[simp] theorem rebindSlot_pending (id : Nat) (s : State) (c : Channel) :
    (rebindSlot id s c).pending = s.pending := by
  unfold rebindSlot; dsimp only; split
  · split <;> rfl
  · rfl

@[simp] theorem rebindSlot_ptr_enabled (id : Nat) (s : State) (c : Channel) :
    (rebindSlot id s c).ptr.enabled = s.ptr.enabled := by
  unfold rebindSlot; dsimp only; split
  · split <;> rfl
  · rfl

@[simp] theorem rebindSlot_ptr_records (id : Nat) (s : State) (c : Channel) :
    (rebindSlot id s c).ptr.records = s.ptr.records := by
  unfold rebindSlot; dsimp only; split
  · split <;> rfl
  · rfl

/-- One slot rebound: its binding follows the table, and nothing else of it moves (R129). -/
@[simp] theorem rebindSlot_slot (id : Nat) (s : State) (c d : Channel) :
    (rebindSlot id s c).slot d = if d = c ∧ (s.slot c).toolId = some id
      then { s.slot c with bound := boundOf s.ptb (some id) } else s.slot d := by
  unfold rebindSlot; dsimp only; split
  · split <;> simp_all
  · simp_all

@[simp] theorem rebindSlots_pins (id : Nat) (s : State) :
    (rebindSlots id s).pins = s.pins := by simp [rebindSlots, Channel.all]

@[simp] theorem rebindSlots_cfe (id : Nat) (s : State) :
    (rebindSlots id s).cfe = s.cfe := by simp [rebindSlots, Channel.all]

@[simp] theorem rebindSlots_fts (id : Nat) (s : State) :
    (rebindSlots id s).fts = s.fts := by simp [rebindSlots, Channel.all]

@[simp] theorem rebindSlots_bpl (id : Nat) (s : State) :
    (rebindSlots id s).bpl = s.bpl := by simp [rebindSlots, Channel.all]

@[simp] theorem rebindSlots_wdc (id : Nat) (s : State) :
    (rebindSlots id s).wdc = s.wdc := by simp [rebindSlots, Channel.all]

@[simp] theorem rebindSlots_ptb (id : Nat) (s : State) :
    (rebindSlots id s).ptb = s.ptb := by simp [rebindSlots, Channel.all]

@[simp] theorem rebindSlots_fmo (id : Nat) (s : State) :
    (rebindSlots id s).fmo = s.fmo := by simp [rebindSlots, Channel.all]

@[simp] theorem rebindSlots_lnk (id : Nat) (s : State) :
    (rebindSlots id s).lnk = s.lnk := by simp [rebindSlots, Channel.all]

@[simp] theorem rebindSlots_cpr (id : Nat) (s : State) :
    (rebindSlots id s).cpr = s.cpr := by simp [rebindSlots, Channel.all]

@[simp] theorem rebindSlots_free (id : Nat) (s : State) :
    (rebindSlots id s).free = s.free := by simp [rebindSlots, Channel.all]

@[simp] theorem rebindSlots_pending (id : Nat) (s : State) :
    (rebindSlots id s).pending = s.pending := by simp [rebindSlots, Channel.all]

@[simp] theorem rebindSlots_ptr_enabled (id : Nat) (s : State) :
    (rebindSlots id s).ptr.enabled = s.ptr.enabled := by simp [rebindSlots, Channel.all]

@[simp] theorem rebindSlots_ptr_records (id : Nat) (s : State) :
    (rebindSlots id s).ptr.records = s.ptr.records := by simp [rebindSlots, Channel.all]

/-- Every slot of a tool ID rebound (R129). -/
@[simp] theorem rebindSlots_slot (id : Nat) (s : State) (d : Channel) :
    (rebindSlots id s).slot d = if (s.slot d).toolId = some id
      then { s.slot d with bound := boundOf s.ptb (some id) } else s.slot d := by
  cases d <;> simp [rebindSlots, Channel.all]

@[simp] theorem lineBits_length (b : Byte) : (lineBits b).length = 10 := rfl

theorem flatMap_lineBits_length (l : List Byte) : (l.flatMap lineBits).length = 10 * l.length := by
  induction l with
  | nil => rfl
  | cons b l ih => simp [ih]; omega

/-- Bit `j` of byte `k` of a frame, counted along the line (R173). -/
theorem flatMap_lineBits_getD (l : List Byte) (k j : Nat) (d : Bool) (hk : k < l.length)
    (hj : j < 10) : (l.flatMap lineBits).getD (10 * k + j) d = (lineBits (l.getD k 0)).getD j d := by
  induction l generalizing k with
  | nil => simp at hk
  | cons b l ih =>
    cases k with
    | zero =>
      simp only [List.flatMap_cons, List.getD_eq_getElem?_getD]
      rw [List.getElem?_append_left (by simpa using hj)]
      simp
    | succ k =>
      have h := ih k (by simpa using hk)
      simp only [List.flatMap_cons, List.getD_eq_getElem?_getD] at h ⊢
      rw [List.getElem?_append_right (by simp; omega)]
      simp only [lineBits_length, List.getElem?_cons_succ]
      rw [show 10 * (k + 1) + j - 10 = 10 * k + j by omega]
      exact h

/-- The level of a line while bit `j` of byte `k` of its frame is on it (R173). -/
theorem lineLevel_bit (l : List Byte) (bit left k j d : Nat) (hk : k < l.length) (hj : j < 10)
    (hd : d < bit) (h : left + (10 * k + j) * bit + d = 10 * l.length * bit) :
    lineLevel l bit left = (lineBits (l.getD k 0)).getD j true := by
  have hle : 10 * k + j + 1 ≤ 10 * l.length := by omega
  obtain ⟨n, hn⟩ := Nat.exists_eq_add_of_le hle
  have hleft : left + bit - 1 = (n + 1) * bit + (bit - 1 - d) := by
    have : left + d = (n + 1) * bit := by
      have h2 : 10 * l.length * bit = (10 * k + j) * bit + (n + 1) * bit := by
        rw [hn]; ring
      omega
    omega
  have hahead : (left + bit - 1) / bit = n + 1 := by
    rw [hleft, Nat.mul_comm, Nat.mul_add_div (by omega)]
    rw [Nat.div_eq_of_lt (by omega)]
  simp only [lineLevel, hahead, flatMap_lineBits_length]
  rw [if_neg (by omega), ← flatMap_lineBits_getD l k j true hk hj]
  congr 1; omega

/-- Before the first bit of its frame a line is high (R173). -/
theorem lineLevel_before (l : List Byte) (bit left : Nat) (hb : 0 < bit)
    (h : 10 * l.length * bit < left) : lineLevel l bit left = true := by
  have : 10 * l.length < (left + bit - 1) / bit := by
    rw [Nat.lt_iff_add_one_le, Nat.le_div_iff_mul_le hb]
    have : (10 * l.length + 1) * bit = 10 * l.length * bit + bit := by ring
    omega
  simp only [lineLevel, flatMap_lineBits_length, if_pos this]

end Sys2Proof.Machine
end

