-- ==== Sys2Proof/Laws/Bursts.lean ====
section
/-! SUPPORT. What the burst engines keep and what they do (chapter 1): starting entries, ending bursts
and delivering records. -/

namespace Sys2Proof.Machine

/-! ### One engine, one entry -/

@[simp] theorem State.engine_setEngine (s : State) (sh t : Sheet) (e : Engine) :
    (s.setEngine sh e).engine t = if t = sh then e else s.engine t :=
  sheetGet_sheetSet s.cfe.engine sh t e

@[simp] theorem State.setEngine_pins (s : State) (sh : Sheet) (e : Engine) :
    (s.setEngine sh e).pins = s.pins := rfl

@[simp] theorem State.setEngine_fts (s : State) (sh : Sheet) (e : Engine) :
    (s.setEngine sh e).fts = s.fts := rfl

@[simp] theorem State.setEngine_bpl (s : State) (sh : Sheet) (e : Engine) :
    (s.setEngine sh e).bpl = s.bpl := rfl

@[simp] theorem State.setEngine_ptr (s : State) (sh : Sheet) (e : Engine) :
    (s.setEngine sh e).ptr = s.ptr := rfl

@[simp] theorem State.setEngine_wdc (s : State) (sh : Sheet) (e : Engine) :
    (s.setEngine sh e).wdc = s.wdc := rfl

@[simp] theorem State.setEngine_ptb (s : State) (sh : Sheet) (e : Engine) :
    (s.setEngine sh e).ptb = s.ptb := rfl

@[simp] theorem State.setEngine_rqu (s : State) (sh : Sheet) (e : Engine) :
    (s.setEngine sh e).rqu = s.rqu := rfl

@[simp] theorem State.setEngine_fmo (s : State) (sh : Sheet) (e : Engine) :
    (s.setEngine sh e).fmo = s.fmo := rfl

@[simp] theorem State.setEngine_lnk (s : State) (sh : Sheet) (e : Engine) :
    (s.setEngine sh e).lnk = s.lnk := rfl

@[simp] theorem State.setEngine_cpr (s : State) (sh : Sheet) (e : Engine) :
    (s.setEngine sh e).cpr = s.cpr := rfl

@[simp] theorem State.setEngine_free (s : State) (sh : Sheet) (e : Engine) :
    (s.setEngine sh e).free = s.free := rfl

@[simp] theorem State.setEngine_pending (s : State) (sh : Sheet) (e : Engine) :
    (s.setEngine sh e).pending = s.pending := rfl

@[simp] theorem State.setEngine_cfe_layout (s : State) (sh : Sheet) (e : Engine) :
    (s.setEngine sh e).cfe.layout = s.cfe.layout := rfl

@[simp] theorem State.setEngine_cfe_fixed (s : State) (sh : Sheet) (e : Engine) :
    (s.setEngine sh e).cfe.fixed = s.cfe.fixed := rfl

@[simp] theorem State.setEngine_cfe_panel (s : State) (sh : Sheet) (e : Engine) :
    (s.setEngine sh e).cfe.panel = s.cfe.panel := rfl

@[simp] theorem State.setEngine_cfe_floor (s : State) (sh : Sheet) (e : Engine) :
    (s.setEngine sh e).cfe.floor = s.cfe.floor := rfl

@[simp] theorem State.setEngine_cfe_threshold (s : State) (sh : Sheet) (e : Engine) :
    (s.setEngine sh e).cfe.threshold = s.cfe.threshold := rfl

@[simp] theorem State.setEngine_slot (s : State) (sh : Sheet) (e : Engine) (c : Channel) :
    (s.setEngine sh e).slot c = s.slot c := rfl

@[simp] theorem setRun_pins (run : RunState) (s : State) (sh : Sheet) :
    (setRun run s sh).pins = s.pins := rfl

@[simp] theorem setRun_cfe (run : RunState) (s : State) (sh : Sheet) :
    (setRun run s sh).cfe = s.cfe := rfl

@[simp] theorem setRun_fts (run : RunState) (s : State) (sh : Sheet) :
    (setRun run s sh).fts = s.fts := rfl

@[simp] theorem setRun_ptr (run : RunState) (s : State) (sh : Sheet) :
    (setRun run s sh).ptr = s.ptr := rfl

@[simp] theorem setRun_wdc (run : RunState) (s : State) (sh : Sheet) :
    (setRun run s sh).wdc = s.wdc := rfl

@[simp] theorem setRun_ptb (run : RunState) (s : State) (sh : Sheet) :
    (setRun run s sh).ptb = s.ptb := rfl

@[simp] theorem setRun_rqu (run : RunState) (s : State) (sh : Sheet) :
    (setRun run s sh).rqu = s.rqu := rfl

@[simp] theorem setRun_fmo (run : RunState) (s : State) (sh : Sheet) :
    (setRun run s sh).fmo = s.fmo := rfl

@[simp] theorem setRun_lnk (run : RunState) (s : State) (sh : Sheet) :
    (setRun run s sh).lnk = s.lnk := rfl

@[simp] theorem setRun_cpr (run : RunState) (s : State) (sh : Sheet) :
    (setRun run s sh).cpr = s.cpr := rfl

@[simp] theorem setRun_free (run : RunState) (s : State) (sh : Sheet) :
    (setRun run s sh).free = s.free := rfl

@[simp] theorem setRun_pending (run : RunState) (s : State) (sh : Sheet) :
    (setRun run s sh).pending = s.pending := rfl

@[simp] theorem setRun_bpl_active (run : RunState) (s : State) (sh : Sheet) :
    (setRun run s sh).bpl.active = s.bpl.active := rfl

@[simp] theorem setRun_bpl_staged (run : RunState) (s : State) (sh : Sheet) :
    (setRun run s sh).bpl.staged = s.bpl.staged := rfl

@[simp] theorem setRun_bpl_budget (run : RunState) (s : State) (sh : Sheet) :
    (setRun run s sh).bpl.budget = s.bpl.budget := rfl

@[simp] theorem setRun_bpl_cursor (run : RunState) (s : State) (sh : Sheet) :
    (setRun run s sh).bpl.cursor = s.bpl.cursor := rfl

@[simp] theorem setRun_bpl_rotation (run : RunState) (s : State) (sh : Sheet) :
    (setRun run s sh).bpl.rotation = s.bpl.rotation := rfl

@[simp] theorem setRun_engine (run : RunState) (s : State) (sh t : Sheet) :
    (setRun run s sh).engine t = s.engine t := rfl

/-- A run state is set at the entry the sheet's engine is at (R41). -/
theorem setRun_plan (run : RunState) (s : State) (sh t : Sheet) (k : Nat) :
    (sheetGet (setRun run s sh).bpl.plan t)[k]?
      = if t = sh ∧ k = (s.engine sh).pos
        then ((sheetGet s.bpl.plan t)[k]?).map fun e => { e with run := run }
        else (sheetGet s.bpl.plan t)[k]? := by
  unfold setRun
  simp only [State.setBpl_bpl, sheetGet_sheetSet]
  by_cases h : t = sh
  · subst h
    simp only [if_pos, true_and, List.getElem?_modify]
    by_cases h : (s.engine t).pos = k
    · simp [h]
    · simp [h, Ne.symm h]
  · simp [h]

/-- The number of entries stays. -/
@[simp] theorem setRun_plan_length (run : RunState) (s : State) (sh t : Sheet) :
    (sheetGet (setRun run s sh).bpl.plan t).length = (sheetGet s.bpl.plan t).length := by
  unfold setRun
  simp only [State.setBpl_bpl, sheetGet_sheetSet]
  split <;> simp_all

/-- Run states move, and no burst of a plan does (R41). -/
@[simp] theorem setRun_bursts (run : RunState) (s : State) (sh t : Sheet) :
    (sheetGet (setRun run s sh).bpl.plan t).map (·.burst)
      = (sheetGet s.bpl.plan t).map (·.burst) := by
  have h : ∀ (l : List PlanEntry) (k : Nat),
      (l.modify k fun e => { e with run := run }).map (·.burst) = l.map (·.burst) := by
    intro l k
    apply List.ext_getElem?
    intro i; rw [List.getElem?_map, List.getElem?_map, List.getElem?_modify]
    split <;> cases l[i]? <;> rfl
  cases sh <;> cases t <;> first | rfl | exact h _ _

@[simp] theorem setEngineState_pins (st : EngineState) (u : Bool) (s : State) (sh : Sheet) :
    (setEngineState st u s sh).pins = s.pins := rfl

@[simp] theorem setEngineState_fts (st : EngineState) (u : Bool) (s : State) (sh : Sheet) :
    (setEngineState st u s sh).fts = s.fts := rfl

@[simp] theorem setEngineState_bpl (st : EngineState) (u : Bool) (s : State) (sh : Sheet) :
    (setEngineState st u s sh).bpl = s.bpl := rfl

@[simp] theorem setEngineState_ptr (st : EngineState) (u : Bool) (s : State) (sh : Sheet) :
    (setEngineState st u s sh).ptr = s.ptr := rfl

@[simp] theorem setEngineState_wdc (st : EngineState) (u : Bool) (s : State) (sh : Sheet) :
    (setEngineState st u s sh).wdc = s.wdc := rfl

@[simp] theorem setEngineState_ptb (st : EngineState) (u : Bool) (s : State) (sh : Sheet) :
    (setEngineState st u s sh).ptb = s.ptb := rfl

@[simp] theorem setEngineState_rqu (st : EngineState) (u : Bool) (s : State) (sh : Sheet) :
    (setEngineState st u s sh).rqu = s.rqu := rfl

@[simp] theorem setEngineState_fmo (st : EngineState) (u : Bool) (s : State) (sh : Sheet) :
    (setEngineState st u s sh).fmo = s.fmo := rfl

@[simp] theorem setEngineState_lnk (st : EngineState) (u : Bool) (s : State) (sh : Sheet) :
    (setEngineState st u s sh).lnk = s.lnk := rfl

@[simp] theorem setEngineState_cpr (st : EngineState) (u : Bool) (s : State) (sh : Sheet) :
    (setEngineState st u s sh).cpr = s.cpr := rfl

@[simp] theorem setEngineState_free (st : EngineState) (u : Bool) (s : State) (sh : Sheet) :
    (setEngineState st u s sh).free = s.free := rfl

@[simp] theorem setEngineState_pending (st : EngineState) (u : Bool) (s : State) (sh : Sheet) :
    (setEngineState st u s sh).pending = s.pending := rfl

@[simp] theorem setEngineState_cfe_layout (st : EngineState) (u : Bool) (s : State) (sh : Sheet) :
    (setEngineState st u s sh).cfe.layout = s.cfe.layout := rfl

@[simp] theorem setEngineState_cfe_fixed (st : EngineState) (u : Bool) (s : State) (sh : Sheet) :
    (setEngineState st u s sh).cfe.fixed = s.cfe.fixed := rfl

@[simp] theorem setEngineState_cfe_panel (st : EngineState) (u : Bool) (s : State) (sh : Sheet) :
    (setEngineState st u s sh).cfe.panel = s.cfe.panel := rfl

@[simp] theorem setEngineState_cfe_floor (st : EngineState) (u : Bool) (s : State) (sh : Sheet) :
    (setEngineState st u s sh).cfe.floor = s.cfe.floor := rfl

@[simp] theorem setEngineState_cfe_threshold (st : EngineState) (u : Bool) (s : State) (sh : Sheet) :
    (setEngineState st u s sh).cfe.threshold = s.cfe.threshold := rfl

/-- An engine enters a state with its ALIGN times at their beginning; its position stays. -/
@[simp] theorem setEngineState_engine (st : EngineState) (u : Bool) (s : State) (sh t : Sheet) :
    (setEngineState st u s sh).engine t = if t = sh
      then { s.engine sh with st := st, wait := 0, since := none, unsynced := u }
      else s.engine t := State.engine_setEngine s sh t _

/-- The listening of a burst is placed by the lock state and the setting (R8, R34). -/
theorem placeListening_engine (s : State) (sh t : Sheet) :
    (placeListening s sh).engine t = if t = sh
      then { s.engine sh with
        st := if s.fts.lock = .locked && s.bpl.active.align then .align else .listen
        wait := 0
        since := none
        unsynced := !(s.fts.lock = .locked && s.bpl.active.align) }
      else s.engine t := by
  unfold placeListening
  split
  · rename_i h; simp [h]
  · rename_i h; simp [h]

@[simp] theorem placeListening_pins (s : State) (sh : Sheet) :
    (placeListening s sh).pins = s.pins := by unfold placeListening; split <;> rfl

@[simp] theorem placeListening_fts (s : State) (sh : Sheet) :
    (placeListening s sh).fts = s.fts := by unfold placeListening; split <;> rfl

@[simp] theorem placeListening_bpl (s : State) (sh : Sheet) :
    (placeListening s sh).bpl = s.bpl := by unfold placeListening; split <;> rfl

@[simp] theorem placeListening_ptr (s : State) (sh : Sheet) :
    (placeListening s sh).ptr = s.ptr := by unfold placeListening; split <;> rfl

@[simp] theorem placeListening_wdc (s : State) (sh : Sheet) :
    (placeListening s sh).wdc = s.wdc := by unfold placeListening; split <;> rfl

@[simp] theorem placeListening_ptb (s : State) (sh : Sheet) :
    (placeListening s sh).ptb = s.ptb := by unfold placeListening; split <;> rfl

@[simp] theorem placeListening_rqu (s : State) (sh : Sheet) :
    (placeListening s sh).rqu = s.rqu := by unfold placeListening; split <;> rfl

@[simp] theorem placeListening_fmo (s : State) (sh : Sheet) :
    (placeListening s sh).fmo = s.fmo := by unfold placeListening; split <;> rfl

@[simp] theorem placeListening_lnk (s : State) (sh : Sheet) :
    (placeListening s sh).lnk = s.lnk := by unfold placeListening; split <;> rfl

@[simp] theorem placeListening_cpr (s : State) (sh : Sheet) :
    (placeListening s sh).cpr = s.cpr := by unfold placeListening; split <;> rfl

@[simp] theorem placeListening_free (s : State) (sh : Sheet) :
    (placeListening s sh).free = s.free := by unfold placeListening; split <;> rfl

@[simp] theorem placeListening_pending (s : State) (sh : Sheet) :
    (placeListening s sh).pending = s.pending := by unfold placeListening; split <;> rfl

@[simp] theorem placeListening_cfe_layout (s : State) (sh : Sheet) :
    (placeListening s sh).cfe.layout = s.cfe.layout := by unfold placeListening; split <;> rfl

@[simp] theorem placeListening_cfe_fixed (s : State) (sh : Sheet) :
    (placeListening s sh).cfe.fixed = s.cfe.fixed := by unfold placeListening; split <;> rfl

@[simp] theorem placeListening_cfe_panel (s : State) (sh : Sheet) :
    (placeListening s sh).cfe.panel = s.cfe.panel := by unfold placeListening; split <;> rfl

@[simp] theorem placeListening_cfe_floor (s : State) (sh : Sheet) :
    (placeListening s sh).cfe.floor = s.cfe.floor := by unfold placeListening; split <;> rfl

@[simp] theorem placeListening_cfe_threshold (s : State) (sh : Sheet) :
    (placeListening s sh).cfe.threshold = s.cfe.threshold := by unfold placeListening; split <;> rfl

@[simp] theorem enterExcite_pins (s : State) (sh : Sheet) :
    (enterExcite s sh).pins = s.pins := rfl

@[simp] theorem enterExcite_fts (s : State) (sh : Sheet) :
    (enterExcite s sh).fts = s.fts := rfl

@[simp] theorem enterExcite_ptr (s : State) (sh : Sheet) :
    (enterExcite s sh).ptr = s.ptr := rfl

@[simp] theorem enterExcite_wdc (s : State) (sh : Sheet) :
    (enterExcite s sh).wdc = s.wdc := rfl

@[simp] theorem enterExcite_ptb (s : State) (sh : Sheet) :
    (enterExcite s sh).ptb = s.ptb := rfl

@[simp] theorem enterExcite_rqu (s : State) (sh : Sheet) :
    (enterExcite s sh).rqu = s.rqu := rfl

@[simp] theorem enterExcite_fmo (s : State) (sh : Sheet) :
    (enterExcite s sh).fmo = s.fmo := rfl

@[simp] theorem enterExcite_lnk (s : State) (sh : Sheet) :
    (enterExcite s sh).lnk = s.lnk := rfl

@[simp] theorem enterExcite_cpr (s : State) (sh : Sheet) :
    (enterExcite s sh).cpr = s.cpr := rfl

@[simp] theorem enterExcite_free (s : State) (sh : Sheet) :
    (enterExcite s sh).free = s.free := rfl

@[simp] theorem enterExcite_pending (s : State) (sh : Sheet) :
    (enterExcite s sh).pending = s.pending := rfl

@[simp] theorem enterExcite_cfe_layout (s : State) (sh : Sheet) :
    (enterExcite s sh).cfe.layout = s.cfe.layout := rfl

@[simp] theorem enterExcite_cfe_fixed (s : State) (sh : Sheet) :
    (enterExcite s sh).cfe.fixed = s.cfe.fixed := rfl

@[simp] theorem enterExcite_cfe_panel (s : State) (sh : Sheet) :
    (enterExcite s sh).cfe.panel = s.cfe.panel := rfl

@[simp] theorem enterExcite_cfe_floor (s : State) (sh : Sheet) :
    (enterExcite s sh).cfe.floor = s.cfe.floor := rfl

@[simp] theorem enterExcite_cfe_threshold (s : State) (sh : Sheet) :
    (enterExcite s sh).cfe.threshold = s.cfe.threshold := rfl

@[simp] theorem enterExcite_bpl_active (s : State) (sh : Sheet) :
    (enterExcite s sh).bpl.active = s.bpl.active := rfl

@[simp] theorem enterExcite_bpl_staged (s : State) (sh : Sheet) :
    (enterExcite s sh).bpl.staged = s.bpl.staged := rfl

@[simp] theorem enterExcite_bpl_budget (s : State) (sh : Sheet) :
    (enterExcite s sh).bpl.budget = s.bpl.budget := rfl

@[simp] theorem enterExcite_bpl_cursor (s : State) (sh : Sheet) :
    (enterExcite s sh).bpl.cursor = s.bpl.cursor := rfl

@[simp] theorem enterExcite_bpl_rotation (s : State) (sh : Sheet) :
    (enterExcite s sh).bpl.rotation = s.bpl.rotation := rfl

@[simp] theorem enterExcite_plan_length (s : State) (sh t : Sheet) :
    (sheetGet (enterExcite s sh).bpl.plan t).length = (sheetGet s.bpl.plan t).length :=
  setRun_plan_length _ s sh t

@[simp] theorem enterExcite_bursts (s : State) (sh t : Sheet) :
    (sheetGet (enterExcite s sh).bpl.plan t).map (·.burst)
      = (sheetGet s.bpl.plan t).map (·.burst) := setRun_bursts _ s sh t

@[simp] theorem enterExcite_pos (s : State) (sh t : Sheet) :
    ((enterExcite s sh).engine t).pos = (s.engine t).pos := by
  unfold enterExcite; simp; split <;> simp_all

@[simp] theorem beginEntry_pins (s : State) (sh : Sheet) :
    (beginEntry s sh).pins = s.pins := by
  unfold beginEntry
  split
  · simp
  · simp
  · split
    · split <;> simp [bothSheets]
    · simp

@[simp] theorem beginEntry_fts (s : State) (sh : Sheet) :
    (beginEntry s sh).fts = s.fts := by
  unfold beginEntry
  split
  · simp
  · simp
  · split
    · split <;> simp [bothSheets]
    · simp

@[simp] theorem beginEntry_ptr (s : State) (sh : Sheet) :
    (beginEntry s sh).ptr = s.ptr := by
  unfold beginEntry
  split
  · simp
  · simp
  · split
    · split <;> simp [bothSheets]
    · simp

@[simp] theorem beginEntry_wdc (s : State) (sh : Sheet) :
    (beginEntry s sh).wdc = s.wdc := by
  unfold beginEntry
  split
  · simp
  · simp
  · split
    · split <;> simp [bothSheets]
    · simp

@[simp] theorem beginEntry_ptb (s : State) (sh : Sheet) :
    (beginEntry s sh).ptb = s.ptb := by
  unfold beginEntry
  split
  · simp
  · simp
  · split
    · split <;> simp [bothSheets]
    · simp

@[simp] theorem beginEntry_rqu (s : State) (sh : Sheet) :
    (beginEntry s sh).rqu = s.rqu := by
  unfold beginEntry
  split
  · simp
  · simp
  · split
    · split <;> simp [bothSheets]
    · simp

@[simp] theorem beginEntry_fmo (s : State) (sh : Sheet) :
    (beginEntry s sh).fmo = s.fmo := by
  unfold beginEntry
  split
  · simp
  · simp
  · split
    · split <;> simp [bothSheets]
    · simp

@[simp] theorem beginEntry_lnk (s : State) (sh : Sheet) :
    (beginEntry s sh).lnk = s.lnk := by
  unfold beginEntry
  split
  · simp
  · simp
  · split
    · split <;> simp [bothSheets]
    · simp

@[simp] theorem beginEntry_cpr (s : State) (sh : Sheet) :
    (beginEntry s sh).cpr = s.cpr := by
  unfold beginEntry
  split
  · simp
  · simp
  · split
    · split <;> simp [bothSheets]
    · simp

@[simp] theorem beginEntry_free (s : State) (sh : Sheet) :
    (beginEntry s sh).free = s.free := by
  unfold beginEntry
  split
  · simp
  · simp
  · split
    · split <;> simp [bothSheets]
    · simp

@[simp] theorem beginEntry_pending (s : State) (sh : Sheet) :
    (beginEntry s sh).pending = s.pending := by
  unfold beginEntry
  split
  · simp
  · simp
  · split
    · split <;> simp [bothSheets]
    · simp

@[simp] theorem beginEntry_cfe_layout (s : State) (sh : Sheet) :
    (beginEntry s sh).cfe.layout = s.cfe.layout := by
  unfold beginEntry
  split
  · simp
  · simp
  · split
    · split <;> simp [bothSheets]
    · simp

@[simp] theorem beginEntry_cfe_fixed (s : State) (sh : Sheet) :
    (beginEntry s sh).cfe.fixed = s.cfe.fixed := by
  unfold beginEntry
  split
  · simp
  · simp
  · split
    · split <;> simp [bothSheets]
    · simp

@[simp] theorem beginEntry_cfe_panel (s : State) (sh : Sheet) :
    (beginEntry s sh).cfe.panel = s.cfe.panel := by
  unfold beginEntry
  split
  · simp
  · simp
  · split
    · split <;> simp [bothSheets]
    · simp

@[simp] theorem beginEntry_cfe_floor (s : State) (sh : Sheet) :
    (beginEntry s sh).cfe.floor = s.cfe.floor := by
  unfold beginEntry
  split
  · simp
  · simp
  · split
    · split <;> simp [bothSheets]
    · simp

@[simp] theorem beginEntry_cfe_threshold (s : State) (sh : Sheet) :
    (beginEntry s sh).cfe.threshold = s.cfe.threshold := by
  unfold beginEntry
  split
  · simp
  · simp
  · split
    · split <;> simp [bothSheets]
    · simp

@[simp] theorem beginEntry_bpl_active (s : State) (sh : Sheet) :
    (beginEntry s sh).bpl.active = s.bpl.active := by
  unfold beginEntry
  split
  · simp
  · simp
  · split
    · split <;> simp [bothSheets]
    · simp

@[simp] theorem beginEntry_bpl_staged (s : State) (sh : Sheet) :
    (beginEntry s sh).bpl.staged = s.bpl.staged := by
  unfold beginEntry
  split
  · simp
  · simp
  · split
    · split <;> simp [bothSheets]
    · simp

@[simp] theorem beginEntry_bpl_budget (s : State) (sh : Sheet) :
    (beginEntry s sh).bpl.budget = s.bpl.budget := by
  unfold beginEntry
  split
  · simp
  · simp
  · split
    · split <;> simp [bothSheets]
    · simp

@[simp] theorem beginEntry_bpl_cursor (s : State) (sh : Sheet) :
    (beginEntry s sh).bpl.cursor = s.bpl.cursor := by
  unfold beginEntry
  split
  · simp
  · simp
  · split
    · split <;> simp [bothSheets]
    · simp

@[simp] theorem beginEntry_bpl_rotation (s : State) (sh : Sheet) :
    (beginEntry s sh).bpl.rotation = s.bpl.rotation := by
  unfold beginEntry
  split
  · simp
  · simp
  · split
    · split <;> simp [bothSheets]
    · simp

/-- Starting an entry moves no position. -/
@[simp] theorem beginEntry_pos (s : State) (sh t : Sheet) :
    ((beginEntry s sh).engine t).pos = (s.engine t).pos := by
  unfold beginEntry
  split
  · simp; split <;> simp_all
  · simp [placeListening_engine]; split <;> simp_all
  · split
    · split
      · simp [bothSheets]
      · simp; split <;> simp_all
    · simp

@[simp] theorem beginEntry_plan_length (s : State) (sh t : Sheet) :
    (sheetGet (beginEntry s sh).bpl.plan t).length = (sheetGet s.bpl.plan t).length := by
  unfold beginEntry
  split
  · simp
  · simp
  · split
    · split <;> simp [bothSheets]
    · simp

@[simp] theorem beginEntry_bursts (s : State) (sh t : Sheet) :
    (sheetGet (beginEntry s sh).bpl.plan t).map (·.burst)
      = (sheetGet s.bpl.plan t).map (·.burst) := by
  unfold beginEntry
  split
  · simp
  · simp
  · split
    · split <;> simp [bothSheets]
    · simp

@[simp] theorem stepPast_engine (s : State) (sh t : Sheet) :
    (stepPast s sh).engine t
      = if t = sh then { idleEngine with pos := (s.engine sh).pos + 1 } else s.engine t :=
  State.engine_setEngine s sh t _

@[simp] theorem stepPast_pins (s : State) (sh : Sheet) :
    (stepPast s sh).pins = s.pins := rfl

@[simp] theorem stepPast_fts (s : State) (sh : Sheet) :
    (stepPast s sh).fts = s.fts := rfl

@[simp] theorem stepPast_bpl (s : State) (sh : Sheet) :
    (stepPast s sh).bpl = s.bpl := rfl

@[simp] theorem stepPast_ptr (s : State) (sh : Sheet) :
    (stepPast s sh).ptr = s.ptr := rfl

@[simp] theorem stepPast_wdc (s : State) (sh : Sheet) :
    (stepPast s sh).wdc = s.wdc := rfl

@[simp] theorem stepPast_ptb (s : State) (sh : Sheet) :
    (stepPast s sh).ptb = s.ptb := rfl

@[simp] theorem stepPast_rqu (s : State) (sh : Sheet) :
    (stepPast s sh).rqu = s.rqu := rfl

@[simp] theorem stepPast_fmo (s : State) (sh : Sheet) :
    (stepPast s sh).fmo = s.fmo := rfl

@[simp] theorem stepPast_lnk (s : State) (sh : Sheet) :
    (stepPast s sh).lnk = s.lnk := rfl

@[simp] theorem stepPast_cpr (s : State) (sh : Sheet) :
    (stepPast s sh).cpr = s.cpr := rfl

@[simp] theorem stepPast_free (s : State) (sh : Sheet) :
    (stepPast s sh).free = s.free := rfl

@[simp] theorem stepPast_pending (s : State) (sh : Sheet) :
    (stepPast s sh).pending = s.pending := rfl

@[simp] theorem stepPast_cfe_layout (s : State) (sh : Sheet) :
    (stepPast s sh).cfe.layout = s.cfe.layout := rfl

@[simp] theorem stepPast_cfe_fixed (s : State) (sh : Sheet) :
    (stepPast s sh).cfe.fixed = s.cfe.fixed := rfl

@[simp] theorem stepPast_cfe_panel (s : State) (sh : Sheet) :
    (stepPast s sh).cfe.panel = s.cfe.panel := rfl

@[simp] theorem stepPast_cfe_floor (s : State) (sh : Sheet) :
    (stepPast s sh).cfe.floor = s.cfe.floor := rfl

@[simp] theorem stepPast_cfe_threshold (s : State) (sh : Sheet) :
    (stepPast s sh).cfe.threshold = s.cfe.threshold := rfl

/-- What is kept by each step of a fold over sheets is kept by the fold. -/
theorem foldl_keeps {α β : Type} (g : State → α) (step : State → β → State)
    (h : ∀ s b, g (step s b) = g s) (l : List β) (s : State) : g (l.foldl step s) = g s := by
  induction l generalizing s with
  | nil => rfl
  | cons b l ih => simp [ih, h]

@[simp] theorem foldl_beginEntry_pins (l : List Sheet) (s : State) :
    (l.foldl beginEntry s).pins = s.pins := foldl_keeps (fun s => s.pins) _ (fun s sh => beginEntry_pins s sh) l s

@[simp] theorem foldl_beginEntry_fts (l : List Sheet) (s : State) :
    (l.foldl beginEntry s).fts = s.fts := foldl_keeps (fun s => s.fts) _ (fun s sh => beginEntry_fts s sh) l s

@[simp] theorem foldl_beginEntry_ptr (l : List Sheet) (s : State) :
    (l.foldl beginEntry s).ptr = s.ptr := foldl_keeps (fun s => s.ptr) _ (fun s sh => beginEntry_ptr s sh) l s

@[simp] theorem foldl_beginEntry_wdc (l : List Sheet) (s : State) :
    (l.foldl beginEntry s).wdc = s.wdc := foldl_keeps (fun s => s.wdc) _ (fun s sh => beginEntry_wdc s sh) l s

@[simp] theorem foldl_beginEntry_ptb (l : List Sheet) (s : State) :
    (l.foldl beginEntry s).ptb = s.ptb := foldl_keeps (fun s => s.ptb) _ (fun s sh => beginEntry_ptb s sh) l s

@[simp] theorem foldl_beginEntry_rqu (l : List Sheet) (s : State) :
    (l.foldl beginEntry s).rqu = s.rqu := foldl_keeps (fun s => s.rqu) _ (fun s sh => beginEntry_rqu s sh) l s

@[simp] theorem foldl_beginEntry_fmo (l : List Sheet) (s : State) :
    (l.foldl beginEntry s).fmo = s.fmo := foldl_keeps (fun s => s.fmo) _ (fun s sh => beginEntry_fmo s sh) l s

@[simp] theorem foldl_beginEntry_lnk (l : List Sheet) (s : State) :
    (l.foldl beginEntry s).lnk = s.lnk := foldl_keeps (fun s => s.lnk) _ (fun s sh => beginEntry_lnk s sh) l s

@[simp] theorem foldl_beginEntry_cpr (l : List Sheet) (s : State) :
    (l.foldl beginEntry s).cpr = s.cpr := foldl_keeps (fun s => s.cpr) _ (fun s sh => beginEntry_cpr s sh) l s

@[simp] theorem foldl_beginEntry_free (l : List Sheet) (s : State) :
    (l.foldl beginEntry s).free = s.free := foldl_keeps (fun s => s.free) _ (fun s sh => beginEntry_free s sh) l s

@[simp] theorem foldl_beginEntry_pending (l : List Sheet) (s : State) :
    (l.foldl beginEntry s).pending = s.pending := foldl_keeps (fun s => s.pending) _ (fun s sh => beginEntry_pending s sh) l s

@[simp] theorem foldl_beginEntry_cfe_layout (l : List Sheet) (s : State) :
    (l.foldl beginEntry s).cfe.layout = s.cfe.layout := foldl_keeps (fun s => s.cfe.layout) _ (fun s sh => beginEntry_cfe_layout s sh) l s

@[simp] theorem foldl_beginEntry_cfe_fixed (l : List Sheet) (s : State) :
    (l.foldl beginEntry s).cfe.fixed = s.cfe.fixed := foldl_keeps (fun s => s.cfe.fixed) _ (fun s sh => beginEntry_cfe_fixed s sh) l s

@[simp] theorem foldl_beginEntry_cfe_panel (l : List Sheet) (s : State) :
    (l.foldl beginEntry s).cfe.panel = s.cfe.panel := foldl_keeps (fun s => s.cfe.panel) _ (fun s sh => beginEntry_cfe_panel s sh) l s

@[simp] theorem foldl_beginEntry_cfe_floor (l : List Sheet) (s : State) :
    (l.foldl beginEntry s).cfe.floor = s.cfe.floor := foldl_keeps (fun s => s.cfe.floor) _ (fun s sh => beginEntry_cfe_floor s sh) l s

@[simp] theorem foldl_beginEntry_cfe_threshold (l : List Sheet) (s : State) :
    (l.foldl beginEntry s).cfe.threshold = s.cfe.threshold := foldl_keeps (fun s => s.cfe.threshold) _ (fun s sh => beginEntry_cfe_threshold s sh) l s

@[simp] theorem foldl_beginEntry_bpl_active (l : List Sheet) (s : State) :
    (l.foldl beginEntry s).bpl.active = s.bpl.active := foldl_keeps (fun s => s.bpl.active) _ (fun s sh => beginEntry_bpl_active s sh) l s

@[simp] theorem foldl_beginEntry_bpl_staged (l : List Sheet) (s : State) :
    (l.foldl beginEntry s).bpl.staged = s.bpl.staged := foldl_keeps (fun s => s.bpl.staged) _ (fun s sh => beginEntry_bpl_staged s sh) l s

@[simp] theorem foldl_beginEntry_bpl_budget (l : List Sheet) (s : State) :
    (l.foldl beginEntry s).bpl.budget = s.bpl.budget := foldl_keeps (fun s => s.bpl.budget) _ (fun s sh => beginEntry_bpl_budget s sh) l s

@[simp] theorem foldl_beginEntry_bpl_cursor (l : List Sheet) (s : State) :
    (l.foldl beginEntry s).bpl.cursor = s.bpl.cursor := foldl_keeps (fun s => s.bpl.cursor) _ (fun s sh => beginEntry_bpl_cursor s sh) l s

@[simp] theorem foldl_beginEntry_bpl_rotation (l : List Sheet) (s : State) :
    (l.foldl beginEntry s).bpl.rotation = s.bpl.rotation := foldl_keeps (fun s => s.bpl.rotation) _ (fun s sh => beginEntry_bpl_rotation s sh) l s

@[simp] theorem foldl_stepPast_pins (l : List Sheet) (s : State) :
    (l.foldl stepPast s).pins = s.pins := foldl_keeps (fun s => s.pins) _ (fun s sh => stepPast_pins s sh) l s

@[simp] theorem foldl_stepPast_fts (l : List Sheet) (s : State) :
    (l.foldl stepPast s).fts = s.fts := foldl_keeps (fun s => s.fts) _ (fun s sh => stepPast_fts s sh) l s

@[simp] theorem foldl_stepPast_bpl (l : List Sheet) (s : State) :
    (l.foldl stepPast s).bpl = s.bpl := foldl_keeps (fun s => s.bpl) _ (fun s sh => stepPast_bpl s sh) l s

@[simp] theorem foldl_stepPast_ptr (l : List Sheet) (s : State) :
    (l.foldl stepPast s).ptr = s.ptr := foldl_keeps (fun s => s.ptr) _ (fun s sh => stepPast_ptr s sh) l s

@[simp] theorem foldl_stepPast_wdc (l : List Sheet) (s : State) :
    (l.foldl stepPast s).wdc = s.wdc := foldl_keeps (fun s => s.wdc) _ (fun s sh => stepPast_wdc s sh) l s

@[simp] theorem foldl_stepPast_ptb (l : List Sheet) (s : State) :
    (l.foldl stepPast s).ptb = s.ptb := foldl_keeps (fun s => s.ptb) _ (fun s sh => stepPast_ptb s sh) l s

@[simp] theorem foldl_stepPast_rqu (l : List Sheet) (s : State) :
    (l.foldl stepPast s).rqu = s.rqu := foldl_keeps (fun s => s.rqu) _ (fun s sh => stepPast_rqu s sh) l s

@[simp] theorem foldl_stepPast_fmo (l : List Sheet) (s : State) :
    (l.foldl stepPast s).fmo = s.fmo := foldl_keeps (fun s => s.fmo) _ (fun s sh => stepPast_fmo s sh) l s

@[simp] theorem foldl_stepPast_lnk (l : List Sheet) (s : State) :
    (l.foldl stepPast s).lnk = s.lnk := foldl_keeps (fun s => s.lnk) _ (fun s sh => stepPast_lnk s sh) l s

@[simp] theorem foldl_stepPast_cpr (l : List Sheet) (s : State) :
    (l.foldl stepPast s).cpr = s.cpr := foldl_keeps (fun s => s.cpr) _ (fun s sh => stepPast_cpr s sh) l s

@[simp] theorem foldl_stepPast_free (l : List Sheet) (s : State) :
    (l.foldl stepPast s).free = s.free := foldl_keeps (fun s => s.free) _ (fun s sh => stepPast_free s sh) l s

@[simp] theorem foldl_stepPast_pending (l : List Sheet) (s : State) :
    (l.foldl stepPast s).pending = s.pending := foldl_keeps (fun s => s.pending) _ (fun s sh => stepPast_pending s sh) l s

@[simp] theorem foldl_stepPast_cfe_layout (l : List Sheet) (s : State) :
    (l.foldl stepPast s).cfe.layout = s.cfe.layout := foldl_keeps (fun s => s.cfe.layout) _ (fun s sh => stepPast_cfe_layout s sh) l s

@[simp] theorem foldl_stepPast_cfe_fixed (l : List Sheet) (s : State) :
    (l.foldl stepPast s).cfe.fixed = s.cfe.fixed := foldl_keeps (fun s => s.cfe.fixed) _ (fun s sh => stepPast_cfe_fixed s sh) l s

@[simp] theorem foldl_stepPast_cfe_panel (l : List Sheet) (s : State) :
    (l.foldl stepPast s).cfe.panel = s.cfe.panel := foldl_keeps (fun s => s.cfe.panel) _ (fun s sh => stepPast_cfe_panel s sh) l s

@[simp] theorem foldl_stepPast_cfe_floor (l : List Sheet) (s : State) :
    (l.foldl stepPast s).cfe.floor = s.cfe.floor := foldl_keeps (fun s => s.cfe.floor) _ (fun s sh => stepPast_cfe_floor s sh) l s

@[simp] theorem foldl_stepPast_cfe_threshold (l : List Sheet) (s : State) :
    (l.foldl stepPast s).cfe.threshold = s.cfe.threshold := foldl_keeps (fun s => s.cfe.threshold) _ (fun s sh => stepPast_cfe_threshold s sh) l s

@[simp] theorem foldl_setRun_pins (run : RunState) (l : List Sheet) (s : State) :
    (l.foldl (setRun run) s).pins = s.pins := foldl_keeps (fun s => s.pins) _ (fun s sh => setRun_pins run s sh) l s

@[simp] theorem foldl_setRun_cfe (run : RunState) (l : List Sheet) (s : State) :
    (l.foldl (setRun run) s).cfe = s.cfe := foldl_keeps (fun s => s.cfe) _ (fun s sh => setRun_cfe run s sh) l s

@[simp] theorem foldl_setRun_fts (run : RunState) (l : List Sheet) (s : State) :
    (l.foldl (setRun run) s).fts = s.fts := foldl_keeps (fun s => s.fts) _ (fun s sh => setRun_fts run s sh) l s

@[simp] theorem foldl_setRun_ptr (run : RunState) (l : List Sheet) (s : State) :
    (l.foldl (setRun run) s).ptr = s.ptr := foldl_keeps (fun s => s.ptr) _ (fun s sh => setRun_ptr run s sh) l s

@[simp] theorem foldl_setRun_wdc (run : RunState) (l : List Sheet) (s : State) :
    (l.foldl (setRun run) s).wdc = s.wdc := foldl_keeps (fun s => s.wdc) _ (fun s sh => setRun_wdc run s sh) l s

@[simp] theorem foldl_setRun_ptb (run : RunState) (l : List Sheet) (s : State) :
    (l.foldl (setRun run) s).ptb = s.ptb := foldl_keeps (fun s => s.ptb) _ (fun s sh => setRun_ptb run s sh) l s

@[simp] theorem foldl_setRun_rqu (run : RunState) (l : List Sheet) (s : State) :
    (l.foldl (setRun run) s).rqu = s.rqu := foldl_keeps (fun s => s.rqu) _ (fun s sh => setRun_rqu run s sh) l s

@[simp] theorem foldl_setRun_fmo (run : RunState) (l : List Sheet) (s : State) :
    (l.foldl (setRun run) s).fmo = s.fmo := foldl_keeps (fun s => s.fmo) _ (fun s sh => setRun_fmo run s sh) l s

@[simp] theorem foldl_setRun_lnk (run : RunState) (l : List Sheet) (s : State) :
    (l.foldl (setRun run) s).lnk = s.lnk := foldl_keeps (fun s => s.lnk) _ (fun s sh => setRun_lnk run s sh) l s

@[simp] theorem foldl_setRun_cpr (run : RunState) (l : List Sheet) (s : State) :
    (l.foldl (setRun run) s).cpr = s.cpr := foldl_keeps (fun s => s.cpr) _ (fun s sh => setRun_cpr run s sh) l s

@[simp] theorem foldl_setRun_free (run : RunState) (l : List Sheet) (s : State) :
    (l.foldl (setRun run) s).free = s.free := foldl_keeps (fun s => s.free) _ (fun s sh => setRun_free run s sh) l s

@[simp] theorem foldl_setRun_pending (run : RunState) (l : List Sheet) (s : State) :
    (l.foldl (setRun run) s).pending = s.pending := foldl_keeps (fun s => s.pending) _ (fun s sh => setRun_pending run s sh) l s

@[simp] theorem foldl_setRun_bpl_active (run : RunState) (l : List Sheet) (s : State) :
    (l.foldl (setRun run) s).bpl.active = s.bpl.active := foldl_keeps (fun s => s.bpl.active) _ (fun s sh => setRun_bpl_active run s sh) l s

@[simp] theorem foldl_setRun_bpl_staged (run : RunState) (l : List Sheet) (s : State) :
    (l.foldl (setRun run) s).bpl.staged = s.bpl.staged := foldl_keeps (fun s => s.bpl.staged) _ (fun s sh => setRun_bpl_staged run s sh) l s

@[simp] theorem foldl_setRun_bpl_budget (run : RunState) (l : List Sheet) (s : State) :
    (l.foldl (setRun run) s).bpl.budget = s.bpl.budget := foldl_keeps (fun s => s.bpl.budget) _ (fun s sh => setRun_bpl_budget run s sh) l s

@[simp] theorem foldl_setRun_bpl_cursor (run : RunState) (l : List Sheet) (s : State) :
    (l.foldl (setRun run) s).bpl.cursor = s.bpl.cursor := foldl_keeps (fun s => s.bpl.cursor) _ (fun s sh => setRun_bpl_cursor run s sh) l s

@[simp] theorem foldl_setRun_bpl_rotation (run : RunState) (l : List Sheet) (s : State) :
    (l.foldl (setRun run) s).bpl.rotation = s.bpl.rotation := foldl_keeps (fun s => s.bpl.rotation) _ (fun s sh => setRun_bpl_rotation run s sh) l s

@[simp] theorem foldl_beginEntry_plan_length (l : List Sheet) (s : State) (t : Sheet) :
    (sheetGet (l.foldl beginEntry s).bpl.plan t).length = (sheetGet s.bpl.plan t).length :=
  foldl_keeps (fun s => (sheetGet s.bpl.plan t).length) _
    (fun s sh => beginEntry_plan_length s sh t) l s

@[simp] theorem foldl_beginEntry_bursts (l : List Sheet) (s : State) (t : Sheet) :
    (sheetGet (l.foldl beginEntry s).bpl.plan t).map (·.burst)
      = (sheetGet s.bpl.plan t).map (·.burst) :=
  foldl_keeps (fun s => (sheetGet s.bpl.plan t).map (·.burst)) _
    (fun s sh => beginEntry_bursts s sh t) l s

@[simp] theorem foldl_setRun_plan_length (run : RunState) (l : List Sheet) (s : State)
    (t : Sheet) :
    (sheetGet (l.foldl (setRun run) s).bpl.plan t).length = (sheetGet s.bpl.plan t).length :=
  foldl_keeps (fun s => (sheetGet s.bpl.plan t).length) _
    (fun s sh => setRun_plan_length run s sh t) l s

/-! ### Trips and injections -/

@[simp] theorem startNext_pins (l : List Sheet) (s : State) :
    (startNext l s).pins = s.pins := by simp [startNext]

@[simp] theorem startNext_fts (l : List Sheet) (s : State) :
    (startNext l s).fts = s.fts := by simp [startNext]

@[simp] theorem startNext_ptr (l : List Sheet) (s : State) :
    (startNext l s).ptr = s.ptr := by simp [startNext]

@[simp] theorem startNext_wdc (l : List Sheet) (s : State) :
    (startNext l s).wdc = s.wdc := by simp [startNext]

@[simp] theorem startNext_ptb (l : List Sheet) (s : State) :
    (startNext l s).ptb = s.ptb := by simp [startNext]

@[simp] theorem startNext_rqu (l : List Sheet) (s : State) :
    (startNext l s).rqu = s.rqu := by simp [startNext]

@[simp] theorem startNext_fmo (l : List Sheet) (s : State) :
    (startNext l s).fmo = s.fmo := by simp [startNext]

@[simp] theorem startNext_lnk (l : List Sheet) (s : State) :
    (startNext l s).lnk = s.lnk := by simp [startNext]

@[simp] theorem startNext_cpr (l : List Sheet) (s : State) :
    (startNext l s).cpr = s.cpr := by simp [startNext]

@[simp] theorem startNext_free (l : List Sheet) (s : State) :
    (startNext l s).free = s.free := by simp [startNext]

@[simp] theorem startNext_pending (l : List Sheet) (s : State) :
    (startNext l s).pending = s.pending := by simp [startNext]

@[simp] theorem startNext_cfe_layout (l : List Sheet) (s : State) :
    (startNext l s).cfe.layout = s.cfe.layout := by simp [startNext]

@[simp] theorem startNext_cfe_fixed (l : List Sheet) (s : State) :
    (startNext l s).cfe.fixed = s.cfe.fixed := by simp [startNext]

@[simp] theorem startNext_cfe_panel (l : List Sheet) (s : State) :
    (startNext l s).cfe.panel = s.cfe.panel := by simp [startNext]

@[simp] theorem startNext_cfe_floor (l : List Sheet) (s : State) :
    (startNext l s).cfe.floor = s.cfe.floor := by simp [startNext]

@[simp] theorem startNext_cfe_threshold (l : List Sheet) (s : State) :
    (startNext l s).cfe.threshold = s.cfe.threshold := by simp [startNext]

@[simp] theorem startNext_bpl_active (l : List Sheet) (s : State) :
    (startNext l s).bpl.active = s.bpl.active := by simp [startNext]

@[simp] theorem startNext_bpl_staged (l : List Sheet) (s : State) :
    (startNext l s).bpl.staged = s.bpl.staged := by simp [startNext]

@[simp] theorem startNext_bpl_budget (l : List Sheet) (s : State) :
    (startNext l s).bpl.budget = s.bpl.budget := by simp [startNext]

@[simp] theorem startNext_bpl_cursor (l : List Sheet) (s : State) :
    (startNext l s).bpl.cursor = s.bpl.cursor := by simp [startNext]

@[simp] theorem startNext_bpl_rotation (l : List Sheet) (s : State) :
    (startNext l s).bpl.rotation = s.bpl.rotation := by simp [startNext]

@[simp] theorem goOn_pins (l : List Sheet) (s : State) :
    (goOn l s).pins = s.pins := by unfold goOn; split <;> simp

@[simp] theorem goOn_fts (l : List Sheet) (s : State) :
    (goOn l s).fts = s.fts := by unfold goOn; split <;> simp

@[simp] theorem goOn_ptr (l : List Sheet) (s : State) :
    (goOn l s).ptr = s.ptr := by unfold goOn; split <;> simp

@[simp] theorem goOn_wdc (l : List Sheet) (s : State) :
    (goOn l s).wdc = s.wdc := by unfold goOn; split <;> simp

@[simp] theorem goOn_ptb (l : List Sheet) (s : State) :
    (goOn l s).ptb = s.ptb := by unfold goOn; split <;> simp

@[simp] theorem goOn_rqu (l : List Sheet) (s : State) :
    (goOn l s).rqu = s.rqu := by unfold goOn; split <;> simp

@[simp] theorem goOn_fmo (l : List Sheet) (s : State) :
    (goOn l s).fmo = s.fmo := by unfold goOn; split <;> simp

@[simp] theorem goOn_lnk (l : List Sheet) (s : State) :
    (goOn l s).lnk = s.lnk := by unfold goOn; split <;> simp

@[simp] theorem goOn_cpr (l : List Sheet) (s : State) :
    (goOn l s).cpr = s.cpr := by unfold goOn; split <;> simp

@[simp] theorem goOn_free (l : List Sheet) (s : State) :
    (goOn l s).free = s.free := by unfold goOn; split <;> simp

@[simp] theorem goOn_pending (l : List Sheet) (s : State) :
    (goOn l s).pending = s.pending := by unfold goOn; split <;> simp

@[simp] theorem goOn_cfe_layout (l : List Sheet) (s : State) :
    (goOn l s).cfe.layout = s.cfe.layout := by unfold goOn; split <;> simp

@[simp] theorem goOn_cfe_fixed (l : List Sheet) (s : State) :
    (goOn l s).cfe.fixed = s.cfe.fixed := by unfold goOn; split <;> simp

@[simp] theorem goOn_cfe_panel (l : List Sheet) (s : State) :
    (goOn l s).cfe.panel = s.cfe.panel := by unfold goOn; split <;> simp

@[simp] theorem goOn_cfe_floor (l : List Sheet) (s : State) :
    (goOn l s).cfe.floor = s.cfe.floor := by unfold goOn; split <;> simp

@[simp] theorem goOn_cfe_threshold (l : List Sheet) (s : State) :
    (goOn l s).cfe.threshold = s.cfe.threshold := by unfold goOn; split <;> simp

@[simp] theorem goOn_bpl_active (l : List Sheet) (s : State) :
    (goOn l s).bpl.active = s.bpl.active := by unfold goOn; split <;> simp

@[simp] theorem goOn_bpl_staged (l : List Sheet) (s : State) :
    (goOn l s).bpl.staged = s.bpl.staged := by unfold goOn; split <;> simp

@[simp] theorem goOn_bpl_budget (l : List Sheet) (s : State) :
    (goOn l s).bpl.budget = s.bpl.budget := by unfold goOn; split <;> simp

@[simp] theorem goOn_bpl_cursor (l : List Sheet) (s : State) :
    (goOn l s).bpl.cursor = s.bpl.cursor := by unfold goOn; split <;> simp

@[simp] theorem goOn_bpl_rotation (l : List Sheet) (s : State) :
    (goOn l s).bpl.rotation = s.bpl.rotation := by unfold goOn; split <;> simp

@[simp] theorem tripBurst_pins (l : List Sheet) (s : State) :
    (tripBurst l s).pins = s.pins := by simp [tripBurst]

@[simp] theorem tripBurst_wdc (l : List Sheet) (s : State) :
    (tripBurst l s).wdc = s.wdc := by simp [tripBurst]

@[simp] theorem tripBurst_ptb (l : List Sheet) (s : State) :
    (tripBurst l s).ptb = s.ptb := by simp [tripBurst]

@[simp] theorem tripBurst_lnk (l : List Sheet) (s : State) :
    (tripBurst l s).lnk = s.lnk := by simp [tripBurst]

@[simp] theorem tripBurst_cpr (l : List Sheet) (s : State) :
    (tripBurst l s).cpr = s.cpr := by simp [tripBurst]

@[simp] theorem tripBurst_free (l : List Sheet) (s : State) :
    (tripBurst l s).free = s.free := by simp [tripBurst]

@[simp] theorem tripBurst_pending (l : List Sheet) (s : State) :
    (tripBurst l s).pending = s.pending := by simp [tripBurst]

@[simp] theorem tripBurst_cfe_layout (l : List Sheet) (s : State) :
    (tripBurst l s).cfe.layout = s.cfe.layout := by simp [tripBurst]

@[simp] theorem tripBurst_cfe_fixed (l : List Sheet) (s : State) :
    (tripBurst l s).cfe.fixed = s.cfe.fixed := by simp [tripBurst]

@[simp] theorem tripBurst_cfe_panel (l : List Sheet) (s : State) :
    (tripBurst l s).cfe.panel = s.cfe.panel := by simp [tripBurst]

@[simp] theorem tripBurst_cfe_floor (l : List Sheet) (s : State) :
    (tripBurst l s).cfe.floor = s.cfe.floor := by simp [tripBurst]

@[simp] theorem tripBurst_cfe_threshold (l : List Sheet) (s : State) :
    (tripBurst l s).cfe.threshold = s.cfe.threshold := by simp [tripBurst]

@[simp] theorem tripBurst_bpl_active (l : List Sheet) (s : State) :
    (tripBurst l s).bpl.active = s.bpl.active := by simp [tripBurst]

@[simp] theorem tripBurst_bpl_staged (l : List Sheet) (s : State) :
    (tripBurst l s).bpl.staged = s.bpl.staged := by simp [tripBurst]

@[simp] theorem tripBurst_bpl_cursor (l : List Sheet) (s : State) :
    (tripBurst l s).bpl.cursor = s.bpl.cursor := by simp [tripBurst]

@[simp] theorem tripBurst_bpl_rotation (l : List Sheet) (s : State) :
    (tripBurst l s).bpl.rotation = s.bpl.rotation := by simp [tripBurst]

@[simp] theorem tripBurst_ptr_enabled (l : List Sheet) (s : State) :
    (tripBurst l s).ptr.enabled = s.ptr.enabled := by simp [tripBurst]

@[simp] theorem tripBurst_fmo_snapshot (l : List Sheet) (s : State) :
    (tripBurst l s).fmo.snapshot = s.fmo.snapshot := by simp [tripBurst]

@[simp] theorem tripBurst_fmo_armed (l : List Sheet) (s : State) :
    (tripBurst l s).fmo.armed = s.fmo.armed := by simp [tripBurst]

/-- A trip raises DRIVER_TRIP, once (R19). -/
@[simp] theorem tripBurst_recs (l : List Sheet) (s : State) : (tripBurst l s).fmo.recs
    = s.fmo.recs.set .driverTrip
      { s.fmo.recs.get .driverTrip with status := true, marker := true } := by
  simp [tripBurst]

@[simp] theorem disarmTrip_pins (s : State) :
    (disarmTrip s).pins = s.pins := rfl

@[simp] theorem disarmTrip_cfe (s : State) :
    (disarmTrip s).cfe = s.cfe := rfl

@[simp] theorem disarmTrip_fts (s : State) :
    (disarmTrip s).fts = s.fts := rfl

@[simp] theorem disarmTrip_bpl (s : State) :
    (disarmTrip s).bpl = s.bpl := rfl

@[simp] theorem disarmTrip_ptr (s : State) :
    (disarmTrip s).ptr = s.ptr := rfl

@[simp] theorem disarmTrip_wdc (s : State) :
    (disarmTrip s).wdc = s.wdc := rfl

@[simp] theorem disarmTrip_ptb (s : State) :
    (disarmTrip s).ptb = s.ptb := rfl

@[simp] theorem disarmTrip_rqu (s : State) :
    (disarmTrip s).rqu = s.rqu := rfl

@[simp] theorem disarmTrip_lnk (s : State) :
    (disarmTrip s).lnk = s.lnk := rfl

@[simp] theorem disarmTrip_cpr (s : State) :
    (disarmTrip s).cpr = s.cpr := rfl

@[simp] theorem disarmTrip_free (s : State) :
    (disarmTrip s).free = s.free := rfl

@[simp] theorem disarmTrip_pending (s : State) :
    (disarmTrip s).pending = s.pending := rfl

@[simp] theorem disarmTrip_fmo_recs (s : State) :
    (disarmTrip s).fmo.recs = s.fmo.recs := rfl

@[simp] theorem disarmTrip_fmo_pointer (s : State) :
    (disarmTrip s).fmo.pointer = s.fmo.pointer := rfl

@[simp] theorem disarmTrip_fmo_snapshot (s : State) :
    (disarmTrip s).fmo.snapshot = s.fmo.snapshot := rfl

@[simp] theorem injectTrip_pins (l : List Sheet) (s : State) :
    (injectTrip l s).pins = s.pins := by
  unfold injectTrip; split <;> simp [State.drawFree]

@[simp] theorem injectTrip_wdc (l : List Sheet) (s : State) :
    (injectTrip l s).wdc = s.wdc := by
  unfold injectTrip; split <;> simp [State.drawFree]

@[simp] theorem injectTrip_ptb (l : List Sheet) (s : State) :
    (injectTrip l s).ptb = s.ptb := by
  unfold injectTrip; split <;> simp [State.drawFree]

@[simp] theorem injectTrip_lnk (l : List Sheet) (s : State) :
    (injectTrip l s).lnk = s.lnk := by
  unfold injectTrip; split <;> simp [State.drawFree]

@[simp] theorem injectTrip_cpr (l : List Sheet) (s : State) :
    (injectTrip l s).cpr = s.cpr := by
  unfold injectTrip; split <;> simp [State.drawFree]

@[simp] theorem injectTrip_pending (l : List Sheet) (s : State) :
    (injectTrip l s).pending = s.pending := by
  unfold injectTrip; split <;> simp [State.drawFree]

@[simp] theorem injectTrip_cfe_layout (l : List Sheet) (s : State) :
    (injectTrip l s).cfe.layout = s.cfe.layout := by
  unfold injectTrip; split <;> simp [State.drawFree]

@[simp] theorem injectTrip_cfe_fixed (l : List Sheet) (s : State) :
    (injectTrip l s).cfe.fixed = s.cfe.fixed := by
  unfold injectTrip; split <;> simp [State.drawFree]

@[simp] theorem injectTrip_cfe_panel (l : List Sheet) (s : State) :
    (injectTrip l s).cfe.panel = s.cfe.panel := by
  unfold injectTrip; split <;> simp [State.drawFree]

@[simp] theorem injectTrip_cfe_floor (l : List Sheet) (s : State) :
    (injectTrip l s).cfe.floor = s.cfe.floor := by
  unfold injectTrip; split <;> simp [State.drawFree]

@[simp] theorem injectTrip_cfe_threshold (l : List Sheet) (s : State) :
    (injectTrip l s).cfe.threshold = s.cfe.threshold := by
  unfold injectTrip; split <;> simp [State.drawFree]

@[simp] theorem injectTrip_bpl_active (l : List Sheet) (s : State) :
    (injectTrip l s).bpl.active = s.bpl.active := by
  unfold injectTrip; split <;> simp [State.drawFree]

@[simp] theorem injectTrip_bpl_staged (l : List Sheet) (s : State) :
    (injectTrip l s).bpl.staged = s.bpl.staged := by
  unfold injectTrip; split <;> simp [State.drawFree]

@[simp] theorem injectTrip_bpl_cursor (l : List Sheet) (s : State) :
    (injectTrip l s).bpl.cursor = s.bpl.cursor := by
  unfold injectTrip; split <;> simp [State.drawFree]

@[simp] theorem injectTrip_bpl_rotation (l : List Sheet) (s : State) :
    (injectTrip l s).bpl.rotation = s.bpl.rotation := by
  unfold injectTrip; split <;> simp [State.drawFree]

@[simp] theorem injectTrip_ptr_enabled (l : List Sheet) (s : State) :
    (injectTrip l s).ptr.enabled = s.ptr.enabled := by
  unfold injectTrip; split <;> simp [State.drawFree]

@[simp] theorem injectTrip_fmo_snapshot (l : List Sheet) (s : State) :
    (injectTrip l s).fmo.snapshot = s.fmo.snapshot := by
  unfold injectTrip; split <;> simp [State.drawFree]

/-- With no DRIVER_TRIP armed, nothing trips (R20). -/
theorem injectTrip_of_unarmed (l : List Sheet) (s : State) (h : s.fmo.armed.driverTrip = false) :
    injectTrip l s = s := by simp [injectTrip, h]

/-- Where no burst entered EXCITE, nothing trips (R20). -/
@[simp] theorem injectTrip_nil (s : State) : injectTrip [] s = s := by simp [injectTrip]

@[simp] theorem startBursts_pins (l : List Sheet) (s : State) :
    (startBursts l s).pins = s.pins := by simp [startBursts]

@[simp] theorem startBursts_wdc (l : List Sheet) (s : State) :
    (startBursts l s).wdc = s.wdc := by simp [startBursts]

@[simp] theorem startBursts_ptb (l : List Sheet) (s : State) :
    (startBursts l s).ptb = s.ptb := by simp [startBursts]

@[simp] theorem startBursts_lnk (l : List Sheet) (s : State) :
    (startBursts l s).lnk = s.lnk := by simp [startBursts]

@[simp] theorem startBursts_cpr (l : List Sheet) (s : State) :
    (startBursts l s).cpr = s.cpr := by simp [startBursts]

@[simp] theorem startBursts_pending (l : List Sheet) (s : State) :
    (startBursts l s).pending = s.pending := by simp [startBursts]

@[simp] theorem startBursts_cfe_layout (l : List Sheet) (s : State) :
    (startBursts l s).cfe.layout = s.cfe.layout := by simp [startBursts]

@[simp] theorem startBursts_cfe_fixed (l : List Sheet) (s : State) :
    (startBursts l s).cfe.fixed = s.cfe.fixed := by simp [startBursts]

@[simp] theorem startBursts_cfe_panel (l : List Sheet) (s : State) :
    (startBursts l s).cfe.panel = s.cfe.panel := by simp [startBursts]

@[simp] theorem startBursts_cfe_floor (l : List Sheet) (s : State) :
    (startBursts l s).cfe.floor = s.cfe.floor := by simp [startBursts]

@[simp] theorem startBursts_cfe_threshold (l : List Sheet) (s : State) :
    (startBursts l s).cfe.threshold = s.cfe.threshold := by simp [startBursts]

@[simp] theorem startBursts_bpl_active (l : List Sheet) (s : State) :
    (startBursts l s).bpl.active = s.bpl.active := by simp [startBursts]

@[simp] theorem startBursts_bpl_staged (l : List Sheet) (s : State) :
    (startBursts l s).bpl.staged = s.bpl.staged := by simp [startBursts]

@[simp] theorem startBursts_bpl_cursor (l : List Sheet) (s : State) :
    (startBursts l s).bpl.cursor = s.bpl.cursor := by simp [startBursts]

@[simp] theorem startBursts_bpl_rotation (l : List Sheet) (s : State) :
    (startBursts l s).bpl.rotation = s.bpl.rotation := by simp [startBursts]

@[simp] theorem startBursts_ptr_enabled (l : List Sheet) (s : State) :
    (startBursts l s).ptr.enabled = s.ptr.enabled := by simp [startBursts]

@[simp] theorem startBursts_fmo_snapshot (l : List Sheet) (s : State) :
    (startBursts l s).fmo.snapshot = s.fmo.snapshot := by simp [startBursts]

/-- With no DRIVER_TRIP armed, starting bursts changes engines and run states alone. -/
theorem startBursts_of_unarmed (l : List Sheet) (s : State)
    (h : s.fmo.armed.driverTrip = false) : startBursts l s = startNext l s := by
  simp [startBursts, injectTrip_of_unarmed _ _ (show ((l.foldl beginEntry
    (l.foldl stepPast s))).fmo.armed.driverTrip = false by simpa using h), startNext]

@[simp] theorem startFirst_pins (s : State) :
    (startFirst s).pins = s.pins := by simp [startFirst]

@[simp] theorem startFirst_wdc (s : State) :
    (startFirst s).wdc = s.wdc := by simp [startFirst]

@[simp] theorem startFirst_ptb (s : State) :
    (startFirst s).ptb = s.ptb := by simp [startFirst]

@[simp] theorem startFirst_lnk (s : State) :
    (startFirst s).lnk = s.lnk := by simp [startFirst]

@[simp] theorem startFirst_cpr (s : State) :
    (startFirst s).cpr = s.cpr := by simp [startFirst]

@[simp] theorem startFirst_pending (s : State) :
    (startFirst s).pending = s.pending := by simp [startFirst]

@[simp] theorem startFirst_cfe_layout (s : State) :
    (startFirst s).cfe.layout = s.cfe.layout := by simp [startFirst]

@[simp] theorem startFirst_cfe_fixed (s : State) :
    (startFirst s).cfe.fixed = s.cfe.fixed := by simp [startFirst]

@[simp] theorem startFirst_cfe_panel (s : State) :
    (startFirst s).cfe.panel = s.cfe.panel := by simp [startFirst]

@[simp] theorem startFirst_cfe_floor (s : State) :
    (startFirst s).cfe.floor = s.cfe.floor := by simp [startFirst]

@[simp] theorem startFirst_cfe_threshold (s : State) :
    (startFirst s).cfe.threshold = s.cfe.threshold := by simp [startFirst]

@[simp] theorem startFirst_bpl_active (s : State) :
    (startFirst s).bpl.active = s.bpl.active := by simp [startFirst]

@[simp] theorem startFirst_bpl_staged (s : State) :
    (startFirst s).bpl.staged = s.bpl.staged := by simp [startFirst]

@[simp] theorem startFirst_bpl_cursor (s : State) :
    (startFirst s).bpl.cursor = s.bpl.cursor := by simp [startFirst]

@[simp] theorem startFirst_bpl_rotation (s : State) :
    (startFirst s).bpl.rotation = s.bpl.rotation := by simp [startFirst]

@[simp] theorem startFirst_ptr_enabled (s : State) :
    (startFirst s).ptr.enabled = s.ptr.enabled := by simp [startFirst]

@[simp] theorem startFirst_fmo_snapshot (s : State) :
    (startFirst s).fmo.snapshot = s.fmo.snapshot := by simp [startFirst]

/-! ### Results -/

@[simp] theorem updateFloor_pins (sh : Sheet) (amp : Nat) (s : State) :
    (updateFloor sh amp s).pins = s.pins := rfl

@[simp] theorem updateFloor_fts (sh : Sheet) (amp : Nat) (s : State) :
    (updateFloor sh amp s).fts = s.fts := rfl

@[simp] theorem updateFloor_bpl (sh : Sheet) (amp : Nat) (s : State) :
    (updateFloor sh amp s).bpl = s.bpl := rfl

@[simp] theorem updateFloor_ptr (sh : Sheet) (amp : Nat) (s : State) :
    (updateFloor sh amp s).ptr = s.ptr := rfl

@[simp] theorem updateFloor_wdc (sh : Sheet) (amp : Nat) (s : State) :
    (updateFloor sh amp s).wdc = s.wdc := rfl

@[simp] theorem updateFloor_ptb (sh : Sheet) (amp : Nat) (s : State) :
    (updateFloor sh amp s).ptb = s.ptb := rfl

@[simp] theorem updateFloor_rqu (sh : Sheet) (amp : Nat) (s : State) :
    (updateFloor sh amp s).rqu = s.rqu := rfl

@[simp] theorem updateFloor_fmo (sh : Sheet) (amp : Nat) (s : State) :
    (updateFloor sh amp s).fmo = s.fmo := rfl

@[simp] theorem updateFloor_lnk (sh : Sheet) (amp : Nat) (s : State) :
    (updateFloor sh amp s).lnk = s.lnk := rfl

@[simp] theorem updateFloor_cpr (sh : Sheet) (amp : Nat) (s : State) :
    (updateFloor sh amp s).cpr = s.cpr := rfl

@[simp] theorem updateFloor_free (sh : Sheet) (amp : Nat) (s : State) :
    (updateFloor sh amp s).free = s.free := rfl

@[simp] theorem updateFloor_pending (sh : Sheet) (amp : Nat) (s : State) :
    (updateFloor sh amp s).pending = s.pending := rfl

@[simp] theorem updateFloor_cfe_layout (sh : Sheet) (amp : Nat) (s : State) :
    (updateFloor sh amp s).cfe.layout = s.cfe.layout := rfl

@[simp] theorem updateFloor_cfe_fixed (sh : Sheet) (amp : Nat) (s : State) :
    (updateFloor sh amp s).cfe.fixed = s.cfe.fixed := rfl

@[simp] theorem updateFloor_cfe_panel (sh : Sheet) (amp : Nat) (s : State) :
    (updateFloor sh amp s).cfe.panel = s.cfe.panel := rfl

@[simp] theorem updateFloor_cfe_engine (sh : Sheet) (amp : Nat) (s : State) :
    (updateFloor sh amp s).cfe.engine = s.cfe.engine := rfl

@[simp] theorem updateFloor_floor (sh t : Sheet) (amp : Nat) (s : State) :
    sheetGet (updateFloor sh amp s).cfe.floor t
      = if t = sh then nextFloor (sheetGet s.cfe.floor sh) amp else sheetGet s.cfe.floor t := by
  simp [updateFloor]

@[simp] theorem updateFloor_threshold (sh t : Sheet) (amp : Nat) (s : State) :
    sheetGet (updateFloor sh amp s).cfe.threshold t = if t = sh
      then thresholdOf s.bpl.active.detectMin (nextFloor (sheetGet s.cfe.floor sh) amp)
      else sheetGet s.cfe.threshold t := by
  simp [updateFloor]

@[simp] theorem advanceCursor_pins (sh : Sheet) (c : Channel) (band : Nat) (s : State) :
    (advanceCursor sh c band s).pins = s.pins := by
  unfold advanceCursor; dsimp only; split <;> rfl

@[simp] theorem advanceCursor_cfe (sh : Sheet) (c : Channel) (band : Nat) (s : State) :
    (advanceCursor sh c band s).cfe = s.cfe := by
  unfold advanceCursor; dsimp only; split <;> rfl

@[simp] theorem advanceCursor_fts (sh : Sheet) (c : Channel) (band : Nat) (s : State) :
    (advanceCursor sh c band s).fts = s.fts := by
  unfold advanceCursor; dsimp only; split <;> rfl

@[simp] theorem advanceCursor_ptr (sh : Sheet) (c : Channel) (band : Nat) (s : State) :
    (advanceCursor sh c band s).ptr = s.ptr := by
  unfold advanceCursor; dsimp only; split <;> rfl

@[simp] theorem advanceCursor_wdc (sh : Sheet) (c : Channel) (band : Nat) (s : State) :
    (advanceCursor sh c band s).wdc = s.wdc := by
  unfold advanceCursor; dsimp only; split <;> rfl

@[simp] theorem advanceCursor_ptb (sh : Sheet) (c : Channel) (band : Nat) (s : State) :
    (advanceCursor sh c band s).ptb = s.ptb := by
  unfold advanceCursor; dsimp only; split <;> rfl

@[simp] theorem advanceCursor_rqu (sh : Sheet) (c : Channel) (band : Nat) (s : State) :
    (advanceCursor sh c band s).rqu = s.rqu := by
  unfold advanceCursor; dsimp only; split <;> rfl

@[simp] theorem advanceCursor_fmo (sh : Sheet) (c : Channel) (band : Nat) (s : State) :
    (advanceCursor sh c band s).fmo = s.fmo := by
  unfold advanceCursor; dsimp only; split <;> rfl

@[simp] theorem advanceCursor_lnk (sh : Sheet) (c : Channel) (band : Nat) (s : State) :
    (advanceCursor sh c band s).lnk = s.lnk := by
  unfold advanceCursor; dsimp only; split <;> rfl

@[simp] theorem advanceCursor_cpr (sh : Sheet) (c : Channel) (band : Nat) (s : State) :
    (advanceCursor sh c band s).cpr = s.cpr := by
  unfold advanceCursor; dsimp only; split <;> rfl

@[simp] theorem advanceCursor_free (sh : Sheet) (c : Channel) (band : Nat) (s : State) :
    (advanceCursor sh c band s).free = s.free := by
  unfold advanceCursor; dsimp only; split <;> rfl

@[simp] theorem advanceCursor_pending (sh : Sheet) (c : Channel) (band : Nat) (s : State) :
    (advanceCursor sh c band s).pending = s.pending := by
  unfold advanceCursor; dsimp only; split <;> rfl

@[simp] theorem advanceCursor_bpl_active (sh : Sheet) (c : Channel) (band : Nat) (s : State) :
    (advanceCursor sh c band s).bpl.active = s.bpl.active := by
  unfold advanceCursor; dsimp only; split <;> rfl

@[simp] theorem advanceCursor_bpl_staged (sh : Sheet) (c : Channel) (band : Nat) (s : State) :
    (advanceCursor sh c band s).bpl.staged = s.bpl.staged := by
  unfold advanceCursor; dsimp only; split <;> rfl

@[simp] theorem advanceCursor_bpl_plan (sh : Sheet) (c : Channel) (band : Nat) (s : State) :
    (advanceCursor sh c band s).bpl.plan = s.bpl.plan := by
  unfold advanceCursor; dsimp only; split <;> rfl

@[simp] theorem advanceCursor_bpl_budget (sh : Sheet) (c : Channel) (band : Nat) (s : State) :
    (advanceCursor sh c band s).bpl.budget = s.bpl.budget := by
  unfold advanceCursor; dsimp only; split <;> rfl

@[simp] theorem advanceCursor_bpl_rotation (sh : Sheet) (c : Channel) (band : Nat) (s : State) :
    (advanceCursor sh c band s).bpl.rotation = s.bpl.rotation := by
  unfold advanceCursor; dsimp only; split <;> rfl

/-- A record is delivered to the Pen Tracker, whatever else it does (R10). -/
@[simp] theorem deliver_ptr (r : BurstRecord) (s : State) :
    (deliver r s).ptr = { s.ptr with records := s.ptr.records ++ [r] } := by
  cases r <;> simp [deliver, recordEffect]

@[simp] theorem deliver_pins (r : BurstRecord) (s : State) :
    (deliver r s).pins = s.pins := by
  cases r <;> simp [deliver, recordEffect]

@[simp] theorem deliver_fts (r : BurstRecord) (s : State) :
    (deliver r s).fts = s.fts := by
  cases r <;> simp [deliver, recordEffect]

@[simp] theorem deliver_wdc (r : BurstRecord) (s : State) :
    (deliver r s).wdc = s.wdc := by
  cases r <;> simp [deliver, recordEffect]

@[simp] theorem deliver_ptb (r : BurstRecord) (s : State) :
    (deliver r s).ptb = s.ptb := by
  cases r <;> simp [deliver, recordEffect]

@[simp] theorem deliver_rqu (r : BurstRecord) (s : State) :
    (deliver r s).rqu = s.rqu := by
  cases r <;> simp [deliver, recordEffect]

@[simp] theorem deliver_fmo (r : BurstRecord) (s : State) :
    (deliver r s).fmo = s.fmo := by
  cases r <;> simp [deliver, recordEffect]

@[simp] theorem deliver_lnk (r : BurstRecord) (s : State) :
    (deliver r s).lnk = s.lnk := by
  cases r <;> simp [deliver, recordEffect]

@[simp] theorem deliver_cpr (r : BurstRecord) (s : State) :
    (deliver r s).cpr = s.cpr := by
  cases r <;> simp [deliver, recordEffect]

@[simp] theorem deliver_free (r : BurstRecord) (s : State) :
    (deliver r s).free = s.free := by
  cases r <;> simp [deliver, recordEffect]

@[simp] theorem deliver_pending (r : BurstRecord) (s : State) :
    (deliver r s).pending = s.pending := by
  cases r <;> simp [deliver, recordEffect]

@[simp] theorem deliver_cfe_layout (r : BurstRecord) (s : State) :
    (deliver r s).cfe.layout = s.cfe.layout := by
  cases r <;> simp [deliver, recordEffect]

@[simp] theorem deliver_cfe_fixed (r : BurstRecord) (s : State) :
    (deliver r s).cfe.fixed = s.cfe.fixed := by
  cases r <;> simp [deliver, recordEffect]

@[simp] theorem deliver_cfe_panel (r : BurstRecord) (s : State) :
    (deliver r s).cfe.panel = s.cfe.panel := by
  cases r <;> simp [deliver, recordEffect]

@[simp] theorem deliver_cfe_engine (r : BurstRecord) (s : State) :
    (deliver r s).cfe.engine = s.cfe.engine := by
  cases r <;> simp [deliver, recordEffect]

@[simp] theorem deliver_bpl_active (r : BurstRecord) (s : State) :
    (deliver r s).bpl.active = s.bpl.active := by
  cases r <;> simp [deliver, recordEffect]

@[simp] theorem deliver_bpl_staged (r : BurstRecord) (s : State) :
    (deliver r s).bpl.staged = s.bpl.staged := by
  cases r <;> simp [deliver, recordEffect]

@[simp] theorem deliver_bpl_plan (r : BurstRecord) (s : State) :
    (deliver r s).bpl.plan = s.bpl.plan := by
  cases r <;> simp [deliver, recordEffect]

@[simp] theorem deliver_bpl_budget (r : BurstRecord) (s : State) :
    (deliver r s).bpl.budget = s.bpl.budget := by
  cases r <;> simp [deliver, recordEffect]

@[simp] theorem deliver_bpl_rotation (r : BurstRecord) (s : State) :
    (deliver r s).bpl.rotation = s.bpl.rotation := by
  cases r <;> simp [deliver, recordEffect]

/-- The X coils of a window that belong to one sheet, by their numbers on that sheet (R13, R15). -/
theorem mem_windowCoils (layout : Layout) (p : Panel) (sh : Sheet) (wx k : Nat) :
    k ∈ windowCoils layout p sh wx
      ↔ ∃ i, wx ≤ i ∧ i ≤ wx + 8 ∧ sheetOfCoil layout p i = sh ∧ k = i - p.xBase sh := by
  simp only [windowCoils, List.mem_map, List.mem_filter, List.mem_range, decide_eq_true_eq]
  constructor
  · rintro ⟨_, ⟨⟨a, ha, rfl⟩, hs⟩, rfl⟩; exact ⟨wx + a, by omega, by omega, hs, rfl⟩
  · rintro ⟨i, h1, h2, hs, rfl⟩; exact ⟨i, ⟨⟨i - wx, by omega, by omega⟩, hs⟩, rfl⟩

/-- The X coils of a search burst are those of its band (R16). -/
theorem mem_bandLines (p : Panel) (sh : Sheet) (c : Channel) (layout : Layout) (b k : Nat) :
    k ∈ Burst.xCoils layout p sh (.search c b) ↔ 16 * b ≤ k ∧ k ≤ 16 * b + 15 ∧ k < p.xCount sh := by
  simp only [Burst.xCoils, bandCoils, List.mem_map, List.mem_range]
  constructor
  · rintro ⟨a, h, rfl⟩; omega
  · rintro ⟨h1, h2, h3⟩; exact ⟨k - 16 * b, by omega, by omega⟩

/-- What an excitation drives: the burst's frequency over its X coils on this sheet (R13 to R16). -/
theorem State.driveOn_excite (s : State) (sh : Sheet) (b : Burst) (he : (s.engine sh).st = .excite)
    (hl : sh ∈ s.cfe.layout.sheets) (hb : s.burstAt sh = some b) :
    s.driveOn sh = b.freq.map fun f =>
      ⟨f, xLines s.cfe.layout sh (b.xCoils s.cfe.layout s.cfe.panel sh), returnPin sh⟩ := by
  simp [State.driveOn, State.burstIn, he, hl, hb]

theorem State.driveOn_idle (s : State) (sh : Sheet) (h : (s.engine sh).st ≠ .excite) :
    s.driveOn sh = none := by simp [State.driveOn, State.burstIn, h]

/-- What LISTEN samples: the lines of the burst's X and Y coils on this sheet (R13 to R16). -/
theorem State.samplesOn_listen (s : State) (sh : Sheet) (b : Burst) (he : (s.engine sh).st = .listen)
    (hl : sh ∈ s.cfe.layout.sheets) (hb : s.burstAt sh = some b) :
    s.samplesOn sh = some ⟨b.bands, xLines s.cfe.layout sh (b.xCoils s.cfe.layout s.cfe.panel sh),
      yLines s.cfe.layout sh (b.yCoils s.cfe.panel)⟩ := by
  simp [State.samplesOn, State.burstIn, he, hl, hb]

theorem State.samplesOn_idle (s : State) (sh : Sheet) (h : (s.engine sh).st ≠ .listen) :
    s.samplesOn sh = none := by simp [State.samplesOn, State.burstIn, h]

/-! ### A completed burst's entries (R41, R43) -/

/-- Beginning an entry leaves the entries that the engines are past. -/
theorem beginEntry_past (s : State) (sh t : Sheet) (k : Nat) (h : k < (s.engine t).pos) :
    (sheetGet (beginEntry s sh).bpl.plan t)[k]? = (sheetGet s.bpl.plan t)[k]? := by
  have flight : ∀ (u : State) (x : Sheet), k < (u.engine t).pos →
      (sheetGet (setRun .inFlight u x).bpl.plan t)[k]? = (sheetGet u.bpl.plan t)[k]? := by
    intro u x hu; rw [setRun_plan, if_neg]; rintro ⟨rfl, e⟩; omega
  have excite : ∀ (u : State) (x : Sheet), k < (u.engine t).pos →
      (sheetGet (enterExcite u x).bpl.plan t)[k]? = (sheetGet u.bpl.plan t)[k]? := by
    intro u x hu; unfold enterExcite; rw [setEngineState_bpl]; exact flight u x hu
  unfold beginEntry
  split
  · rw [setEngineState_bpl]
  · rw [placeListening_bpl]; exact flight s sh h
  · split
    · split
      · simp only [bothSheets, List.foldl_cons, List.foldl_nil]
        rw [excite _ _ (by rw [enterExcite_pos]; exact h), excite _ _ h]
      · rw [setEngineState_bpl]
    · exact excite s sh h

theorem foldl_beginEntry_past (l : List Sheet) (s : State) (t : Sheet) (k : Nat)
    (h : k < (s.engine t).pos) :
    (sheetGet (l.foldl beginEntry s).bpl.plan t)[k]? = (sheetGet s.bpl.plan t)[k]? := by
  induction l generalizing s with
  | nil => rfl
  | cons a l ih =>
    rw [List.foldl_cons, ih _ (by rw [beginEntry_pos]; exact h), beginEntry_past _ _ _ _ h]

/-- A completed burst's entry is COMPLETED on each of its sheets, and each engine is one entry on
(R7, R41, R43). -/
theorem completeBurst_entry (sh t : Sheet) (b : Burst) (r : Reading) (s : State)
    (ha : s.fmo.armed.driverTrip = false) (ht : t ∈ s.involved sh) :
    let u := completeBurst sh b r s
    (u.engine t).pos = (s.engine t).pos + 1
    ∧ ∀ e, (sheetGet s.bpl.plan t)[(s.engine t).pos]? = some e →
        (sheetGet u.bpl.plan t)[(s.engine t).pos]? = some { e with run := .completed } := by
  intro u
  obtain ⟨d, hd⟩ : ∃ d, d = deliver (resultRecord s sh b r)
    ((s.involved sh).foldl (setRun .completed) s) := ⟨_, rfl⟩
  have hu : u = (s.involved sh).foldl beginEntry ((s.involved sh).foldl stepPast d) := by
    show completeBurst sh b r s = _
    unfold completeBurst; dsimp only
    rw [← hd, startBursts_of_unarmed _ _ (by rw [hd]; simpa using ha)]; rfl
  have sheets : s.involved sh = [sh] ∨ s.involved sh = bothSheets := by
    unfold State.involved; split
    · exact .inr rfl
    · exact .inl rfl
  have engines : ∀ x, d.engine x = s.engine x := by
    intro x; rw [hd]; unfold State.engine; rw [deliver_cfe_engine, foldl_setRun_cfe]
  have entry : ∀ e, (sheetGet s.bpl.plan t)[(s.engine t).pos]? = some e →
      (sheetGet d.bpl.plan t)[(s.engine t).pos]? = some { e with run := .completed } := by
    intro e he
    rw [hd, deliver_bpl_plan]
    rcases sheets with h | h <;> rw [h] at ht ⊢ <;>
      simp only [bothSheets, List.foldl_cons, List.foldl_nil]
    · simp at ht; subst ht; rw [setRun_plan]; simp [he]
    · cases t <;> simp [setRun_plan, he]
  have past : (((s.involved sh).foldl stepPast d).engine t).pos = (s.engine t).pos + 1 := by
    rcases sheets with h | h <;> rw [h] at ht ⊢ <;>
      simp only [bothSheets, List.foldl_cons, List.foldl_nil]
    · simp at ht; subst ht; simp [engines]
    · cases t <;> simp [engines]
  have pos : ∀ (l : List Sheet) (x : State),
      ((l.foldl beginEntry x).engine t).pos = (x.engine t).pos := fun l x =>
    foldl_keeps (fun s => (s.engine t).pos) _ (fun s sh => beginEntry_pos s sh t) l x
  rw [hu]
  refine ⟨by rw [pos, past], fun e he => ?_⟩
  rw [foldl_beginEntry_past _ _ _ _ (by rw [past]; omega), foldl_stepPast_bpl, entry e he]

end Sys2Proof.Machine
end

