-- ==== Sys2Proof/Laws/Planner.lean ====
section
/-! SUPPORT. What planning and the take-up of staged items keep and what they do (chapter 3). -/

namespace Sys2Proof.Machine

/-! ### Plans -/

@[simp] theorem buildSheet_pins (budget : Nat) (s : State) (sh : Sheet) :
    (buildSheet budget s sh).pins = s.pins := rfl

@[simp] theorem buildSheet_cfe (budget : Nat) (s : State) (sh : Sheet) :
    (buildSheet budget s sh).cfe = s.cfe := rfl

@[simp] theorem buildSheet_fts (budget : Nat) (s : State) (sh : Sheet) :
    (buildSheet budget s sh).fts = s.fts := rfl

@[simp] theorem buildSheet_ptr (budget : Nat) (s : State) (sh : Sheet) :
    (buildSheet budget s sh).ptr = s.ptr := rfl

@[simp] theorem buildSheet_wdc (budget : Nat) (s : State) (sh : Sheet) :
    (buildSheet budget s sh).wdc = s.wdc := rfl

@[simp] theorem buildSheet_ptb (budget : Nat) (s : State) (sh : Sheet) :
    (buildSheet budget s sh).ptb = s.ptb := rfl

@[simp] theorem buildSheet_rqu (budget : Nat) (s : State) (sh : Sheet) :
    (buildSheet budget s sh).rqu = s.rqu := rfl

@[simp] theorem buildSheet_fmo (budget : Nat) (s : State) (sh : Sheet) :
    (buildSheet budget s sh).fmo = s.fmo := rfl

@[simp] theorem buildSheet_lnk (budget : Nat) (s : State) (sh : Sheet) :
    (buildSheet budget s sh).lnk = s.lnk := rfl

@[simp] theorem buildSheet_cpr (budget : Nat) (s : State) (sh : Sheet) :
    (buildSheet budget s sh).cpr = s.cpr := rfl

@[simp] theorem buildSheet_free (budget : Nat) (s : State) (sh : Sheet) :
    (buildSheet budget s sh).free = s.free := rfl

@[simp] theorem buildSheet_pending (budget : Nat) (s : State) (sh : Sheet) :
    (buildSheet budget s sh).pending = s.pending := rfl

@[simp] theorem buildSheet_bpl_active (budget : Nat) (s : State) (sh : Sheet) :
    (buildSheet budget s sh).bpl.active = s.bpl.active := rfl

@[simp] theorem buildSheet_bpl_staged (budget : Nat) (s : State) (sh : Sheet) :
    (buildSheet budget s sh).bpl.staged = s.bpl.staged := rfl

@[simp] theorem buildSheet_bpl_budget (budget : Nat) (s : State) (sh : Sheet) :
    (buildSheet budget s sh).bpl.budget = s.bpl.budget := rfl

@[simp] theorem buildSheet_bpl_cursor (budget : Nat) (s : State) (sh : Sheet) :
    (buildSheet budget s sh).bpl.cursor = s.bpl.cursor := rfl

@[simp] theorem buildPlans_pins (s : State) :
    (buildPlans s).pins = s.pins := by
  unfold buildPlans; cases h : s.cfe.layout <;> simp [h, Layout.sheets]

@[simp] theorem buildPlans_cfe (s : State) :
    (buildPlans s).cfe = s.cfe := by
  unfold buildPlans; cases h : s.cfe.layout <;> simp [h, Layout.sheets]

@[simp] theorem buildPlans_fts (s : State) :
    (buildPlans s).fts = s.fts := by
  unfold buildPlans; cases h : s.cfe.layout <;> simp [h, Layout.sheets]

@[simp] theorem buildPlans_ptr (s : State) :
    (buildPlans s).ptr = s.ptr := by
  unfold buildPlans; cases h : s.cfe.layout <;> simp [h, Layout.sheets]

@[simp] theorem buildPlans_wdc (s : State) :
    (buildPlans s).wdc = s.wdc := by
  unfold buildPlans; cases h : s.cfe.layout <;> simp [h, Layout.sheets]

@[simp] theorem buildPlans_ptb (s : State) :
    (buildPlans s).ptb = s.ptb := by
  unfold buildPlans; cases h : s.cfe.layout <;> simp [h, Layout.sheets]

@[simp] theorem buildPlans_rqu (s : State) :
    (buildPlans s).rqu = s.rqu := by
  unfold buildPlans; cases h : s.cfe.layout <;> simp [h, Layout.sheets]

@[simp] theorem buildPlans_fmo (s : State) :
    (buildPlans s).fmo = s.fmo := by
  unfold buildPlans; cases h : s.cfe.layout <;> simp [h, Layout.sheets]

@[simp] theorem buildPlans_lnk (s : State) :
    (buildPlans s).lnk = s.lnk := by
  unfold buildPlans; cases h : s.cfe.layout <;> simp [h, Layout.sheets]

@[simp] theorem buildPlans_cpr (s : State) :
    (buildPlans s).cpr = s.cpr := by
  unfold buildPlans; cases h : s.cfe.layout <;> simp [h, Layout.sheets]

@[simp] theorem buildPlans_free (s : State) :
    (buildPlans s).free = s.free := by
  unfold buildPlans; cases h : s.cfe.layout <;> simp [h, Layout.sheets]

@[simp] theorem buildPlans_pending (s : State) :
    (buildPlans s).pending = s.pending := by
  unfold buildPlans; cases h : s.cfe.layout <;> simp [h, Layout.sheets]

@[simp] theorem buildPlans_bpl_active (s : State) :
    (buildPlans s).bpl.active = s.bpl.active := by
  unfold buildPlans; cases h : s.cfe.layout <;> simp [h, Layout.sheets]

@[simp] theorem buildPlans_bpl_staged (s : State) :
    (buildPlans s).bpl.staged = s.bpl.staged := by
  unfold buildPlans; cases h : s.cfe.layout <;> simp [h, Layout.sheets]

@[simp] theorem buildPlans_bpl_cursor (s : State) :
    (buildPlans s).bpl.cursor = s.bpl.cursor := by
  unfold buildPlans; cases h : s.cfe.layout <;> simp [h, Layout.sheets]

/-- The plans' budget is that of the active frame period (R40). -/
@[simp] theorem buildPlans_budget (s : State) :
    (buildPlans s).bpl.budget = slotBudget s.fts.period := by
  unfold buildPlans; cases h : s.cfe.layout <;> simp [h, Layout.sheets]

@[simp] theorem buildPlans_slot (s : State) (c : Channel) : (buildPlans s).slot c = s.slot c := by
  simp [State.slot]

/-- Every sheet of the layout has its own plan (R41). -/
theorem buildPlans_plan (s : State) (sh : Sheet) :
    sheetGet (buildPlans s).bpl.plan sh = if sh ∈ s.cfe.layout.sheets
      then (sheetPlan s.cfe.layout s.cfe.panel s.ptr.slots s.bpl.cursor (slotBudget s.fts.period)
        (sheetGet s.bpl.rotation sh) sh).1
      else [] := by
  unfold buildPlans
  cases h : s.cfe.layout <;> cases sh <;>
    simp [h, Layout.sheets, buildSheet, sheetSet, sheetGet, everySheet]

/-- Every sheet of the layout moves its own rotation pointer (R44). -/
theorem buildPlans_rotation (s : State) (sh : Sheet) :
    sheetGet (buildPlans s).bpl.rotation sh = if sh ∈ s.cfe.layout.sheets
      then (sheetPlan s.cfe.layout s.cfe.panel s.ptr.slots s.bpl.cursor (slotBudget s.fts.period)
        (sheetGet s.bpl.rotation sh) sh).2
      else sheetGet s.bpl.rotation sh := by
  unfold buildPlans
  cases h : s.cfe.layout <;> cases sh <;>
    simp [h, Layout.sheets, buildSheet, sheetSet, sheetGet, everySheet]

/-- Every plan begins with its PROBE (R42). -/
theorem sheetPlan_head (layout : Layout) (p : Panel) (slots : PerChannel Slot)
    (cursor : PerChannel (PerSheet Nat)) (budget : Nat) (rotation : Channel) (sh : Sheet) :
    ∃ rest, (sheetPlan layout p slots cursor budget rotation sh).1
      = ⟨.probe, .planned⟩ :: rest := ⟨_, rfl⟩

/-- A window has at most two entries on a sheet (R42). -/
theorem windowEntries_length (layout : Layout) (p : Panel) (sh : Sheet) (c : Channel) (sl : Slot) :
    (windowEntries layout p sh c sl).length ≤ 2 := by
  unfold windowEntries; dsimp only; split <;> simp

/-- At most nine entries of a sheet are fixed (R42). -/
theorem fixedEntries_length (layout : Layout) (p : Panel) (slots : PerChannel Slot) (sh : Sheet) :
    (fixedEntries layout p slots sh).length ≤ 9 := by
  have h := fun c => windowEntries_length layout p sh c (slots.get c)
  have h0 := h .c0
  have h1 := h .c1
  have h2 := h .c2
  have h3 := h .c3
  simp [fixedEntries, Channel.all]
  omega

/-- The search positions are at most those asked for (R44). -/
theorem fillSearch_length (set : PerChannel Bool) (cursor : Channel → Nat) (bands n : Nat)
    (pointer : Channel) (used : PerChannel Nat) :
    (fillSearch set cursor bands n pointer used).1.length ≤ n := by
  induction n generalizing pointer used with
  | zero => simp [fillSearch]
  | succ n ih =>
    unfold fillSearch
    split
    · simp
    · simpa using ih _ _

/-- A plan is no longer than a budget that holds its fixed entries (R41). -/
theorem sheetPlan_length (layout : Layout) (p : Panel) (slots : PerChannel Slot)
    (cursor : PerChannel (PerSheet Nat)) (budget : Nat) (rotation : Channel) (sh : Sheet)
    (h : 9 ≤ budget) :
    (sheetPlan layout p slots cursor budget rotation sh).1.length ≤ budget := by
  have h1 := fixedEntries_length layout p slots sh
  have h2 := fillSearch_length (searchSet slots) (fun c => sheetGet (cursor.get c) sh) (p.bands sh)
    (budget - (fixedEntries layout p slots sh).length) rotation (everyChannel 0)
  simp [sheetPlan]
  omega

/-! ### The take-up of staged items -/

@[simp] theorem recomputeThresholds_pins (s : State) :
    (recomputeThresholds s).pins = s.pins := rfl

@[simp] theorem recomputeThresholds_fts (s : State) :
    (recomputeThresholds s).fts = s.fts := rfl

@[simp] theorem recomputeThresholds_bpl (s : State) :
    (recomputeThresholds s).bpl = s.bpl := rfl

@[simp] theorem recomputeThresholds_ptr (s : State) :
    (recomputeThresholds s).ptr = s.ptr := rfl

@[simp] theorem recomputeThresholds_wdc (s : State) :
    (recomputeThresholds s).wdc = s.wdc := rfl

@[simp] theorem recomputeThresholds_ptb (s : State) :
    (recomputeThresholds s).ptb = s.ptb := rfl

@[simp] theorem recomputeThresholds_rqu (s : State) :
    (recomputeThresholds s).rqu = s.rqu := rfl

@[simp] theorem recomputeThresholds_fmo (s : State) :
    (recomputeThresholds s).fmo = s.fmo := rfl

@[simp] theorem recomputeThresholds_lnk (s : State) :
    (recomputeThresholds s).lnk = s.lnk := rfl

@[simp] theorem recomputeThresholds_cpr (s : State) :
    (recomputeThresholds s).cpr = s.cpr := rfl

@[simp] theorem recomputeThresholds_free (s : State) :
    (recomputeThresholds s).free = s.free := rfl

@[simp] theorem recomputeThresholds_pending (s : State) :
    (recomputeThresholds s).pending = s.pending := rfl

@[simp] theorem recomputeThresholds_cfe_layout (s : State) :
    (recomputeThresholds s).cfe.layout = s.cfe.layout := rfl

@[simp] theorem recomputeThresholds_cfe_fixed (s : State) :
    (recomputeThresholds s).cfe.fixed = s.cfe.fixed := rfl

@[simp] theorem recomputeThresholds_cfe_panel (s : State) :
    (recomputeThresholds s).cfe.panel = s.cfe.panel := rfl

@[simp] theorem recomputeThresholds_cfe_floor (s : State) :
    (recomputeThresholds s).cfe.floor = s.cfe.floor := rfl

@[simp] theorem recomputeThresholds_cfe_engine (s : State) :
    (recomputeThresholds s).cfe.engine = s.cfe.engine := rfl

/-- The thresholds follow the active detect minimum (R17). -/
@[simp] theorem recomputeThresholds_threshold (s : State) (sh : Sheet) :
    sheetGet (recomputeThresholds s).cfe.threshold sh
      = thresholdOf s.bpl.active.detectMin (sheetGet s.cfe.floor sh) := by
  cases sh <;> rfl

@[simp] theorem takeScan_pins (s : State) :
    (takeScan s).pins = s.pins := by unfold takeScan; split <;> simp

@[simp] theorem takeScan_fts (s : State) :
    (takeScan s).fts = s.fts := by unfold takeScan; split <;> simp

@[simp] theorem takeScan_ptr (s : State) :
    (takeScan s).ptr = s.ptr := by unfold takeScan; split <;> simp

@[simp] theorem takeScan_wdc (s : State) :
    (takeScan s).wdc = s.wdc := by unfold takeScan; split <;> simp

@[simp] theorem takeScan_ptb (s : State) :
    (takeScan s).ptb = s.ptb := by unfold takeScan; split <;> simp

@[simp] theorem takeScan_rqu (s : State) :
    (takeScan s).rqu = s.rqu := by unfold takeScan; split <;> simp

@[simp] theorem takeScan_fmo (s : State) :
    (takeScan s).fmo = s.fmo := by unfold takeScan; split <;> simp

@[simp] theorem takeScan_lnk (s : State) :
    (takeScan s).lnk = s.lnk := by unfold takeScan; split <;> simp

@[simp] theorem takeScan_cpr (s : State) :
    (takeScan s).cpr = s.cpr := by unfold takeScan; split <;> simp

@[simp] theorem takeScan_free (s : State) :
    (takeScan s).free = s.free := by unfold takeScan; split <;> simp

@[simp] theorem takeScan_pending (s : State) :
    (takeScan s).pending = s.pending := by unfold takeScan; split <;> simp

@[simp] theorem takeScan_cfe_layout (s : State) :
    (takeScan s).cfe.layout = s.cfe.layout := by unfold takeScan; split <;> simp

@[simp] theorem takeScan_cfe_fixed (s : State) :
    (takeScan s).cfe.fixed = s.cfe.fixed := by unfold takeScan; split <;> simp

@[simp] theorem takeScan_cfe_panel (s : State) :
    (takeScan s).cfe.panel = s.cfe.panel := by unfold takeScan; split <;> simp

@[simp] theorem takeScan_cfe_floor (s : State) :
    (takeScan s).cfe.floor = s.cfe.floor := by unfold takeScan; split <;> simp

@[simp] theorem takeScan_cfe_engine (s : State) :
    (takeScan s).cfe.engine = s.cfe.engine := by unfold takeScan; split <;> simp

@[simp] theorem takeScan_bpl_plan (s : State) :
    (takeScan s).bpl.plan = s.bpl.plan := by unfold takeScan; split <;> simp

@[simp] theorem takeScan_bpl_budget (s : State) :
    (takeScan s).bpl.budget = s.bpl.budget := by unfold takeScan; split <;> simp

@[simp] theorem takeScan_bpl_cursor (s : State) :
    (takeScan s).bpl.cursor = s.bpl.cursor := by unfold takeScan; split <;> simp

@[simp] theorem takeScan_bpl_rotation (s : State) :
    (takeScan s).bpl.rotation = s.bpl.rotation := by unfold takeScan; split <;> simp

/-- The staged scan settings become active, the thresholds following (R17, R51). -/
theorem takeScan_takes (s : State) :
    (takeScan s).bpl.active = s.bpl.staged.scan.getD s.bpl.active
      ∧ (takeScan s).bpl.staged = { s.bpl.staged with scan := none }
      ∧ ∀ sh, sheetGet (takeScan s).cfe.threshold sh = match s.bpl.staged.scan with
        | none => sheetGet s.cfe.threshold sh
        | some r => thresholdOf r.detectMin (sheetGet s.cfe.floor sh) := by
  unfold takeScan
  split
  · rename_i h
    exact ⟨by simp [h], by rw [← h], fun _ => by simp [h]⟩
  · rename_i h
    exact ⟨by simp [h], by simp, fun _ => by simp [h]⟩

@[simp] theorem takeWord_pins (s : State) :
    (takeWord s).pins = s.pins := by unfold takeWord; split <;> rfl

@[simp] theorem takeWord_cfe (s : State) :
    (takeWord s).cfe = s.cfe := by unfold takeWord; split <;> rfl

@[simp] theorem takeWord_fts (s : State) :
    (takeWord s).fts = s.fts := by unfold takeWord; split <;> rfl

@[simp] theorem takeWord_ptr (s : State) :
    (takeWord s).ptr = s.ptr := by unfold takeWord; split <;> rfl

@[simp] theorem takeWord_ptb (s : State) :
    (takeWord s).ptb = s.ptb := by unfold takeWord; split <;> rfl

@[simp] theorem takeWord_rqu (s : State) :
    (takeWord s).rqu = s.rqu := by unfold takeWord; split <;> rfl

@[simp] theorem takeWord_fmo (s : State) :
    (takeWord s).fmo = s.fmo := by unfold takeWord; split <;> rfl

@[simp] theorem takeWord_lnk (s : State) :
    (takeWord s).lnk = s.lnk := by unfold takeWord; split <;> rfl

@[simp] theorem takeWord_cpr (s : State) :
    (takeWord s).cpr = s.cpr := by unfold takeWord; split <;> rfl

@[simp] theorem takeWord_free (s : State) :
    (takeWord s).free = s.free := by unfold takeWord; split <;> rfl

@[simp] theorem takeWord_pending (s : State) :
    (takeWord s).pending = s.pending := by unfold takeWord; split <;> rfl

@[simp] theorem takeWord_bpl_active (s : State) :
    (takeWord s).bpl.active = s.bpl.active := by unfold takeWord; split <;> rfl

@[simp] theorem takeWord_bpl_plan (s : State) :
    (takeWord s).bpl.plan = s.bpl.plan := by unfold takeWord; split <;> rfl

@[simp] theorem takeWord_bpl_budget (s : State) :
    (takeWord s).bpl.budget = s.bpl.budget := by unfold takeWord; split <;> rfl

@[simp] theorem takeWord_bpl_cursor (s : State) :
    (takeWord s).bpl.cursor = s.bpl.cursor := by unfold takeWord; split <;> rfl

@[simp] theorem takeWord_bpl_rotation (s : State) :
    (takeWord s).bpl.rotation = s.bpl.rotation := by unfold takeWord; split <;> rfl

/-- The staged word settings become active (R51, R96). -/
theorem takeWord_takes (s : State) : (takeWord s).wdc = s.bpl.staged.word.getD s.wdc
    ∧ (takeWord s).bpl.staged = { s.bpl.staged with word := none } := by
  unfold takeWord
  split
  · rename_i h
    exact ⟨by simp [h], by rw [← h]⟩
  · rename_i h
    exact ⟨by simp [h], by simp⟩

@[simp] theorem enableSlot_pins (set : PerChannel Bool) (s : State) (c : Channel) :
    (enableSlot set s c).pins = s.pins := by
  unfold enableSlot
  dsimp only
  split <;> simp

@[simp] theorem enableSlot_cfe (set : PerChannel Bool) (s : State) (c : Channel) :
    (enableSlot set s c).cfe = s.cfe := by
  unfold enableSlot
  dsimp only
  split <;> simp

@[simp] theorem enableSlot_fts (set : PerChannel Bool) (s : State) (c : Channel) :
    (enableSlot set s c).fts = s.fts := by
  unfold enableSlot
  dsimp only
  split <;> simp

@[simp] theorem enableSlot_wdc (set : PerChannel Bool) (s : State) (c : Channel) :
    (enableSlot set s c).wdc = s.wdc := by
  unfold enableSlot
  dsimp only
  split <;> simp

@[simp] theorem enableSlot_ptb (set : PerChannel Bool) (s : State) (c : Channel) :
    (enableSlot set s c).ptb = s.ptb := by
  unfold enableSlot
  dsimp only
  split <;> simp

@[simp] theorem enableSlot_fmo (set : PerChannel Bool) (s : State) (c : Channel) :
    (enableSlot set s c).fmo = s.fmo := by
  unfold enableSlot
  dsimp only
  split <;> simp

@[simp] theorem enableSlot_lnk (set : PerChannel Bool) (s : State) (c : Channel) :
    (enableSlot set s c).lnk = s.lnk := by
  unfold enableSlot
  dsimp only
  split <;> simp

@[simp] theorem enableSlot_cpr (set : PerChannel Bool) (s : State) (c : Channel) :
    (enableSlot set s c).cpr = s.cpr := by
  unfold enableSlot
  dsimp only
  split <;> simp

@[simp] theorem enableSlot_free (set : PerChannel Bool) (s : State) (c : Channel) :
    (enableSlot set s c).free = s.free := by
  unfold enableSlot
  dsimp only
  split <;> simp

@[simp] theorem enableSlot_pending (set : PerChannel Bool) (s : State) (c : Channel) :
    (enableSlot set s c).pending = s.pending := by
  unfold enableSlot
  dsimp only
  split <;> simp

@[simp] theorem enableSlot_bpl_active (set : PerChannel Bool) (s : State) (c : Channel) :
    (enableSlot set s c).bpl.active = s.bpl.active := by
  unfold enableSlot
  dsimp only
  split <;> simp

@[simp] theorem enableSlot_bpl_staged (set : PerChannel Bool) (s : State) (c : Channel) :
    (enableSlot set s c).bpl.staged = s.bpl.staged := by
  unfold enableSlot
  dsimp only
  split <;> simp

@[simp] theorem enableSlot_bpl_plan (set : PerChannel Bool) (s : State) (c : Channel) :
    (enableSlot set s c).bpl.plan = s.bpl.plan := by
  unfold enableSlot
  dsimp only
  split <;> simp

@[simp] theorem enableSlot_bpl_budget (set : PerChannel Bool) (s : State) (c : Channel) :
    (enableSlot set s c).bpl.budget = s.bpl.budget := by
  unfold enableSlot
  dsimp only
  split <;> simp

@[simp] theorem enableSlot_bpl_rotation (set : PerChannel Bool) (s : State) (c : Channel) :
    (enableSlot set s c).bpl.rotation = s.bpl.rotation := by
  unfold enableSlot
  dsimp only
  split <;> simp

@[simp] theorem enableSlot_ptr_enabled (set : PerChannel Bool) (s : State) (c : Channel) :
    (enableSlot set s c).ptr.enabled = s.ptr.enabled := by
  unfold enableSlot
  dsimp only
  split <;> simp

@[simp] theorem enableSlot_ptr_records (set : PerChannel Bool) (s : State) (c : Channel) :
    (enableSlot set s c).ptr.records = s.ptr.records := by
  unfold enableSlot
  dsimp only
  split <;> simp

/-- One slot compared with the new enable set (R76): its state, and the end of any proximity. -/
theorem enableSlot_slot (set : PerChannel Bool) (s : State) (c d : Channel) :
    (enableSlot set s c).slot d = if d ≠ c then s.slot d
      else match (s.slot c).state, set.get c with
        | .idle, true => { s.slot c with state := .search }
        | .search, false => { s.slot c with state := .idle }
        | .confirm, false => endedSlot .idle (s.slot c)
        | .track, false => endedSlot .idle (s.slot c)
        | _, _ => s.slot c := by
  unfold enableSlot
  dsimp only
  by_cases hd : d = c
  · subst hd
    simp only [ne_eq, not_true_eq_false, if_false]
    split <;> simp_all
  · split <;> simp [hd]

@[simp] theorem takeEnable_pins (s : State) :
    (takeEnable s).pins = s.pins := by
  unfold takeEnable
  split
  · rfl
  · simp [Channel.all]

@[simp] theorem takeEnable_cfe (s : State) :
    (takeEnable s).cfe = s.cfe := by
  unfold takeEnable
  split
  · rfl
  · simp [Channel.all]

@[simp] theorem takeEnable_fts (s : State) :
    (takeEnable s).fts = s.fts := by
  unfold takeEnable
  split
  · rfl
  · simp [Channel.all]

@[simp] theorem takeEnable_wdc (s : State) :
    (takeEnable s).wdc = s.wdc := by
  unfold takeEnable
  split
  · rfl
  · simp [Channel.all]

@[simp] theorem takeEnable_ptb (s : State) :
    (takeEnable s).ptb = s.ptb := by
  unfold takeEnable
  split
  · rfl
  · simp [Channel.all]

@[simp] theorem takeEnable_fmo (s : State) :
    (takeEnable s).fmo = s.fmo := by
  unfold takeEnable
  split
  · rfl
  · simp [Channel.all]

@[simp] theorem takeEnable_lnk (s : State) :
    (takeEnable s).lnk = s.lnk := by
  unfold takeEnable
  split
  · rfl
  · simp [Channel.all]

@[simp] theorem takeEnable_cpr (s : State) :
    (takeEnable s).cpr = s.cpr := by
  unfold takeEnable
  split
  · rfl
  · simp [Channel.all]

@[simp] theorem takeEnable_free (s : State) :
    (takeEnable s).free = s.free := by
  unfold takeEnable
  split
  · rfl
  · simp [Channel.all]

@[simp] theorem takeEnable_pending (s : State) :
    (takeEnable s).pending = s.pending := by
  unfold takeEnable
  split
  · rfl
  · simp [Channel.all]

@[simp] theorem takeEnable_bpl_active (s : State) :
    (takeEnable s).bpl.active = s.bpl.active := by
  unfold takeEnable
  split
  · rfl
  · simp [Channel.all]

@[simp] theorem takeEnable_bpl_plan (s : State) :
    (takeEnable s).bpl.plan = s.bpl.plan := by
  unfold takeEnable
  split
  · rfl
  · simp [Channel.all]

@[simp] theorem takeEnable_bpl_budget (s : State) :
    (takeEnable s).bpl.budget = s.bpl.budget := by
  unfold takeEnable
  split
  · rfl
  · simp [Channel.all]

@[simp] theorem takeEnable_bpl_rotation (s : State) :
    (takeEnable s).bpl.rotation = s.bpl.rotation := by
  unfold takeEnable
  split
  · rfl
  · simp [Channel.all]

@[simp] theorem takeEnable_ptr_records (s : State) :
    (takeEnable s).ptr.records = s.ptr.records := by
  unfold takeEnable
  split
  · rfl
  · simp [Channel.all]

/-- The staged enable set becomes the enable set (R76). -/
theorem takeEnable_takes (s : State) :
    (takeEnable s).ptr.enabled = s.bpl.staged.enable.getD s.ptr.enabled
      ∧ (takeEnable s).bpl.staged = { s.bpl.staged with enable := none } := by
  unfold takeEnable
  split
  · rename_i h
    exact ⟨by simp [h], by rw [← h]⟩
  · rename_i h
    exact ⟨by simp [h, Channel.all], by simp [Channel.all]⟩

@[simp] theorem releaseSlot_pins (s : State) (c : Channel) :
    (releaseSlot s c).pins = s.pins := by unfold releaseSlot; split <;> simp

@[simp] theorem releaseSlot_cfe (s : State) (c : Channel) :
    (releaseSlot s c).cfe = s.cfe := by unfold releaseSlot; split <;> simp

@[simp] theorem releaseSlot_fts (s : State) (c : Channel) :
    (releaseSlot s c).fts = s.fts := by unfold releaseSlot; split <;> simp

@[simp] theorem releaseSlot_wdc (s : State) (c : Channel) :
    (releaseSlot s c).wdc = s.wdc := by unfold releaseSlot; split <;> simp

@[simp] theorem releaseSlot_ptb (s : State) (c : Channel) :
    (releaseSlot s c).ptb = s.ptb := by unfold releaseSlot; split <;> simp

@[simp] theorem releaseSlot_fmo (s : State) (c : Channel) :
    (releaseSlot s c).fmo = s.fmo := by unfold releaseSlot; split <;> simp

@[simp] theorem releaseSlot_lnk (s : State) (c : Channel) :
    (releaseSlot s c).lnk = s.lnk := by unfold releaseSlot; split <;> simp

@[simp] theorem releaseSlot_cpr (s : State) (c : Channel) :
    (releaseSlot s c).cpr = s.cpr := by unfold releaseSlot; split <;> simp

@[simp] theorem releaseSlot_free (s : State) (c : Channel) :
    (releaseSlot s c).free = s.free := by unfold releaseSlot; split <;> simp

@[simp] theorem releaseSlot_pending (s : State) (c : Channel) :
    (releaseSlot s c).pending = s.pending := by unfold releaseSlot; split <;> simp

@[simp] theorem releaseSlot_bpl_active (s : State) (c : Channel) :
    (releaseSlot s c).bpl.active = s.bpl.active := by unfold releaseSlot; split <;> simp

@[simp] theorem releaseSlot_bpl_staged (s : State) (c : Channel) :
    (releaseSlot s c).bpl.staged = s.bpl.staged := by unfold releaseSlot; split <;> simp

@[simp] theorem releaseSlot_bpl_plan (s : State) (c : Channel) :
    (releaseSlot s c).bpl.plan = s.bpl.plan := by unfold releaseSlot; split <;> simp

@[simp] theorem releaseSlot_bpl_budget (s : State) (c : Channel) :
    (releaseSlot s c).bpl.budget = s.bpl.budget := by unfold releaseSlot; split <;> simp

@[simp] theorem releaseSlot_bpl_rotation (s : State) (c : Channel) :
    (releaseSlot s c).bpl.rotation = s.bpl.rotation := by unfold releaseSlot; split <;> simp

@[simp] theorem releaseSlot_ptr_enabled (s : State) (c : Channel) :
    (releaseSlot s c).ptr.enabled = s.ptr.enabled := by unfold releaseSlot; split <;> simp

@[simp] theorem releaseSlot_ptr_records (s : State) (c : Channel) :
    (releaseSlot s c).ptr.records = s.ptr.records := by unfold releaseSlot; split <;> simp

/-- A staged release carried out (R75): the end of any proximity. -/
@[simp] theorem releaseSlot_slot (s : State) (c d : Channel) :
    (releaseSlot s c).slot d = if d = c ∧ (s.slot c).state.active
      then endedSlot .search (s.slot c) else s.slot d := by
  unfold releaseSlot
  split <;> simp_all [SlotState.active]

@[simp] theorem foldl_releaseSlot_pins (l : List Channel) (s : State) :
    (l.foldl releaseSlot s).pins = s.pins := foldl_keeps (fun s => s.pins) _ (fun s c => releaseSlot_pins s c) l s

@[simp] theorem foldl_releaseSlot_cfe (l : List Channel) (s : State) :
    (l.foldl releaseSlot s).cfe = s.cfe := foldl_keeps (fun s => s.cfe) _ (fun s c => releaseSlot_cfe s c) l s

@[simp] theorem foldl_releaseSlot_fts (l : List Channel) (s : State) :
    (l.foldl releaseSlot s).fts = s.fts := foldl_keeps (fun s => s.fts) _ (fun s c => releaseSlot_fts s c) l s

@[simp] theorem foldl_releaseSlot_wdc (l : List Channel) (s : State) :
    (l.foldl releaseSlot s).wdc = s.wdc := foldl_keeps (fun s => s.wdc) _ (fun s c => releaseSlot_wdc s c) l s

@[simp] theorem foldl_releaseSlot_ptb (l : List Channel) (s : State) :
    (l.foldl releaseSlot s).ptb = s.ptb := foldl_keeps (fun s => s.ptb) _ (fun s c => releaseSlot_ptb s c) l s

@[simp] theorem foldl_releaseSlot_fmo (l : List Channel) (s : State) :
    (l.foldl releaseSlot s).fmo = s.fmo := foldl_keeps (fun s => s.fmo) _ (fun s c => releaseSlot_fmo s c) l s

@[simp] theorem foldl_releaseSlot_lnk (l : List Channel) (s : State) :
    (l.foldl releaseSlot s).lnk = s.lnk := foldl_keeps (fun s => s.lnk) _ (fun s c => releaseSlot_lnk s c) l s

@[simp] theorem foldl_releaseSlot_cpr (l : List Channel) (s : State) :
    (l.foldl releaseSlot s).cpr = s.cpr := foldl_keeps (fun s => s.cpr) _ (fun s c => releaseSlot_cpr s c) l s

@[simp] theorem foldl_releaseSlot_free (l : List Channel) (s : State) :
    (l.foldl releaseSlot s).free = s.free := foldl_keeps (fun s => s.free) _ (fun s c => releaseSlot_free s c) l s

@[simp] theorem foldl_releaseSlot_pending (l : List Channel) (s : State) :
    (l.foldl releaseSlot s).pending = s.pending := foldl_keeps (fun s => s.pending) _ (fun s c => releaseSlot_pending s c) l s

@[simp] theorem foldl_releaseSlot_bpl_active (l : List Channel) (s : State) :
    (l.foldl releaseSlot s).bpl.active = s.bpl.active := foldl_keeps (fun s => s.bpl.active) _ (fun s c => releaseSlot_bpl_active s c) l s

@[simp] theorem foldl_releaseSlot_bpl_staged (l : List Channel) (s : State) :
    (l.foldl releaseSlot s).bpl.staged = s.bpl.staged := foldl_keeps (fun s => s.bpl.staged) _ (fun s c => releaseSlot_bpl_staged s c) l s

@[simp] theorem foldl_releaseSlot_bpl_plan (l : List Channel) (s : State) :
    (l.foldl releaseSlot s).bpl.plan = s.bpl.plan := foldl_keeps (fun s => s.bpl.plan) _ (fun s c => releaseSlot_bpl_plan s c) l s

@[simp] theorem foldl_releaseSlot_bpl_budget (l : List Channel) (s : State) :
    (l.foldl releaseSlot s).bpl.budget = s.bpl.budget := foldl_keeps (fun s => s.bpl.budget) _ (fun s c => releaseSlot_bpl_budget s c) l s

@[simp] theorem foldl_releaseSlot_bpl_rotation (l : List Channel) (s : State) :
    (l.foldl releaseSlot s).bpl.rotation = s.bpl.rotation := foldl_keeps (fun s => s.bpl.rotation) _ (fun s c => releaseSlot_bpl_rotation s c) l s

@[simp] theorem foldl_releaseSlot_ptr_enabled (l : List Channel) (s : State) :
    (l.foldl releaseSlot s).ptr.enabled = s.ptr.enabled := foldl_keeps (fun s => s.ptr.enabled) _ (fun s c => releaseSlot_ptr_enabled s c) l s

@[simp] theorem foldl_releaseSlot_ptr_records (l : List Channel) (s : State) :
    (l.foldl releaseSlot s).ptr.records = s.ptr.records := foldl_keeps (fun s => s.ptr.records) _ (fun s c => releaseSlot_ptr_records s c) l s

@[simp] theorem takeReleases_pins (s : State) :
    (takeReleases s).pins = s.pins := by simp [takeReleases]

@[simp] theorem takeReleases_cfe (s : State) :
    (takeReleases s).cfe = s.cfe := by simp [takeReleases]

@[simp] theorem takeReleases_fts (s : State) :
    (takeReleases s).fts = s.fts := by simp [takeReleases]

@[simp] theorem takeReleases_wdc (s : State) :
    (takeReleases s).wdc = s.wdc := by simp [takeReleases]

@[simp] theorem takeReleases_ptb (s : State) :
    (takeReleases s).ptb = s.ptb := by simp [takeReleases]

@[simp] theorem takeReleases_fmo (s : State) :
    (takeReleases s).fmo = s.fmo := by simp [takeReleases]

@[simp] theorem takeReleases_lnk (s : State) :
    (takeReleases s).lnk = s.lnk := by simp [takeReleases]

@[simp] theorem takeReleases_cpr (s : State) :
    (takeReleases s).cpr = s.cpr := by simp [takeReleases]

@[simp] theorem takeReleases_free (s : State) :
    (takeReleases s).free = s.free := by simp [takeReleases]

@[simp] theorem takeReleases_pending (s : State) :
    (takeReleases s).pending = s.pending := by simp [takeReleases]

@[simp] theorem takeReleases_bpl_active (s : State) :
    (takeReleases s).bpl.active = s.bpl.active := by simp [takeReleases]

@[simp] theorem takeReleases_bpl_plan (s : State) :
    (takeReleases s).bpl.plan = s.bpl.plan := by simp [takeReleases]

@[simp] theorem takeReleases_bpl_budget (s : State) :
    (takeReleases s).bpl.budget = s.bpl.budget := by simp [takeReleases]

@[simp] theorem takeReleases_bpl_rotation (s : State) :
    (takeReleases s).bpl.rotation = s.bpl.rotation := by simp [takeReleases]

@[simp] theorem takeReleases_ptr_enabled (s : State) :
    (takeReleases s).ptr.enabled = s.ptr.enabled := by simp [takeReleases]

@[simp] theorem takeReleases_ptr_records (s : State) :
    (takeReleases s).ptr.records = s.ptr.records := by simp [takeReleases]

@[simp] theorem takeReleases_staged (s : State) :
    (takeReleases s).bpl.staged = { s.bpl.staged with releases := everyChannel false } := by
  simp [takeReleases]

@[simp] theorem takeUp_pins (s : State) :
    (takeUp s).pins = s.pins := by simp [takeUp]

@[simp] theorem takeUp_fts (s : State) :
    (takeUp s).fts = s.fts := by simp [takeUp]

@[simp] theorem takeUp_ptb (s : State) :
    (takeUp s).ptb = s.ptb := by simp [takeUp]

@[simp] theorem takeUp_fmo (s : State) :
    (takeUp s).fmo = s.fmo := by simp [takeUp]

@[simp] theorem takeUp_lnk (s : State) :
    (takeUp s).lnk = s.lnk := by simp [takeUp]

@[simp] theorem takeUp_cpr (s : State) :
    (takeUp s).cpr = s.cpr := by simp [takeUp]

@[simp] theorem takeUp_free (s : State) :
    (takeUp s).free = s.free := by simp [takeUp]

@[simp] theorem takeUp_pending (s : State) :
    (takeUp s).pending = s.pending := by simp [takeUp]

@[simp] theorem takeUp_cfe_layout (s : State) :
    (takeUp s).cfe.layout = s.cfe.layout := by simp [takeUp]

@[simp] theorem takeUp_cfe_fixed (s : State) :
    (takeUp s).cfe.fixed = s.cfe.fixed := by simp [takeUp]

@[simp] theorem takeUp_cfe_panel (s : State) :
    (takeUp s).cfe.panel = s.cfe.panel := by simp [takeUp]

@[simp] theorem takeUp_cfe_floor (s : State) :
    (takeUp s).cfe.floor = s.cfe.floor := by simp [takeUp]

@[simp] theorem takeUp_cfe_engine (s : State) :
    (takeUp s).cfe.engine = s.cfe.engine := by simp [takeUp]

@[simp] theorem takeUp_bpl_plan (s : State) :
    (takeUp s).bpl.plan = s.bpl.plan := by simp [takeUp]

@[simp] theorem takeUp_bpl_budget (s : State) :
    (takeUp s).bpl.budget = s.bpl.budget := by simp [takeUp]

@[simp] theorem takeUp_bpl_rotation (s : State) :
    (takeUp s).bpl.rotation = s.bpl.rotation := by simp [takeUp]

@[simp] theorem takeUp_ptr_records (s : State) :
    (takeUp s).ptr.records = s.ptr.records := by simp [takeUp]

/-- Every staged item is taken up by its owner, and none is left staged (R51). -/
theorem takeUp_takes (s : State) :
    (takeUp s).bpl.active = s.bpl.staged.scan.getD s.bpl.active
      ∧ (takeUp s).wdc = s.bpl.staged.word.getD s.wdc
      ∧ (takeUp s).ptr.enabled = s.bpl.staged.enable.getD s.ptr.enabled
      ∧ (takeUp s).bpl.staged = nothingStaged := by
  have h1 := takeScan_takes s
  have h2 := takeWord_takes (takeScan s)
  have h3 := takeEnable_takes (takeWord (takeScan s))
  simp [takeUp, h1, h2, h3, nothingStaged]

/-! ### The first entries -/

/-- An engine at the beginning of its plan is at its first entry (R7). -/
theorem State.burstAt_of_idle (s : State) (sh : Sheet) (h : (s.engine sh).pos = 0) :
    s.burstAt sh = (sheetGet s.bpl.plan sh).head?.map (·.burst) := by
  simp [State.burstAt, h, List.head?_eq_getElem?]

/-- A PROBE listens at once, with no excitation (R7, R11). -/
theorem beginEntry_probe (s : State) (sh : Sheet) (h : s.burstAt sh = some .probe) :
    beginEntry s sh = placeListening (setRun .inFlight s sh) sh := by simp [beginEntry, h]

theorem beginEntry_probe_st (s : State) (sh : Sheet) (h : s.burstAt sh = some .probe) :
    ((beginEntry s sh).engine sh).st ≠ .excite := by
  rw [beginEntry_probe s sh h, placeListening_engine]; simp; split <;> simp

theorem beginEntry_probe_other (s : State) (sh t : Sheet) (h : s.burstAt sh = some .probe) 
    (ht : t ≠ sh) :
    (beginEntry s sh).engine t = s.engine t ∧ (beginEntry s sh).burstAt t = s.burstAt t := by
  rw [beginEntry_probe s sh h]
  have e : (placeListening (setRun .inFlight s sh) sh).engine t = s.engine t := by
    rw [placeListening_engine]; simp [ht]
  refine ⟨e, ?_⟩
  simp only [State.burstAt, e, placeListening_bpl]
  rw [setRun_plan]; simp [ht]

/-- The first entry of every plan being a PROBE, no burst enters EXCITE as a frame opens, and an armed
DRIVER_TRIP stays armed (R20, R42). -/
theorem startFirst_probe (s : State)
    (h : ∀ sh ∈ s.cfe.layout.sheets, (sheetGet s.bpl.plan sh).head?.map (·.burst) = some .probe) :
    startFirst s = s.cfe.layout.sheets.foldl beginEntry
      (s.setCfe { s.cfe with engine := everySheet idleEngine }) := by
  have none : newlyExcited (s.setCfe { s.cfe with engine := everySheet idleEngine })
      (s.cfe.layout.sheets.foldl beginEntry
        (s.setCfe { s.cfe with engine := everySheet idleEngine })) = [] := by
    have b : ∀ sh ∈ s.cfe.layout.sheets,
        (s.setCfe { s.cfe with engine := everySheet idleEngine }).burstAt sh = some .probe := by
      intro sh hm
      rw [State.burstAt_of_idle _ _ (by cases sh <;> rfl)]
      exact h sh hm
    generalize hu : s.setCfe { s.cfe with engine := everySheet idleEngine } = u at b ⊢
    have i : ∀ sh, (u.engine sh).st = .idle := by subst hu; intro sh; cases sh <;> rfl
    cases hl : s.cfe.layout
    · have b0 := b .s0 (by simp [hl, Layout.sheets])
      have o := beginEntry_probe_other u .s0 .s1 b0 (by simp)
      simp [newlyExcited, bothSheets, Layout.sheets, o, i, beginEntry_probe_st u .s0 b0]
    · have b0 := b .s0 (by simp [hl, Layout.sheets])
      have b1 := b .s1 (by simp [hl, Layout.sheets])
      have o := beginEntry_probe_other u .s0 .s1 b0 (by simp)
      have b1' : (beginEntry u .s0).burstAt .s1 = some .probe := by rw [o.2, b1]
      have o' := beginEntry_probe_other _ .s1 .s0 b1' (by simp)
      simp [newlyExcited, bothSheets, Layout.sheets, o', i, beginEntry_probe_st u .s0 b0,
        beginEntry_probe_st _ .s1 b1']
  simp only [startFirst]
  rw [none]; simp

/-- A frame opens in RUNNING: the staged items taken up, the plans built, and each sheet's PROBE
begun (R7, R24, R25, R40, R51). -/
theorem openFrame_running (s : State) (h : s.fts.scan = .running) :
    let u := buildPlans (takeUp (s.setFts { s.fts with
      frameNo := s.fts.frameNo + 1, frame := .planned, age := 0 }))
    openFrame s = s.cfe.layout.sheets.foldl beginEntry
      (u.setCfe { u.cfe with engine := everySheet idleEngine }) := by
  simp only [openFrame, h]
  rw [startFirst_probe]
  · simp
  · intro sh hm
    rw [buildPlans_plan, if_pos (by simpa using hm)]
    obtain ⟨r, hr⟩ := sheetPlan_head _ _ _ _ _ _ sh
    rw [hr]; rfl

/-- The channels of the SEARCH entries of a list, in its order. -/
def turnsOf (l : List PlanEntry) : List Channel := l.filterMap fun e => match e.burst with
       | .search c _ => some c
       | _ => none
/-- How many channels stand before `b` in the cyclic order that starts after `a` (R44). -/
def ahead (a b : Channel) : Nat := (b.num + 3 - a.num) % 4

/-- The next channel is the first of the search set after the pointer (R44). -/
theorem nextSearch_some {set : PerChannel Bool} {p c : Channel} (h : nextSearch set p = some c) :
    set.get c = true ∧ ∀ d, ahead p d < ahead p c → ¬ set.get d = true := by
  have hd : ∀ d, d = p ∨ d = p.succ ∨ d = p.succ.succ ∨ d = p.succ.succ.succ := by
    intro d; cases p <;> cases d <;> simp [Channel.succ]
  have n1 : ahead p p.succ = 0 ∧ ahead p p.succ.succ = 1 ∧ ahead p p.succ.succ.succ = 2 ∧ ahead p p = 3 := by cases p <;> decide
  simp only [nextSearch, List.find?_cons, List.find?_nil] at h
  cases h1 : set.get p.succ
  · cases h2 : set.get p.succ.succ
    · cases h3 : set.get p.succ.succ.succ
      · cases h4 : set.get p
        · simp [h1, h2, h3, h4] at h
        · simp [h1, h2, h3, h4] at h; subst h
          refine ⟨h4, fun d hl => ?_⟩
          rcases hd d with rfl | rfl | rfl | rfl <;> simp_all
      · simp [h1, h2, h3] at h; subst h
        refine ⟨h3, fun d hl => ?_⟩
        rcases hd d with rfl | rfl | rfl | rfl <;> simp_all
    · simp [h1, h2] at h; subst h
      refine ⟨h2, fun d hl => ?_⟩
      rcases hd d with rfl | rfl | rfl | rfl <;> simp_all
  · simp [h1] at h; subst h
    refine ⟨h1, fun d hl => ?_⟩
    rcases hd d with rfl | rfl | rfl | rfl <;> simp_all

/-- Search positions go to the search set in rotation, and the pointer follows (R44). -/
theorem fillSearch_turns (set : PerChannel Bool) (cursor : Channel → Nat) (bands n : Nat) (p : Channel) (used : PerChannel Nat) :
    let r := fillSearch set cursor bands n p used
    (∀ k a b, (p :: turnsOf r.1)[k]? = some a → (p :: turnsOf r.1)[k+1]? = some b → set.get b = true ∧ ∀ d, ahead a d < ahead a b → ¬ set.get d = true)
    ∧ r.2 = ((turnsOf r.1).getLast?).getD p := by
  induction n generalizing p used with
  | zero => simp [fillSearch, turnsOf]
  | succ n ih =>
    unfold fillSearch
    dsimp only
    split
    · simp [turnsOf]
    · rename_i c hc
      have := ih c (used.set c (used.get c + 1))
      dsimp only at this
      have e : ∀ b r, turnsOf (plannedEntry (.search c b) :: r) = c :: turnsOf r := fun b r => rfl
      rw [e]
      refine ⟨?_, ?_⟩
      · intro k a b ha hb
        cases k with
        | zero =>
          simp at ha hb; subst ha hb
          exact nextSearch_some hc
        | succ k => exact this.1 k a b (by simpa using ha) (by simpa using hb)
      · rw [this.2, List.getLast?_cons]; rfl

/-! ### The PROBE of a frame open -/

/-- A run state is set on one sheet's plan alone. -/
theorem setRun_at (run : RunState) (s : State) (sh t : Sheet) :
    sheetGet (setRun run s sh).bpl.plan t = if t = sh then
      (sheetGet s.bpl.plan sh).modify (s.engine sh).pos (fun e => { e with run := run })
    else sheetGet s.bpl.plan t := by
  cases sh <;> cases t <;> rfl

theorem placeListening_at (s : State) (sh t : Sheet) :
    (placeListening s sh).engine t = if t = sh then
      let aligned := s.fts.lock = .locked ∧ s.bpl.active.align = true
      { s.engine sh with
        st := if aligned then .align else .listen, wait := 0, since := none
        unsynced := !decide aligned }
    else s.engine t := by
  unfold placeListening
  by_cases h : s.fts.lock = .locked ∧ s.bpl.active.align = true
  · rw [if_pos (by simpa using h), setEngineState_engine]; simp [h]
  · rw [if_neg (by simpa using h), setEngineState_engine]
    simp only [h, if_false]; congr 1

/-- A PROBE begun: its entry in flight, its listening placed, the other sheet as it was (R8). -/
theorem beginEntry_probe_at (s : State) (sh t : Sheet) (h : s.burstAt sh = some .probe) :
    sheetGet (beginEntry s sh).bpl.plan t = (if t = sh then
      (sheetGet s.bpl.plan sh).modify (s.engine sh).pos (fun e => { e with run := .inFlight })
      else sheetGet s.bpl.plan t)
    ∧ (beginEntry s sh).engine t = if t = sh then
      let aligned := s.fts.lock = .locked ∧ s.bpl.active.align = true
      { s.engine sh with
        st := if aligned then .align else .listen, wait := 0, since := none
        unsynced := !decide aligned }
    else s.engine t := by
  rw [beginEntry_probe s sh h]
  refine ⟨by rw [placeListening_bpl, setRun_at], ?_⟩
  rw [placeListening_at]
  simp only [setRun_engine]; rfl

end Sys2Proof.Machine
end

