-- ==== Sys2Proof/Laws/Queue.lean ====
section
/-! SUPPORT. What each handing to the Report Queue keeps, and what it can leave in the queue
(chapter 8). -/

namespace Sys2Proof.Machine

@[simp] theorem Rqu.place_queue (r : Rqu) (e : Entry) : (r.place e).queue = r.queue ++ [e] := rfl
@[simp] theorem Rqu.place_gap (r : Rqu) (e : Entry) : (r.place e).gap = r.gap := rfl
@[simp] theorem Rqu.place_hold (r : Rqu) (e : Entry) : (r.place e).hold = r.hold := rfl

@[simp] theorem Rqu.handIn_queue (r : Rqu) (c : Channel) :
    (r.handIn c).queue = r.queue ++ [.penIn c] := rfl

/-! ### ALERT (R143) -/

@[simp] theorem Rqu.handAlert_gap (r : Rqu) : r.handAlert.gap = r.gap := by
  unfold Rqu.handAlert; split <;> rfl

@[simp] theorem Rqu.handAlert_hold (r : Rqu) : r.handAlert.hold = r.hold := by
  unfold Rqu.handAlert; split <;> rfl

/-- An ALERT handed leaves one unsent. -/
@[simp] theorem Rqu.alert_mem_handAlert (r : Rqu) : .alert ∈ r.handAlert.queue := by
  unfold Rqu.handAlert; split
  · assumption
  · simp

/-- An ALERT handed is no MOTION. -/
@[simp] theorem Rqu.handAlert_motionCount (r : Rqu) :
    motionCount r.handAlert.queue = motionCount r.queue := by
  unfold Rqu.handAlert; split
  · rfl
  · simp [motionCount, Entry.isMotion]

/-! ### OUT (R140) -/

/-- What cancelling an IN leaves was there before. -/
theorem cancelIn_sublist (c : Channel) (l q : List Entry) (h : cancelIn c l = some q) :
    q.Sublist l := by
  induction l generalizing q with
  | nil => cases h
  | cons e l ih =>
    unfold cancelIn at h
    split at h
    · cases h
      exact List.filter_sublist.cons e
    · cases h' : cancelIn c l with
      | none => simp [h'] at h
      | some q' =>
        simp only [h', Option.map_some, Option.some.injEq] at h
        subst h
        exact (ih q' h').cons_cons e

/-- An OUT is cancelled against an IN exactly where one is unsent. -/
theorem cancelIn_none (c : Channel) (l : List Entry) : cancelIn c l = none ↔ .penIn c ∉ l := by
  induction l with
  | nil => simp [cancelIn]
  | cons e l ih =>
    unfold cancelIn
    split
    · rename_i h; simp [h]
    · rename_i h
      simp [ih, Ne.symm h]

/-- After an OUT the queue holds nothing new but that OUT. -/
theorem Rqu.handOut_queue (r : Rqu) (c : Channel) :
    (∃ q, cancelIn c r.queue = some q ∧ (r.handOut c).queue = q)
      ∨ (.penIn c ∉ r.queue ∧ (r.handOut c).queue = r.queue ++ [.penOut c]) := by
  unfold Rqu.handOut
  split
  · rename_i q h; exact .inl ⟨q, h, rfl⟩
  · rename_i h; exact .inr ⟨(cancelIn_none c _).mp h, rfl⟩

/-- An OUT adds no MOTION. -/
theorem Rqu.handOut_motionCount (r : Rqu) (c : Channel) :
    motionCount (r.handOut c).queue ≤ motionCount r.queue := by
  rcases r.handOut_queue c with ⟨q, h, e⟩ | ⟨-, e⟩
  · rw [e]; exact (cancelIn_sublist c _ q h).countP_le
  · simp [e, motionCount, Entry.isMotion]

/-! ### TOOL (R142) -/

theorem Entry.isToolOf_not_motion (c : Channel) (e : Entry) (h : e.isToolOf c = true) :
    e.isMotion = false := by cases e <;> simp_all [Entry.isToolOf, Entry.isMotion]

@[simp] theorem Rqu.handTool_gap (r : Rqu) (c : Channel) (id : Nat) (b : Option Nat) :
    (r.handTool c id b).gap = r.gap := by
  unfold Rqu.handTool; split
  · split <;> rfl
  · rfl

@[simp] theorem Rqu.handTool_hold (r : Rqu) (c : Channel) (id : Nat) (b : Option Nat) :
    (r.handTool c id b).hold = r.hold := by
  unfold Rqu.handTool; split
  · split <;> rfl
  · rfl

/-- A TOOL handed is unsent afterwards, whatever the queue held of its channel. -/
theorem Rqu.tool_mem_handTool (r : Rqu) (c : Channel) (id : Nat) (b : Option Nat) :
    .tool c id b ∈ (r.handTool c id b).queue := by
  unfold Rqu.handTool; split
  · split
    · simp
    · rename_i h _
      simp only [List.any_eq_true] at h
      obtain ⟨e, he, ht⟩ := h
      simp only [List.mem_map]
      exact ⟨e, he, by simp [ht]⟩
  · simp

/-- A TOOL handed changes no MOTION. -/
@[simp] theorem Rqu.handTool_motionCount (r : Rqu) (c : Channel) (id : Nat) (b : Option Nat) :
    motionCount (r.handTool c id b).queue = motionCount r.queue := by
  have key : ∀ l : List Entry, l.countP (fun e => Entry.isMotion e && !e.isToolOf c)
      = l.countP Entry.isMotion := fun l => List.countP_congr fun e _ => by
    have := Entry.isToolOf_not_motion c e
    cases h : e.isToolOf c <;> simp_all
  unfold Rqu.handTool; split
  · split
    · have : Entry.isMotion (.tool c id b) = false := rfl
      simp [motionCount, List.countP_filter, key, this]
    · simp only [motionCount, List.countP_map]
      refine List.countP_congr fun e _ => ?_
      have := Entry.isToolOf_not_motion c e
      cases h : e.isToolOf c <;> simp_all [Function.comp, Entry.isMotion]
  · simp [motionCount, Entry.isMotion]

/-! ### MOTION (R135 to R138) -/

@[simp] theorem Rqu.handMotion_hold (r : Rqu) (m : Motion) : (r.handMotion m).1.hold = r.hold := by
  unfold Rqu.handMotion
  dsimp only
  split
  · rfl
  · split <;> rfl

/-- A merge keeps the number of entries. -/
theorem mergeNewest_length (m : Motion) (gap : Bool) (l q : List Entry)
    (h : mergeNewest m gap l = some q) : q.length = l.length := by
  induction l generalizing q with
  | nil => cases h
  | cons e l ih =>
    unfold mergeNewest at h
    split at h
    · split at h
      · split at h
        · cases h; rfl
        · cases h
      · cases h
    · cases h' : mergeNewest m gap l with
      | none => simp [h'] at h
      | some q' =>
        simp only [h', Option.map_some, Option.some.injEq] at h
        subst h
        simp [ih q' h']

/-- A second ALERT handed in a row changes nothing (R143). -/
@[simp] theorem Rqu.handAlert_twice (r : Rqu) : r.handAlert.handAlert = r.handAlert := by
  show (if .alert ∈ r.handAlert.queue then r.handAlert else _) = _
  rw [if_pos r.alert_mem_handAlert]

end Sys2Proof.Machine
end

