-- ==== Sys2Proof/Laws/Tracker.lean ====
section
/-! SUPPORT. What the Pen Tracker keeps and what it does at a frame close (chapter 4). -/

namespace Sys2Proof.Machine

/-! ### Blocks a close keeps -/

@[simp] theorem disarmTipMiss_pins (c : Channel) (s : State) :
    (disarmTipMiss c s).pins = s.pins := rfl

@[simp] theorem disarmTipMiss_cfe (c : Channel) (s : State) :
    (disarmTipMiss c s).cfe = s.cfe := rfl

@[simp] theorem disarmTipMiss_fts (c : Channel) (s : State) :
    (disarmTipMiss c s).fts = s.fts := rfl

@[simp] theorem disarmTipMiss_bpl (c : Channel) (s : State) :
    (disarmTipMiss c s).bpl = s.bpl := rfl

@[simp] theorem disarmTipMiss_ptr (c : Channel) (s : State) :
    (disarmTipMiss c s).ptr = s.ptr := rfl

@[simp] theorem disarmTipMiss_wdc (c : Channel) (s : State) :
    (disarmTipMiss c s).wdc = s.wdc := rfl

@[simp] theorem disarmTipMiss_ptb (c : Channel) (s : State) :
    (disarmTipMiss c s).ptb = s.ptb := rfl

@[simp] theorem disarmTipMiss_rqu (c : Channel) (s : State) :
    (disarmTipMiss c s).rqu = s.rqu := rfl

@[simp] theorem disarmTipMiss_lnk (c : Channel) (s : State) :
    (disarmTipMiss c s).lnk = s.lnk := rfl

@[simp] theorem disarmTipMiss_cpr (c : Channel) (s : State) :
    (disarmTipMiss c s).cpr = s.cpr := rfl

@[simp] theorem disarmTipMiss_free (c : Channel) (s : State) :
    (disarmTipMiss c s).free = s.free := rfl

@[simp] theorem disarmTipMiss_pending (c : Channel) (s : State) :
    (disarmTipMiss c s).pending = s.pending := rfl

@[simp] theorem disarmTipMiss_fmo_recs (c : Channel) (s : State) :
    (disarmTipMiss c s).fmo.recs = s.fmo.recs := rfl

@[simp] theorem disarmTipMiss_fmo_pointer (c : Channel) (s : State) :
    (disarmTipMiss c s).fmo.pointer = s.fmo.pointer := rfl

@[simp] theorem disarmTipMiss_fmo_snapshot (c : Channel) (s : State) :
    (disarmTipMiss c s).fmo.snapshot = s.fmo.snapshot := rfl

@[simp] theorem disarmCollarFlip_pins (c : Channel) (s : State) :
    (disarmCollarFlip c s).pins = s.pins := rfl

@[simp] theorem disarmCollarFlip_cfe (c : Channel) (s : State) :
    (disarmCollarFlip c s).cfe = s.cfe := rfl

@[simp] theorem disarmCollarFlip_fts (c : Channel) (s : State) :
    (disarmCollarFlip c s).fts = s.fts := rfl

@[simp] theorem disarmCollarFlip_bpl (c : Channel) (s : State) :
    (disarmCollarFlip c s).bpl = s.bpl := rfl

@[simp] theorem disarmCollarFlip_ptr (c : Channel) (s : State) :
    (disarmCollarFlip c s).ptr = s.ptr := rfl

@[simp] theorem disarmCollarFlip_wdc (c : Channel) (s : State) :
    (disarmCollarFlip c s).wdc = s.wdc := rfl

@[simp] theorem disarmCollarFlip_ptb (c : Channel) (s : State) :
    (disarmCollarFlip c s).ptb = s.ptb := rfl

@[simp] theorem disarmCollarFlip_rqu (c : Channel) (s : State) :
    (disarmCollarFlip c s).rqu = s.rqu := rfl

@[simp] theorem disarmCollarFlip_lnk (c : Channel) (s : State) :
    (disarmCollarFlip c s).lnk = s.lnk := rfl

@[simp] theorem disarmCollarFlip_cpr (c : Channel) (s : State) :
    (disarmCollarFlip c s).cpr = s.cpr := rfl

@[simp] theorem disarmCollarFlip_free (c : Channel) (s : State) :
    (disarmCollarFlip c s).free = s.free := rfl

@[simp] theorem disarmCollarFlip_pending (c : Channel) (s : State) :
    (disarmCollarFlip c s).pending = s.pending := rfl

@[simp] theorem disarmCollarFlip_fmo_recs (c : Channel) (s : State) :
    (disarmCollarFlip c s).fmo.recs = s.fmo.recs := rfl

@[simp] theorem disarmCollarFlip_fmo_pointer (c : Channel) (s : State) :
    (disarmCollarFlip c s).fmo.pointer = s.fmo.pointer := rfl

@[simp] theorem disarmCollarFlip_fmo_snapshot (c : Channel) (s : State) :
    (disarmCollarFlip c s).fmo.snapshot = s.fmo.snapshot := rfl

@[simp] theorem disarmTipMiss_slot (c d : Channel) (s : State) :
    (disarmTipMiss c s).slot d = s.slot d := rfl

@[simp] theorem disarmCollarFlip_slot (c d : Channel) (s : State) :
    (disarmCollarFlip c s).slot d = s.slot d := rfl

@[simp] theorem closeSearch_pins (c : Channel) (s : State) :
    (closeSearch c s).pins = s.pins := by unfold closeSearch; split <;> simp

@[simp] theorem closeSearch_cfe (c : Channel) (s : State) :
    (closeSearch c s).cfe = s.cfe := by unfold closeSearch; split <;> simp

@[simp] theorem closeSearch_fts (c : Channel) (s : State) :
    (closeSearch c s).fts = s.fts := by unfold closeSearch; split <;> simp

@[simp] theorem closeSearch_bpl (c : Channel) (s : State) :
    (closeSearch c s).bpl = s.bpl := by unfold closeSearch; split <;> simp

@[simp] theorem closeSearch_wdc (c : Channel) (s : State) :
    (closeSearch c s).wdc = s.wdc := by unfold closeSearch; split <;> simp

@[simp] theorem closeSearch_ptb (c : Channel) (s : State) :
    (closeSearch c s).ptb = s.ptb := by unfold closeSearch; split <;> simp

@[simp] theorem closeSearch_rqu (c : Channel) (s : State) :
    (closeSearch c s).rqu = s.rqu := by unfold closeSearch; split <;> simp

@[simp] theorem closeSearch_fmo (c : Channel) (s : State) :
    (closeSearch c s).fmo = s.fmo := by unfold closeSearch; split <;> simp

@[simp] theorem closeSearch_lnk (c : Channel) (s : State) :
    (closeSearch c s).lnk = s.lnk := by unfold closeSearch; split <;> simp

@[simp] theorem closeSearch_cpr (c : Channel) (s : State) :
    (closeSearch c s).cpr = s.cpr := by unfold closeSearch; split <;> simp

@[simp] theorem closeSearch_free (c : Channel) (s : State) :
    (closeSearch c s).free = s.free := by unfold closeSearch; split <;> simp

@[simp] theorem closeSearch_pending (c : Channel) (s : State) :
    (closeSearch c s).pending = s.pending := by unfold closeSearch; split <;> simp

@[simp] theorem closeSearch_ptr_enabled (c : Channel) (s : State) :
    (closeSearch c s).ptr.enabled = s.ptr.enabled := by unfold closeSearch; split <;> simp

@[simp] theorem closeSearch_ptr_records (c : Channel) (s : State) :
    (closeSearch c s).ptr.records = s.ptr.records := by unfold closeSearch; split <;> simp

@[simp] theorem handBit_pins (c : Channel) (bit : Option Bool) (s : State) :
    ((handBit c bit s).1).pins = s.pins := by
  unfold handBit; dsimp only; split
  · rfl
  · dsimp only; split <;> simp

@[simp] theorem handBit_cfe (c : Channel) (bit : Option Bool) (s : State) :
    ((handBit c bit s).1).cfe = s.cfe := by
  unfold handBit; dsimp only; split
  · rfl
  · dsimp only; split <;> simp

@[simp] theorem handBit_fts (c : Channel) (bit : Option Bool) (s : State) :
    ((handBit c bit s).1).fts = s.fts := by
  unfold handBit; dsimp only; split
  · rfl
  · dsimp only; split <;> simp

@[simp] theorem handBit_bpl (c : Channel) (bit : Option Bool) (s : State) :
    ((handBit c bit s).1).bpl = s.bpl := by
  unfold handBit; dsimp only; split
  · rfl
  · dsimp only; split <;> simp

@[simp] theorem handBit_wdc (c : Channel) (bit : Option Bool) (s : State) :
    ((handBit c bit s).1).wdc = s.wdc := by
  unfold handBit; dsimp only; split
  · rfl
  · dsimp only; split <;> simp

@[simp] theorem handBit_ptb (c : Channel) (bit : Option Bool) (s : State) :
    ((handBit c bit s).1).ptb = s.ptb := by
  unfold handBit; dsimp only; split
  · rfl
  · dsimp only; split <;> simp

@[simp] theorem handBit_rqu (c : Channel) (bit : Option Bool) (s : State) :
    ((handBit c bit s).1).rqu = s.rqu := by
  unfold handBit; dsimp only; split
  · rfl
  · dsimp only; split <;> simp

@[simp] theorem handBit_lnk (c : Channel) (bit : Option Bool) (s : State) :
    ((handBit c bit s).1).lnk = s.lnk := by
  unfold handBit; dsimp only; split
  · rfl
  · dsimp only; split <;> simp

@[simp] theorem handBit_cpr (c : Channel) (bit : Option Bool) (s : State) :
    ((handBit c bit s).1).cpr = s.cpr := by
  unfold handBit; dsimp only; split
  · rfl
  · dsimp only; split <;> simp

@[simp] theorem handBit_free (c : Channel) (bit : Option Bool) (s : State) :
    ((handBit c bit s).1).free = s.free := by
  unfold handBit; dsimp only; split
  · rfl
  · dsimp only; split <;> simp

@[simp] theorem handBit_pending (c : Channel) (bit : Option Bool) (s : State) :
    ((handBit c bit s).1).pending = s.pending := by
  unfold handBit; dsimp only; split
  · rfl
  · dsimp only; split <;> simp

@[simp] theorem handBit_ptr_enabled (c : Channel) (bit : Option Bool) (s : State) :
    ((handBit c bit s).1).ptr.enabled = s.ptr.enabled := by
  unfold handBit; dsimp only; split
  · rfl
  · dsimp only; split <;> simp

@[simp] theorem handBit_ptr_records (c : Channel) (bit : Option Bool) (s : State) :
    ((handBit c bit s).1).ptr.records = s.ptr.records := by
  unfold handBit; dsimp only; split
  · rfl
  · dsimp only; split <;> simp

@[simp] theorem handBit_fmo_recs (c : Channel) (bit : Option Bool) (s : State) :
    ((handBit c bit s).1).fmo.recs = s.fmo.recs := by
  unfold handBit; dsimp only; split
  · rfl
  · dsimp only; split <;> simp

@[simp] theorem handBit_fmo_pointer (c : Channel) (bit : Option Bool) (s : State) :
    ((handBit c bit s).1).fmo.pointer = s.fmo.pointer := by
  unfold handBit; dsimp only; split
  · rfl
  · dsimp only; split <;> simp

@[simp] theorem handBit_fmo_snapshot (c : Channel) (bit : Option Bool) (s : State) :
    ((handBit c bit s).1).fmo.snapshot = s.fmo.snapshot := by
  unfold handBit; dsimp only; split
  · rfl
  · dsimp only; split <;> simp

@[simp] theorem takeTool_pins (c : Channel) (v : Option Nat) (s : State) :
    ((takeTool c v s).1).pins = s.pins := by
  unfold takeTool; dsimp only; split
  · rfl
  · split
    · rfl
    · dsimp only; split <;> simp

@[simp] theorem takeTool_cfe (c : Channel) (v : Option Nat) (s : State) :
    ((takeTool c v s).1).cfe = s.cfe := by
  unfold takeTool; dsimp only; split
  · rfl
  · split
    · rfl
    · dsimp only; split <;> simp

@[simp] theorem takeTool_fts (c : Channel) (v : Option Nat) (s : State) :
    ((takeTool c v s).1).fts = s.fts := by
  unfold takeTool; dsimp only; split
  · rfl
  · split
    · rfl
    · dsimp only; split <;> simp

@[simp] theorem takeTool_bpl (c : Channel) (v : Option Nat) (s : State) :
    ((takeTool c v s).1).bpl = s.bpl := by
  unfold takeTool; dsimp only; split
  · rfl
  · split
    · rfl
    · dsimp only; split <;> simp

@[simp] theorem takeTool_wdc (c : Channel) (v : Option Nat) (s : State) :
    ((takeTool c v s).1).wdc = s.wdc := by
  unfold takeTool; dsimp only; split
  · rfl
  · split
    · rfl
    · dsimp only; split <;> simp

@[simp] theorem takeTool_ptb (c : Channel) (v : Option Nat) (s : State) :
    ((takeTool c v s).1).ptb = s.ptb := by
  unfold takeTool; dsimp only; split
  · rfl
  · split
    · rfl
    · dsimp only; split <;> simp

@[simp] theorem takeTool_lnk (c : Channel) (v : Option Nat) (s : State) :
    ((takeTool c v s).1).lnk = s.lnk := by
  unfold takeTool; dsimp only; split
  · rfl
  · split
    · rfl
    · dsimp only; split <;> simp

@[simp] theorem takeTool_cpr (c : Channel) (v : Option Nat) (s : State) :
    ((takeTool c v s).1).cpr = s.cpr := by
  unfold takeTool; dsimp only; split
  · rfl
  · split
    · rfl
    · dsimp only; split <;> simp

@[simp] theorem takeTool_free (c : Channel) (v : Option Nat) (s : State) :
    ((takeTool c v s).1).free = s.free := by
  unfold takeTool; dsimp only; split
  · rfl
  · split
    · rfl
    · dsimp only; split <;> simp

@[simp] theorem takeTool_pending (c : Channel) (v : Option Nat) (s : State) :
    ((takeTool c v s).1).pending = s.pending := by
  unfold takeTool; dsimp only; split
  · rfl
  · split
    · rfl
    · dsimp only; split <;> simp

@[simp] theorem takeTool_ptr_enabled (c : Channel) (v : Option Nat) (s : State) :
    ((takeTool c v s).1).ptr.enabled = s.ptr.enabled := by
  unfold takeTool; dsimp only; split
  · rfl
  · split
    · rfl
    · dsimp only; split <;> simp

@[simp] theorem takeTool_ptr_records (c : Channel) (v : Option Nat) (s : State) :
    ((takeTool c v s).1).ptr.records = s.ptr.records := by
  unfold takeTool; dsimp only; split
  · rfl
  · split
    · rfl
    · dsimp only; split <;> simp

@[simp] theorem takeTool_fmo_snapshot (c : Channel) (v : Option Nat) (s : State) :
    ((takeTool c v s).1).fmo.snapshot = s.fmo.snapshot := by
  unfold takeTool; dsimp only; split
  · rfl
  · split
    · rfl
    · dsimp only; split <;> simp

@[simp] theorem takeTool_fmo_armed (c : Channel) (v : Option Nat) (s : State) :
    ((takeTool c v s).1).fmo.armed = s.fmo.armed := by
  unfold takeTool; dsimp only; split
  · rfl
  · split
    · rfl
    · dsimp only; split <;> simp

@[simp] theorem handMotion_pins (m : Motion) (s : State) :
    (handMotion m s).pins = s.pins := by
  unfold handMotion; dsimp only; split <;> simp

@[simp] theorem handMotion_cfe (m : Motion) (s : State) :
    (handMotion m s).cfe = s.cfe := by
  unfold handMotion; dsimp only; split <;> simp

@[simp] theorem handMotion_fts (m : Motion) (s : State) :
    (handMotion m s).fts = s.fts := by
  unfold handMotion; dsimp only; split <;> simp

@[simp] theorem handMotion_bpl (m : Motion) (s : State) :
    (handMotion m s).bpl = s.bpl := by
  unfold handMotion; dsimp only; split <;> simp

@[simp] theorem handMotion_ptr (m : Motion) (s : State) :
    (handMotion m s).ptr = s.ptr := by
  unfold handMotion; dsimp only; split <;> simp

@[simp] theorem handMotion_wdc (m : Motion) (s : State) :
    (handMotion m s).wdc = s.wdc := by
  unfold handMotion; dsimp only; split <;> simp

@[simp] theorem handMotion_ptb (m : Motion) (s : State) :
    (handMotion m s).ptb = s.ptb := by
  unfold handMotion; dsimp only; split <;> simp

@[simp] theorem handMotion_lnk (m : Motion) (s : State) :
    (handMotion m s).lnk = s.lnk := by
  unfold handMotion; dsimp only; split <;> simp

@[simp] theorem handMotion_cpr (m : Motion) (s : State) :
    (handMotion m s).cpr = s.cpr := by
  unfold handMotion; dsimp only; split <;> simp

@[simp] theorem handMotion_free (m : Motion) (s : State) :
    (handMotion m s).free = s.free := by
  unfold handMotion; dsimp only; split <;> simp

@[simp] theorem handMotion_pending (m : Motion) (s : State) :
    (handMotion m s).pending = s.pending := by
  unfold handMotion; dsimp only; split <;> simp

@[simp] theorem handMotion_fmo_snapshot (m : Motion) (s : State) :
    (handMotion m s).fmo.snapshot = s.fmo.snapshot := by
  unfold handMotion; dsimp only; split <;> simp

@[simp] theorem handMotion_fmo_armed (m : Motion) (s : State) :
    (handMotion m s).fmo.armed = s.fmo.armed := by
  unfold handMotion; dsimp only; split <;> simp

@[simp] theorem handDueTool_pins (due : Bool) (c : Channel) (s : State) :
    (handDueTool due c s).pins = s.pins := by
  unfold handDueTool; split <;> rfl

@[simp] theorem handDueTool_cfe (due : Bool) (c : Channel) (s : State) :
    (handDueTool due c s).cfe = s.cfe := by
  unfold handDueTool; split <;> rfl

@[simp] theorem handDueTool_fts (due : Bool) (c : Channel) (s : State) :
    (handDueTool due c s).fts = s.fts := by
  unfold handDueTool; split <;> rfl

@[simp] theorem handDueTool_bpl (due : Bool) (c : Channel) (s : State) :
    (handDueTool due c s).bpl = s.bpl := by
  unfold handDueTool; split <;> rfl

@[simp] theorem handDueTool_ptr (due : Bool) (c : Channel) (s : State) :
    (handDueTool due c s).ptr = s.ptr := by
  unfold handDueTool; split <;> rfl

@[simp] theorem handDueTool_wdc (due : Bool) (c : Channel) (s : State) :
    (handDueTool due c s).wdc = s.wdc := by
  unfold handDueTool; split <;> rfl

@[simp] theorem handDueTool_ptb (due : Bool) (c : Channel) (s : State) :
    (handDueTool due c s).ptb = s.ptb := by
  unfold handDueTool; split <;> rfl

@[simp] theorem handDueTool_fmo (due : Bool) (c : Channel) (s : State) :
    (handDueTool due c s).fmo = s.fmo := by
  unfold handDueTool; split <;> rfl

@[simp] theorem handDueTool_lnk (due : Bool) (c : Channel) (s : State) :
    (handDueTool due c s).lnk = s.lnk := by
  unfold handDueTool; split <;> rfl

@[simp] theorem handDueTool_cpr (due : Bool) (c : Channel) (s : State) :
    (handDueTool due c s).cpr = s.cpr := by
  unfold handDueTool; split <;> rfl

@[simp] theorem handDueTool_free (due : Bool) (c : Channel) (s : State) :
    (handDueTool due c s).free = s.free := by
  unfold handDueTool; split <;> rfl

@[simp] theorem handDueTool_pending (due : Bool) (c : Channel) (s : State) :
    (handDueTool due c s).pending = s.pending := by
  unfold handDueTool; split <;> rfl

@[simp] theorem reportSample_pins (c : Channel) (sm : Sample) (twin rel : Bool) (s : State) :
    (reportSample c sm twin rel s).pins = s.pins := by
  simp [reportSample]

@[simp] theorem reportSample_cfe (c : Channel) (sm : Sample) (twin rel : Bool) (s : State) :
    (reportSample c sm twin rel s).cfe = s.cfe := by
  simp [reportSample]

@[simp] theorem reportSample_fts (c : Channel) (sm : Sample) (twin rel : Bool) (s : State) :
    (reportSample c sm twin rel s).fts = s.fts := by
  simp [reportSample]

@[simp] theorem reportSample_bpl (c : Channel) (sm : Sample) (twin rel : Bool) (s : State) :
    (reportSample c sm twin rel s).bpl = s.bpl := by
  simp [reportSample]

@[simp] theorem reportSample_wdc (c : Channel) (sm : Sample) (twin rel : Bool) (s : State) :
    (reportSample c sm twin rel s).wdc = s.wdc := by
  simp [reportSample]

@[simp] theorem reportSample_ptb (c : Channel) (sm : Sample) (twin rel : Bool) (s : State) :
    (reportSample c sm twin rel s).ptb = s.ptb := by
  simp [reportSample]

@[simp] theorem reportSample_lnk (c : Channel) (sm : Sample) (twin rel : Bool) (s : State) :
    (reportSample c sm twin rel s).lnk = s.lnk := by
  simp [reportSample]

@[simp] theorem reportSample_cpr (c : Channel) (sm : Sample) (twin rel : Bool) (s : State) :
    (reportSample c sm twin rel s).cpr = s.cpr := by
  simp [reportSample]

@[simp] theorem reportSample_free (c : Channel) (sm : Sample) (twin rel : Bool) (s : State) :
    (reportSample c sm twin rel s).free = s.free := by
  simp [reportSample]

@[simp] theorem reportSample_pending (c : Channel) (sm : Sample) (twin rel : Bool) (s : State) :
    (reportSample c sm twin rel s).pending = s.pending := by
  simp [reportSample]

@[simp] theorem reportSample_ptr_enabled (c : Channel) (sm : Sample) (twin rel : Bool) (s : State) :
    (reportSample c sm twin rel s).ptr.enabled = s.ptr.enabled := by
  simp [reportSample]

@[simp] theorem reportSample_ptr_records (c : Channel) (sm : Sample) (twin rel : Bool) (s : State) :
    (reportSample c sm twin rel s).ptr.records = s.ptr.records := by
  simp [reportSample]

@[simp] theorem reportSample_fmo_snapshot (c : Channel) (sm : Sample) (twin rel : Bool) (s : State) :
    (reportSample c sm twin rel s).fmo.snapshot = s.fmo.snapshot := by
  simp [reportSample]

@[simp] theorem reportSample_fmo_armed (c : Channel) (sm : Sample) (twin rel : Bool) (s : State) :
    (reportSample c sm twin rel s).fmo.armed = s.fmo.armed := by
  simp [reportSample]

@[simp] theorem sampleSlot_pins (c : Channel) (v : HitView) (s : State) :
    ((sampleSlot c v s).1).pins = s.pins := by
  simp [sampleSlot]

@[simp] theorem sampleSlot_cfe (c : Channel) (v : HitView) (s : State) :
    ((sampleSlot c v s).1).cfe = s.cfe := by
  simp [sampleSlot]

@[simp] theorem sampleSlot_fts (c : Channel) (v : HitView) (s : State) :
    ((sampleSlot c v s).1).fts = s.fts := by
  simp [sampleSlot]

@[simp] theorem sampleSlot_bpl (c : Channel) (v : HitView) (s : State) :
    ((sampleSlot c v s).1).bpl = s.bpl := by
  simp [sampleSlot]

@[simp] theorem sampleSlot_wdc (c : Channel) (v : HitView) (s : State) :
    ((sampleSlot c v s).1).wdc = s.wdc := by
  simp [sampleSlot]

@[simp] theorem sampleSlot_ptb (c : Channel) (v : HitView) (s : State) :
    ((sampleSlot c v s).1).ptb = s.ptb := by
  simp [sampleSlot]

@[simp] theorem sampleSlot_rqu (c : Channel) (v : HitView) (s : State) :
    ((sampleSlot c v s).1).rqu = s.rqu := by
  simp [sampleSlot]

@[simp] theorem sampleSlot_fmo (c : Channel) (v : HitView) (s : State) :
    ((sampleSlot c v s).1).fmo = s.fmo := by
  simp [sampleSlot]

@[simp] theorem sampleSlot_lnk (c : Channel) (v : HitView) (s : State) :
    ((sampleSlot c v s).1).lnk = s.lnk := by
  simp [sampleSlot]

@[simp] theorem sampleSlot_cpr (c : Channel) (v : HitView) (s : State) :
    ((sampleSlot c v s).1).cpr = s.cpr := by
  simp [sampleSlot]

@[simp] theorem sampleSlot_free (c : Channel) (v : HitView) (s : State) :
    ((sampleSlot c v s).1).free = s.free := by
  simp [sampleSlot]

@[simp] theorem sampleSlot_pending (c : Channel) (v : HitView) (s : State) :
    ((sampleSlot c v s).1).pending = s.pending := by
  simp [sampleSlot]

@[simp] theorem sampleSlot_ptr_enabled (c : Channel) (v : HitView) (s : State) :
    ((sampleSlot c v s).1).ptr.enabled = s.ptr.enabled := by
  simp [sampleSlot]

@[simp] theorem sampleSlot_ptr_records (c : Channel) (v : HitView) (s : State) :
    ((sampleSlot c v s).1).ptr.records = s.ptr.records := by
  simp [sampleSlot]

@[simp] theorem closeTrack_pins (c : Channel) (sm : Option Sample) (twin due : Bool) (s : State) :
    (closeTrack c sm twin due s).pins = s.pins := by
  unfold closeTrack; dsimp only; split
  · simp
  · split <;> simp

@[simp] theorem closeTrack_cfe (c : Channel) (sm : Option Sample) (twin due : Bool) (s : State) :
    (closeTrack c sm twin due s).cfe = s.cfe := by
  unfold closeTrack; dsimp only; split
  · simp
  · split <;> simp

@[simp] theorem closeTrack_fts (c : Channel) (sm : Option Sample) (twin due : Bool) (s : State) :
    (closeTrack c sm twin due s).fts = s.fts := by
  unfold closeTrack; dsimp only; split
  · simp
  · split <;> simp

@[simp] theorem closeTrack_bpl (c : Channel) (sm : Option Sample) (twin due : Bool) (s : State) :
    (closeTrack c sm twin due s).bpl = s.bpl := by
  unfold closeTrack; dsimp only; split
  · simp
  · split <;> simp

@[simp] theorem closeTrack_wdc (c : Channel) (sm : Option Sample) (twin due : Bool) (s : State) :
    (closeTrack c sm twin due s).wdc = s.wdc := by
  unfold closeTrack; dsimp only; split
  · simp
  · split <;> simp

@[simp] theorem closeTrack_ptb (c : Channel) (sm : Option Sample) (twin due : Bool) (s : State) :
    (closeTrack c sm twin due s).ptb = s.ptb := by
  unfold closeTrack; dsimp only; split
  · simp
  · split <;> simp

@[simp] theorem closeTrack_lnk (c : Channel) (sm : Option Sample) (twin due : Bool) (s : State) :
    (closeTrack c sm twin due s).lnk = s.lnk := by
  unfold closeTrack; dsimp only; split
  · simp
  · split <;> simp

@[simp] theorem closeTrack_cpr (c : Channel) (sm : Option Sample) (twin due : Bool) (s : State) :
    (closeTrack c sm twin due s).cpr = s.cpr := by
  unfold closeTrack; dsimp only; split
  · simp
  · split <;> simp

@[simp] theorem closeTrack_free (c : Channel) (sm : Option Sample) (twin due : Bool) (s : State) :
    (closeTrack c sm twin due s).free = s.free := by
  unfold closeTrack; dsimp only; split
  · simp
  · split <;> simp

@[simp] theorem closeTrack_pending (c : Channel) (sm : Option Sample) (twin due : Bool) (s : State) :
    (closeTrack c sm twin due s).pending = s.pending := by
  unfold closeTrack; dsimp only; split
  · simp
  · split <;> simp

@[simp] theorem closeTrack_ptr_enabled (c : Channel) (sm : Option Sample) (twin due : Bool) (s : State) :
    (closeTrack c sm twin due s).ptr.enabled = s.ptr.enabled := by
  unfold closeTrack; dsimp only; split
  · simp
  · split <;> simp

@[simp] theorem closeTrack_ptr_records (c : Channel) (sm : Option Sample) (twin due : Bool) (s : State) :
    (closeTrack c sm twin due s).ptr.records = s.ptr.records := by
  unfold closeTrack; dsimp only; split
  · simp
  · split <;> simp

@[simp] theorem closeTrack_fmo_snapshot (c : Channel) (sm : Option Sample) (twin due : Bool) (s : State) :
    (closeTrack c sm twin due s).fmo.snapshot = s.fmo.snapshot := by
  unfold closeTrack; dsimp only; split
  · simp
  · split <;> simp

@[simp] theorem closeTrack_fmo_armed (c : Channel) (sm : Option Sample) (twin due : Bool) (s : State) :
    (closeTrack c sm twin due s).fmo.armed = s.fmo.armed := by
  unfold closeTrack; dsimp only; split
  · simp
  · split <;> simp

@[simp] theorem enterTrack_pins (c : Channel) (v : HitView) (twin due : Bool) (s : State) :
    (enterTrack c v twin due s).pins = s.pins := by simp [enterTrack]

@[simp] theorem enterTrack_cfe (c : Channel) (v : HitView) (twin due : Bool) (s : State) :
    (enterTrack c v twin due s).cfe = s.cfe := by simp [enterTrack]

@[simp] theorem enterTrack_fts (c : Channel) (v : HitView) (twin due : Bool) (s : State) :
    (enterTrack c v twin due s).fts = s.fts := by simp [enterTrack]

@[simp] theorem enterTrack_bpl (c : Channel) (v : HitView) (twin due : Bool) (s : State) :
    (enterTrack c v twin due s).bpl = s.bpl := by simp [enterTrack]

@[simp] theorem enterTrack_wdc (c : Channel) (v : HitView) (twin due : Bool) (s : State) :
    (enterTrack c v twin due s).wdc = s.wdc := by simp [enterTrack]

@[simp] theorem enterTrack_ptb (c : Channel) (v : HitView) (twin due : Bool) (s : State) :
    (enterTrack c v twin due s).ptb = s.ptb := by simp [enterTrack]

@[simp] theorem enterTrack_lnk (c : Channel) (v : HitView) (twin due : Bool) (s : State) :
    (enterTrack c v twin due s).lnk = s.lnk := by simp [enterTrack]

@[simp] theorem enterTrack_cpr (c : Channel) (v : HitView) (twin due : Bool) (s : State) :
    (enterTrack c v twin due s).cpr = s.cpr := by simp [enterTrack]

@[simp] theorem enterTrack_free (c : Channel) (v : HitView) (twin due : Bool) (s : State) :
    (enterTrack c v twin due s).free = s.free := by simp [enterTrack]

@[simp] theorem enterTrack_pending (c : Channel) (v : HitView) (twin due : Bool) (s : State) :
    (enterTrack c v twin due s).pending = s.pending := by simp [enterTrack]

@[simp] theorem enterTrack_ptr_enabled (c : Channel) (v : HitView) (twin due : Bool) (s : State) :
    (enterTrack c v twin due s).ptr.enabled = s.ptr.enabled := by simp [enterTrack]

@[simp] theorem enterTrack_ptr_records (c : Channel) (v : HitView) (twin due : Bool) (s : State) :
    (enterTrack c v twin due s).ptr.records = s.ptr.records := by simp [enterTrack]

@[simp] theorem enterTrack_fmo_snapshot (c : Channel) (v : HitView) (twin due : Bool) (s : State) :
    (enterTrack c v twin due s).fmo.snapshot = s.fmo.snapshot := by simp [enterTrack]

@[simp] theorem enterTrack_fmo_armed (c : Channel) (v : HitView) (twin due : Bool) (s : State) :
    (enterTrack c v twin due s).fmo.armed = s.fmo.armed := by simp [enterTrack]

@[simp] theorem closeConfirm_pins (c : Channel) (v : HitView) (twin due : Bool) (s : State) :
    (closeConfirm c v twin due s).pins = s.pins := by
  unfold closeConfirm; dsimp only; split
  · split <;> simp
  · simp

@[simp] theorem closeConfirm_cfe (c : Channel) (v : HitView) (twin due : Bool) (s : State) :
    (closeConfirm c v twin due s).cfe = s.cfe := by
  unfold closeConfirm; dsimp only; split
  · split <;> simp
  · simp

@[simp] theorem closeConfirm_fts (c : Channel) (v : HitView) (twin due : Bool) (s : State) :
    (closeConfirm c v twin due s).fts = s.fts := by
  unfold closeConfirm; dsimp only; split
  · split <;> simp
  · simp

@[simp] theorem closeConfirm_bpl (c : Channel) (v : HitView) (twin due : Bool) (s : State) :
    (closeConfirm c v twin due s).bpl = s.bpl := by
  unfold closeConfirm; dsimp only; split
  · split <;> simp
  · simp

@[simp] theorem closeConfirm_wdc (c : Channel) (v : HitView) (twin due : Bool) (s : State) :
    (closeConfirm c v twin due s).wdc = s.wdc := by
  unfold closeConfirm; dsimp only; split
  · split <;> simp
  · simp

@[simp] theorem closeConfirm_ptb (c : Channel) (v : HitView) (twin due : Bool) (s : State) :
    (closeConfirm c v twin due s).ptb = s.ptb := by
  unfold closeConfirm; dsimp only; split
  · split <;> simp
  · simp

@[simp] theorem closeConfirm_lnk (c : Channel) (v : HitView) (twin due : Bool) (s : State) :
    (closeConfirm c v twin due s).lnk = s.lnk := by
  unfold closeConfirm; dsimp only; split
  · split <;> simp
  · simp

@[simp] theorem closeConfirm_cpr (c : Channel) (v : HitView) (twin due : Bool) (s : State) :
    (closeConfirm c v twin due s).cpr = s.cpr := by
  unfold closeConfirm; dsimp only; split
  · split <;> simp
  · simp

@[simp] theorem closeConfirm_free (c : Channel) (v : HitView) (twin due : Bool) (s : State) :
    (closeConfirm c v twin due s).free = s.free := by
  unfold closeConfirm; dsimp only; split
  · split <;> simp
  · simp

@[simp] theorem closeConfirm_pending (c : Channel) (v : HitView) (twin due : Bool) (s : State) :
    (closeConfirm c v twin due s).pending = s.pending := by
  unfold closeConfirm; dsimp only; split
  · split <;> simp
  · simp

@[simp] theorem closeConfirm_ptr_enabled (c : Channel) (v : HitView) (twin due : Bool) (s : State) :
    (closeConfirm c v twin due s).ptr.enabled = s.ptr.enabled := by
  unfold closeConfirm; dsimp only; split
  · split <;> simp
  · simp

@[simp] theorem closeConfirm_ptr_records (c : Channel) (v : HitView) (twin due : Bool) (s : State) :
    (closeConfirm c v twin due s).ptr.records = s.ptr.records := by
  unfold closeConfirm; dsimp only; split
  · split <;> simp
  · simp

@[simp] theorem closeConfirm_fmo_snapshot (c : Channel) (v : HitView) (twin due : Bool) (s : State) :
    (closeConfirm c v twin due s).fmo.snapshot = s.fmo.snapshot := by
  unfold closeConfirm; dsimp only; split
  · split <;> simp
  · simp

@[simp] theorem closeConfirm_fmo_armed (c : Channel) (v : HitView) (twin due : Bool) (s : State) :
    (closeConfirm c v twin due s).fmo.armed = s.fmo.armed := by
  unfold closeConfirm; dsimp only; split
  · split <;> simp
  · simp

@[simp] theorem closeHit_pins (c : Channel) (v : HitView) (twin due : Bool) (s : State) :
    (closeHit c v twin due s).pins = s.pins := by
  unfold closeHit; dsimp only; split <;> simp

@[simp] theorem closeHit_cfe (c : Channel) (v : HitView) (twin due : Bool) (s : State) :
    (closeHit c v twin due s).cfe = s.cfe := by
  unfold closeHit; dsimp only; split <;> simp

@[simp] theorem closeHit_fts (c : Channel) (v : HitView) (twin due : Bool) (s : State) :
    (closeHit c v twin due s).fts = s.fts := by
  unfold closeHit; dsimp only; split <;> simp

@[simp] theorem closeHit_bpl (c : Channel) (v : HitView) (twin due : Bool) (s : State) :
    (closeHit c v twin due s).bpl = s.bpl := by
  unfold closeHit; dsimp only; split <;> simp

@[simp] theorem closeHit_wdc (c : Channel) (v : HitView) (twin due : Bool) (s : State) :
    (closeHit c v twin due s).wdc = s.wdc := by
  unfold closeHit; dsimp only; split <;> simp

@[simp] theorem closeHit_ptb (c : Channel) (v : HitView) (twin due : Bool) (s : State) :
    (closeHit c v twin due s).ptb = s.ptb := by
  unfold closeHit; dsimp only; split <;> simp

@[simp] theorem closeHit_lnk (c : Channel) (v : HitView) (twin due : Bool) (s : State) :
    (closeHit c v twin due s).lnk = s.lnk := by
  unfold closeHit; dsimp only; split <;> simp

@[simp] theorem closeHit_cpr (c : Channel) (v : HitView) (twin due : Bool) (s : State) :
    (closeHit c v twin due s).cpr = s.cpr := by
  unfold closeHit; dsimp only; split <;> simp

@[simp] theorem closeHit_free (c : Channel) (v : HitView) (twin due : Bool) (s : State) :
    (closeHit c v twin due s).free = s.free := by
  unfold closeHit; dsimp only; split <;> simp

@[simp] theorem closeHit_pending (c : Channel) (v : HitView) (twin due : Bool) (s : State) :
    (closeHit c v twin due s).pending = s.pending := by
  unfold closeHit; dsimp only; split <;> simp

@[simp] theorem closeHit_ptr_enabled (c : Channel) (v : HitView) (twin due : Bool) (s : State) :
    (closeHit c v twin due s).ptr.enabled = s.ptr.enabled := by
  unfold closeHit; dsimp only; split <;> simp

@[simp] theorem closeHit_ptr_records (c : Channel) (v : HitView) (twin due : Bool) (s : State) :
    (closeHit c v twin due s).ptr.records = s.ptr.records := by
  unfold closeHit; dsimp only; split <;> simp

@[simp] theorem closeHit_fmo_snapshot (c : Channel) (v : HitView) (twin due : Bool) (s : State) :
    (closeHit c v twin due s).fmo.snapshot = s.fmo.snapshot := by
  unfold closeHit; dsimp only; split <;> simp

@[simp] theorem closeHit_fmo_armed (c : Channel) (v : HitView) (twin due : Bool) (s : State) :
    (closeHit c v twin due s).fmo.armed = s.fmo.armed := by
  unfold closeHit; dsimp only; split <;> simp

@[simp] theorem closeMiss_pins (c : Channel) (due : Bool) (s : State) :
    (closeMiss c due s).pins = s.pins := by
  unfold closeMiss; split <;> simp

@[simp] theorem closeMiss_cfe (c : Channel) (due : Bool) (s : State) :
    (closeMiss c due s).cfe = s.cfe := by
  unfold closeMiss; split <;> simp

@[simp] theorem closeMiss_fts (c : Channel) (due : Bool) (s : State) :
    (closeMiss c due s).fts = s.fts := by
  unfold closeMiss; split <;> simp

@[simp] theorem closeMiss_bpl (c : Channel) (due : Bool) (s : State) :
    (closeMiss c due s).bpl = s.bpl := by
  unfold closeMiss; split <;> simp

@[simp] theorem closeMiss_wdc (c : Channel) (due : Bool) (s : State) :
    (closeMiss c due s).wdc = s.wdc := by
  unfold closeMiss; split <;> simp

@[simp] theorem closeMiss_ptb (c : Channel) (due : Bool) (s : State) :
    (closeMiss c due s).ptb = s.ptb := by
  unfold closeMiss; split <;> simp

@[simp] theorem closeMiss_lnk (c : Channel) (due : Bool) (s : State) :
    (closeMiss c due s).lnk = s.lnk := by
  unfold closeMiss; split <;> simp

@[simp] theorem closeMiss_cpr (c : Channel) (due : Bool) (s : State) :
    (closeMiss c due s).cpr = s.cpr := by
  unfold closeMiss; split <;> simp

@[simp] theorem closeMiss_free (c : Channel) (due : Bool) (s : State) :
    (closeMiss c due s).free = s.free := by
  unfold closeMiss; split <;> simp

@[simp] theorem closeMiss_pending (c : Channel) (due : Bool) (s : State) :
    (closeMiss c due s).pending = s.pending := by
  unfold closeMiss; split <;> simp

@[simp] theorem closeMiss_ptr_enabled (c : Channel) (due : Bool) (s : State) :
    (closeMiss c due s).ptr.enabled = s.ptr.enabled := by
  unfold closeMiss; split <;> simp

@[simp] theorem closeMiss_ptr_records (c : Channel) (due : Bool) (s : State) :
    (closeMiss c due s).ptr.records = s.ptr.records := by
  unfold closeMiss; split <;> simp

@[simp] theorem closeMiss_fmo_snapshot (c : Channel) (due : Bool) (s : State) :
    (closeMiss c due s).fmo.snapshot = s.fmo.snapshot := by
  unfold closeMiss; split <;> simp

@[simp] theorem closeMiss_fmo_armed (c : Channel) (due : Bool) (s : State) :
    (closeMiss c due s).fmo.armed = s.fmo.armed := by
  unfold closeMiss; split <;> simp

@[simp] theorem closePen_pins (c : Channel) (w : WindowRec) (p : Option Nat) (s : State) :
    (closePen c w p s).pins = s.pins := by
  unfold closePen; dsimp only; split <;> (split <;> simp)

@[simp] theorem closePen_cfe (c : Channel) (w : WindowRec) (p : Option Nat) (s : State) :
    (closePen c w p s).cfe = s.cfe := by
  unfold closePen; dsimp only; split <;> (split <;> simp)

@[simp] theorem closePen_fts (c : Channel) (w : WindowRec) (p : Option Nat) (s : State) :
    (closePen c w p s).fts = s.fts := by
  unfold closePen; dsimp only; split <;> (split <;> simp)

@[simp] theorem closePen_bpl (c : Channel) (w : WindowRec) (p : Option Nat) (s : State) :
    (closePen c w p s).bpl = s.bpl := by
  unfold closePen; dsimp only; split <;> (split <;> simp)

@[simp] theorem closePen_wdc (c : Channel) (w : WindowRec) (p : Option Nat) (s : State) :
    (closePen c w p s).wdc = s.wdc := by
  unfold closePen; dsimp only; split <;> (split <;> simp)

@[simp] theorem closePen_ptb (c : Channel) (w : WindowRec) (p : Option Nat) (s : State) :
    (closePen c w p s).ptb = s.ptb := by
  unfold closePen; dsimp only; split <;> (split <;> simp)

@[simp] theorem closePen_lnk (c : Channel) (w : WindowRec) (p : Option Nat) (s : State) :
    (closePen c w p s).lnk = s.lnk := by
  unfold closePen; dsimp only; split <;> (split <;> simp)

@[simp] theorem closePen_cpr (c : Channel) (w : WindowRec) (p : Option Nat) (s : State) :
    (closePen c w p s).cpr = s.cpr := by
  unfold closePen; dsimp only; split <;> (split <;> simp)

@[simp] theorem closePen_free (c : Channel) (w : WindowRec) (p : Option Nat) (s : State) :
    (closePen c w p s).free = s.free := by
  unfold closePen; dsimp only; split <;> (split <;> simp)

@[simp] theorem closePen_pending (c : Channel) (w : WindowRec) (p : Option Nat) (s : State) :
    (closePen c w p s).pending = s.pending := by
  unfold closePen; dsimp only; split <;> (split <;> simp)

@[simp] theorem closePen_ptr_enabled (c : Channel) (w : WindowRec) (p : Option Nat) (s : State) :
    (closePen c w p s).ptr.enabled = s.ptr.enabled := by
  unfold closePen; dsimp only; split <;> (split <;> simp)

@[simp] theorem closePen_ptr_records (c : Channel) (w : WindowRec) (p : Option Nat) (s : State) :
    (closePen c w p s).ptr.records = s.ptr.records := by
  unfold closePen; dsimp only; split <;> (split <;> simp)

@[simp] theorem closePen_fmo_snapshot (c : Channel) (w : WindowRec) (p : Option Nat) (s : State) :
    (closePen c w p s).fmo.snapshot = s.fmo.snapshot := by
  unfold closePen; dsimp only; split <;> (split <;> simp)

@[simp] theorem closeActive_pins (c : Channel) (s : State) :
    (closeActive c s).pins = s.pins := by
  unfold closeActive; split <;> simp

@[simp] theorem closeActive_cfe (c : Channel) (s : State) :
    (closeActive c s).cfe = s.cfe := by
  unfold closeActive; split <;> simp

@[simp] theorem closeActive_fts (c : Channel) (s : State) :
    (closeActive c s).fts = s.fts := by
  unfold closeActive; split <;> simp

@[simp] theorem closeActive_bpl (c : Channel) (s : State) :
    (closeActive c s).bpl = s.bpl := by
  unfold closeActive; split <;> simp

@[simp] theorem closeActive_wdc (c : Channel) (s : State) :
    (closeActive c s).wdc = s.wdc := by
  unfold closeActive; split <;> simp

@[simp] theorem closeActive_ptb (c : Channel) (s : State) :
    (closeActive c s).ptb = s.ptb := by
  unfold closeActive; split <;> simp

@[simp] theorem closeActive_lnk (c : Channel) (s : State) :
    (closeActive c s).lnk = s.lnk := by
  unfold closeActive; split <;> simp

@[simp] theorem closeActive_cpr (c : Channel) (s : State) :
    (closeActive c s).cpr = s.cpr := by
  unfold closeActive; split <;> simp

@[simp] theorem closeActive_free (c : Channel) (s : State) :
    (closeActive c s).free = s.free := by
  unfold closeActive; split <;> simp

@[simp] theorem closeActive_pending (c : Channel) (s : State) :
    (closeActive c s).pending = s.pending := by
  unfold closeActive; split <;> simp

@[simp] theorem closeActive_ptr_enabled (c : Channel) (s : State) :
    (closeActive c s).ptr.enabled = s.ptr.enabled := by
  unfold closeActive; split <;> simp

@[simp] theorem closeActive_ptr_records (c : Channel) (s : State) :
    (closeActive c s).ptr.records = s.ptr.records := by
  unfold closeActive; split <;> simp

@[simp] theorem closeActive_fmo_snapshot (c : Channel) (s : State) :
    (closeActive c s).fmo.snapshot = s.fmo.snapshot := by
  unfold closeActive; split <;> simp

@[simp] theorem closeSlot_pins (s : State) (c : Channel) :
    (closeSlot s c).pins = s.pins := by
  unfold closeSlot; split <;> simp

@[simp] theorem closeSlot_cfe (s : State) (c : Channel) :
    (closeSlot s c).cfe = s.cfe := by
  unfold closeSlot; split <;> simp

@[simp] theorem closeSlot_fts (s : State) (c : Channel) :
    (closeSlot s c).fts = s.fts := by
  unfold closeSlot; split <;> simp

@[simp] theorem closeSlot_bpl (s : State) (c : Channel) :
    (closeSlot s c).bpl = s.bpl := by
  unfold closeSlot; split <;> simp

@[simp] theorem closeSlot_wdc (s : State) (c : Channel) :
    (closeSlot s c).wdc = s.wdc := by
  unfold closeSlot; split <;> simp

@[simp] theorem closeSlot_ptb (s : State) (c : Channel) :
    (closeSlot s c).ptb = s.ptb := by
  unfold closeSlot; split <;> simp

@[simp] theorem closeSlot_lnk (s : State) (c : Channel) :
    (closeSlot s c).lnk = s.lnk := by
  unfold closeSlot; split <;> simp

@[simp] theorem closeSlot_cpr (s : State) (c : Channel) :
    (closeSlot s c).cpr = s.cpr := by
  unfold closeSlot; split <;> simp

@[simp] theorem closeSlot_free (s : State) (c : Channel) :
    (closeSlot s c).free = s.free := by
  unfold closeSlot; split <;> simp

@[simp] theorem closeSlot_pending (s : State) (c : Channel) :
    (closeSlot s c).pending = s.pending := by
  unfold closeSlot; split <;> simp

@[simp] theorem closeSlot_ptr_enabled (s : State) (c : Channel) :
    (closeSlot s c).ptr.enabled = s.ptr.enabled := by
  unfold closeSlot; split <;> simp

@[simp] theorem closeSlot_ptr_records (s : State) (c : Channel) :
    (closeSlot s c).ptr.records = s.ptr.records := by
  unfold closeSlot; split <;> simp

@[simp] theorem closeSlot_fmo_snapshot (s : State) (c : Channel) :
    (closeSlot s c).fmo.snapshot = s.fmo.snapshot := by
  unfold closeSlot; split <;> simp

@[simp] theorem closeSlots_pins (s : State) :
    (closeSlots s).pins = s.pins := by simp [closeSlots, Channel.all]

@[simp] theorem closeSlots_cfe (s : State) :
    (closeSlots s).cfe = s.cfe := by simp [closeSlots, Channel.all]

@[simp] theorem closeSlots_fts (s : State) :
    (closeSlots s).fts = s.fts := by simp [closeSlots, Channel.all]

@[simp] theorem closeSlots_bpl (s : State) :
    (closeSlots s).bpl = s.bpl := by simp [closeSlots, Channel.all]

@[simp] theorem closeSlots_wdc (s : State) :
    (closeSlots s).wdc = s.wdc := by simp [closeSlots, Channel.all]

@[simp] theorem closeSlots_ptb (s : State) :
    (closeSlots s).ptb = s.ptb := by simp [closeSlots, Channel.all]

@[simp] theorem closeSlots_lnk (s : State) :
    (closeSlots s).lnk = s.lnk := by simp [closeSlots, Channel.all]

@[simp] theorem closeSlots_cpr (s : State) :
    (closeSlots s).cpr = s.cpr := by simp [closeSlots, Channel.all]

@[simp] theorem closeSlots_free (s : State) :
    (closeSlots s).free = s.free := by simp [closeSlots, Channel.all]

@[simp] theorem closeSlots_pending (s : State) :
    (closeSlots s).pending = s.pending := by simp [closeSlots, Channel.all]

@[simp] theorem closeSlots_ptr_enabled (s : State) :
    (closeSlots s).ptr.enabled = s.ptr.enabled := by simp [closeSlots, Channel.all]

@[simp] theorem closeSlots_ptr_records (s : State) :
    (closeSlots s).ptr.records = s.ptr.records := by simp [closeSlots, Channel.all]

@[simp] theorem closeSlots_fmo_snapshot (s : State) :
    (closeSlots s).fmo.snapshot = s.fmo.snapshot := by simp [closeSlots, Channel.all]

/-! ### Each slot's close is its own -/

@[simp] theorem closeSearch_other (c d : Channel) (s : State) (h : d ≠ c) :
    (closeSearch c s).slot d = s.slot d := by
  unfold closeSearch; split <;> simp [h]

@[simp] theorem handBit_other (c d : Channel) (bit : Option Bool) (s : State) (h : d ≠ c) :
    ((handBit c bit s).1).slot d = s.slot d := by
  unfold handBit; dsimp only; split
  · rfl
  · dsimp only; split <;> simp [h]

@[simp] theorem takeTool_other (c d : Channel) (v : Option Nat) (s : State) (h : d ≠ c) :
    ((takeTool c v s).1).slot d = s.slot d := by
  unfold takeTool; dsimp only; split
  · rfl
  · split
    · rfl
    · dsimp only; split <;> simp [h]

@[simp] theorem handMotion_slot (m : Motion) (s : State) (d : Channel) :
    (handMotion m s).slot d = s.slot d := by
  unfold handMotion; dsimp only; split <;> simp

@[simp] theorem handDueTool_slot (due : Bool) (c d : Channel) (s : State) :
    (handDueTool due c s).slot d = s.slot d := by
  unfold handDueTool; split <;> rfl

/-- A reported sample: the raw position becomes the last position (R73). -/
@[simp] theorem reportSample_slot (c d : Channel) (sm : Sample) (twin rel : Bool) (s : State) :
    (reportSample c sm twin rel s).slot d
      = if d = c then reportedSlot sm (s.slot c) else s.slot d := by
  simp [reportSample]

@[simp] theorem sampleSlot_slot (c d : Channel) (v : HitView) (s : State) :
    (sampleSlot c v s).1.slot d = if d = c
      then holdSample (slotProfile s c) (s.slot c) v (sampleSlot c v s).2 else s.slot d := by
  simp [sampleSlot]

@[simp] theorem closeTrack_other (c d : Channel) (sm : Option Sample) (twin due : Bool) (s : State) (h : d ≠ c) :
    (closeTrack c sm twin due s).slot d = s.slot d := by
  unfold closeTrack; dsimp only; split
  · simp [h]
  · split <;> simp [h]

@[simp] theorem enterTrack_other (c d : Channel) (v : HitView) (twin due : Bool) (s : State) (h : d ≠ c) :
    (enterTrack c v twin due s).slot d = s.slot d := by
  simp [enterTrack, h]

@[simp] theorem closeConfirm_other (c d : Channel) (v : HitView) (twin due : Bool) (s : State) (h : d ≠ c) :
    (closeConfirm c v twin due s).slot d = s.slot d := by
  unfold closeConfirm; dsimp only; split
  · split <;> simp [h]
  · simp [h]

@[simp] theorem closeHit_other (c d : Channel) (v : HitView) (twin due : Bool) (s : State) (h : d ≠ c) :
    (closeHit c v twin due s).slot d = s.slot d := by
  unfold closeHit; dsimp only; split <;> simp [h]

@[simp] theorem closeMiss_other (c d : Channel) (due : Bool) (s : State) (h : d ≠ c) :
    (closeMiss c due s).slot d = s.slot d := by
  unfold closeMiss; split <;> simp [h]

@[simp] theorem closePen_other (c d : Channel) (w : WindowRec) (p : Option Nat) (s : State) (h : d ≠ c) :
    (closePen c w p s).slot d = s.slot d := by
  unfold closePen; dsimp only; split <;> (split <;> simp [h])

@[simp] theorem closeActive_other (c d : Channel) (s : State) (h : d ≠ c) :
    (closeActive c s).slot d = s.slot d := by
  unfold closeActive; split <;> simp [h]

@[simp] theorem closeSlot_other (c d : Channel) (s : State) (h : d ≠ c) :
    (closeSlot s c).slot d = s.slot d := by
  unfold closeSlot; split <;> simp [h]

/-! ### What a close resolves (R67 to R70) -/

/-- A close that enters nothing in the miss window makes no loss test (R68). -/
@[simp] theorem lostBy_nil (limit : Nat) (misses : List Bool) : lostBy limit [] misses = false := rfl

/-- At most two outcomes are entered at one close (R70). -/
theorem resolve_entries (jump : Nat) (frame : Half) (last : Int × Int)
    (pendingRel : Option Relocation) (hit : Option (Int × Int)) :
    (resolve jump frame last pendingRel hit).entries.length ≤ 2 := by
  unfold resolve
  split
  · split <;> simp
  · split
    · simp
    · split <;> simp
  · simp
  · simp

/-- A relocation is pending after a close only where the close had a hit it did not report (R69,
R70). -/
theorem resolve_pending (jump : Nat) (frame : Half) (last : Int × Int)
    (pendingRel : Option Relocation) (hit : Option (Int × Int)) (p : Relocation)
    (h : (resolve jump frame last pendingRel hit).pendingRel = some p) :
    hit = some (p.x, p.y) ∧ p.frame = frame
      ∧ (resolve jump frame last pendingRel hit).report = none := by
  unfold resolve at h ⊢
  split at h
  · split at h
    · simp at h
    · rename_i hc
      simp at h; subst h; simp [hc]
  · split at h
    · simp at h
    · rename_i hc
      split at h
      · simp at h
      · rename_i hd
        simp at h; subst h; simp [hc, hd]
  · simp at h
  · simp at h

/-! ### The whole close -/

@[simp] theorem abandonBursts_pins (s : State) :
    (abandonBursts s).pins = s.pins := rfl

@[simp] theorem abandonBursts_fts (s : State) :
    (abandonBursts s).fts = s.fts := rfl

@[simp] theorem abandonBursts_ptr (s : State) :
    (abandonBursts s).ptr = s.ptr := rfl

@[simp] theorem abandonBursts_wdc (s : State) :
    (abandonBursts s).wdc = s.wdc := rfl

@[simp] theorem abandonBursts_ptb (s : State) :
    (abandonBursts s).ptb = s.ptb := rfl

@[simp] theorem abandonBursts_rqu (s : State) :
    (abandonBursts s).rqu = s.rqu := rfl

@[simp] theorem abandonBursts_fmo (s : State) :
    (abandonBursts s).fmo = s.fmo := rfl

@[simp] theorem abandonBursts_lnk (s : State) :
    (abandonBursts s).lnk = s.lnk := rfl

@[simp] theorem abandonBursts_cpr (s : State) :
    (abandonBursts s).cpr = s.cpr := rfl

@[simp] theorem abandonBursts_free (s : State) :
    (abandonBursts s).free = s.free := rfl

@[simp] theorem abandonBursts_pending (s : State) :
    (abandonBursts s).pending = s.pending := rfl

@[simp] theorem abandonBursts_cfe_layout (s : State) :
    (abandonBursts s).cfe.layout = s.cfe.layout := rfl

@[simp] theorem abandonBursts_cfe_fixed (s : State) :
    (abandonBursts s).cfe.fixed = s.cfe.fixed := rfl

@[simp] theorem abandonBursts_cfe_panel (s : State) :
    (abandonBursts s).cfe.panel = s.cfe.panel := rfl

@[simp] theorem abandonBursts_cfe_floor (s : State) :
    (abandonBursts s).cfe.floor = s.cfe.floor := rfl

@[simp] theorem abandonBursts_cfe_threshold (s : State) :
    (abandonBursts s).cfe.threshold = s.cfe.threshold := rfl

@[simp] theorem abandonBursts_bpl_active (s : State) :
    (abandonBursts s).bpl.active = s.bpl.active := rfl

@[simp] theorem abandonBursts_bpl_staged (s : State) :
    (abandonBursts s).bpl.staged = s.bpl.staged := rfl

@[simp] theorem abandonBursts_bpl_budget (s : State) :
    (abandonBursts s).bpl.budget = s.bpl.budget := rfl

@[simp] theorem abandonBursts_bpl_cursor (s : State) :
    (abandonBursts s).bpl.cursor = s.bpl.cursor := rfl

@[simp] theorem abandonBursts_bpl_rotation (s : State) :
    (abandonBursts s).bpl.rotation = s.bpl.rotation := rfl

@[simp] theorem abandonBursts_slot (s : State) (c : Channel) :
    (abandonBursts s).slot c = s.slot c := rfl

/-- Settling the ALERT moves the ALERT alone (R133). -/
theorem settleAlert_queue (had : Bool) (k : Nat) (r : Rqu) :
    (settleAlert had k r).queue = r.queue
      ∨ ∃ q n, q = r.queue.filter (· != .alert)
        ∧ (settleAlert had k r).queue = q.take n ++ .alert :: q.drop n := by
  unfold settleAlert
  split
  · exact .inr ⟨_, _, rfl, rfl⟩
  · exact .inl rfl

@[simp] theorem processClose_pins (had : Bool) (s : State) :
    (processClose had s).pins = s.pins := by simp [processClose, State.drawFree]

@[simp] theorem processClose_cfe (had : Bool) (s : State) :
    (processClose had s).cfe = s.cfe := by simp [processClose, State.drawFree]

@[simp] theorem processClose_fts (had : Bool) (s : State) :
    (processClose had s).fts = s.fts := by simp [processClose, State.drawFree]

@[simp] theorem processClose_bpl (had : Bool) (s : State) :
    (processClose had s).bpl = s.bpl := by simp [processClose, State.drawFree]

@[simp] theorem processClose_wdc (had : Bool) (s : State) :
    (processClose had s).wdc = s.wdc := by simp [processClose, State.drawFree]

@[simp] theorem processClose_ptb (had : Bool) (s : State) :
    (processClose had s).ptb = s.ptb := by simp [processClose, State.drawFree]

@[simp] theorem processClose_lnk (had : Bool) (s : State) :
    (processClose had s).lnk = s.lnk := by simp [processClose, State.drawFree]

@[simp] theorem processClose_cpr (had : Bool) (s : State) :
    (processClose had s).cpr = s.cpr := by simp [processClose, State.drawFree]

@[simp] theorem processClose_pending (had : Bool) (s : State) :
    (processClose had s).pending = s.pending := by simp [processClose, State.drawFree]

@[simp] theorem processClose_ptr_enabled (had : Bool) (s : State) :
    (processClose had s).ptr.enabled = s.ptr.enabled := by simp [processClose, State.drawFree]

@[simp] theorem processClose_ptr_records (had : Bool) (s : State) :
    (processClose had s).ptr.records = s.ptr.records := by simp [processClose, State.drawFree]

@[simp] theorem processClose_fmo_snapshot (had : Bool) (s : State) :
    (processClose had s).fmo.snapshot = s.fmo.snapshot := by simp [processClose, State.drawFree]

@[simp] theorem carryOutStop_pins (s : State) :
    (carryOutStop s).pins = s.pins := by unfold carryOutStop; split <;> simp

@[simp] theorem carryOutStop_cfe (s : State) :
    (carryOutStop s).cfe = s.cfe := by unfold carryOutStop; split <;> simp

@[simp] theorem carryOutStop_wdc (s : State) :
    (carryOutStop s).wdc = s.wdc := by unfold carryOutStop; split <;> simp

@[simp] theorem carryOutStop_ptb (s : State) :
    (carryOutStop s).ptb = s.ptb := by unfold carryOutStop; split <;> simp

@[simp] theorem carryOutStop_fmo (s : State) :
    (carryOutStop s).fmo = s.fmo := by unfold carryOutStop; split <;> simp

@[simp] theorem carryOutStop_lnk (s : State) :
    (carryOutStop s).lnk = s.lnk := by unfold carryOutStop; split <;> simp

@[simp] theorem carryOutStop_cpr (s : State) :
    (carryOutStop s).cpr = s.cpr := by unfold carryOutStop; split <;> simp

@[simp] theorem carryOutStop_free (s : State) :
    (carryOutStop s).free = s.free := by unfold carryOutStop; split <;> simp

@[simp] theorem carryOutStop_pending (s : State) :
    (carryOutStop s).pending = s.pending := by unfold carryOutStop; split <;> simp

@[simp] theorem carryOutStop_ptr_enabled (s : State) :
    (carryOutStop s).ptr.enabled = s.ptr.enabled := by unfold carryOutStop; split <;> simp

@[simp] theorem carryOutStop_ptr_records (s : State) :
    (carryOutStop s).ptr.records = s.ptr.records := by unfold carryOutStop; split <;> simp

@[simp] theorem carryOutStop_bpl_active (s : State) :
    (carryOutStop s).bpl.active = s.bpl.active := by unfold carryOutStop; split <;> simp

@[simp] theorem carryOutStop_bpl_staged (s : State) :
    (carryOutStop s).bpl.staged = s.bpl.staged := by unfold carryOutStop; split <;> simp

@[simp] theorem carryOutStop_bpl_plan (s : State) :
    (carryOutStop s).bpl.plan = s.bpl.plan := by unfold carryOutStop; split <;> simp

@[simp] theorem carryOutStop_bpl_budget (s : State) :
    (carryOutStop s).bpl.budget = s.bpl.budget := by unfold carryOutStop; split <;> simp

@[simp] theorem carryOutStop_bpl_rotation (s : State) :
    (carryOutStop s).bpl.rotation = s.bpl.rotation := by unfold carryOutStop; split <;> simp

@[simp] theorem settleClose_pins (s : State) :
    (settleClose s).pins = s.pins := by
  unfold settleClose; dsimp only; split
  · split <;> simp [State.drawFree]
  · simp

@[simp] theorem settleClose_wdc (s : State) :
    (settleClose s).wdc = s.wdc := by
  unfold settleClose; dsimp only; split
  · split <;> simp [State.drawFree]
  · simp

@[simp] theorem settleClose_ptb (s : State) :
    (settleClose s).ptb = s.ptb := by
  unfold settleClose; dsimp only; split
  · split <;> simp [State.drawFree]
  · simp

@[simp] theorem settleClose_lnk (s : State) :
    (settleClose s).lnk = s.lnk := by
  unfold settleClose; dsimp only; split
  · split <;> simp [State.drawFree]
  · simp

@[simp] theorem settleClose_cpr (s : State) :
    (settleClose s).cpr = s.cpr := by
  unfold settleClose; dsimp only; split
  · split <;> simp [State.drawFree]
  · simp

@[simp] theorem settleClose_pending (s : State) :
    (settleClose s).pending = s.pending := by
  unfold settleClose; dsimp only; split
  · split <;> simp [State.drawFree]
  · simp

@[simp] theorem settleClose_cfe_layout (s : State) :
    (settleClose s).cfe.layout = s.cfe.layout := by
  unfold settleClose; dsimp only; split
  · split <;> simp [State.drawFree]
  · simp

@[simp] theorem settleClose_cfe_fixed (s : State) :
    (settleClose s).cfe.fixed = s.cfe.fixed := by
  unfold settleClose; dsimp only; split
  · split <;> simp [State.drawFree]
  · simp

@[simp] theorem settleClose_cfe_panel (s : State) :
    (settleClose s).cfe.panel = s.cfe.panel := by
  unfold settleClose; dsimp only; split
  · split <;> simp [State.drawFree]
  · simp

@[simp] theorem settleClose_cfe_floor (s : State) :
    (settleClose s).cfe.floor = s.cfe.floor := by
  unfold settleClose; dsimp only; split
  · split <;> simp [State.drawFree]
  · simp

@[simp] theorem settleClose_cfe_threshold (s : State) :
    (settleClose s).cfe.threshold = s.cfe.threshold := by
  unfold settleClose; dsimp only; split
  · split <;> simp [State.drawFree]
  · simp

@[simp] theorem settleClose_bpl_active (s : State) :
    (settleClose s).bpl.active = s.bpl.active := by
  unfold settleClose; dsimp only; split
  · split <;> simp [State.drawFree]
  · simp

@[simp] theorem settleClose_bpl_staged (s : State) :
    (settleClose s).bpl.staged = s.bpl.staged := by
  unfold settleClose; dsimp only; split
  · split <;> simp [State.drawFree]
  · simp

@[simp] theorem settleClose_bpl_rotation (s : State) :
    (settleClose s).bpl.rotation = s.bpl.rotation := by
  unfold settleClose; dsimp only; split
  · split <;> simp [State.drawFree]
  · simp

@[simp] theorem settleClose_ptr_enabled (s : State) :
    (settleClose s).ptr.enabled = s.ptr.enabled := by
  unfold settleClose; dsimp only; split
  · split <;> simp [State.drawFree]
  · simp

@[simp] theorem settleClose_fmo (s : State) :
    (settleClose s).fmo = s.fmo := by
  unfold settleClose; dsimp only; split
  · split <;> simp [State.drawFree]
  · simp

@[simp] theorem closeFrame_pins (s : State) :
    (closeFrame s).pins = s.pins := by
  unfold closeFrame; dsimp only; split <;> (split <;> simp)

@[simp] theorem closeFrame_wdc (s : State) :
    (closeFrame s).wdc = s.wdc := by
  unfold closeFrame; dsimp only; split <;> (split <;> simp)

@[simp] theorem closeFrame_ptb (s : State) :
    (closeFrame s).ptb = s.ptb := by
  unfold closeFrame; dsimp only; split <;> (split <;> simp)

@[simp] theorem closeFrame_lnk (s : State) :
    (closeFrame s).lnk = s.lnk := by
  unfold closeFrame; dsimp only; split <;> (split <;> simp)

@[simp] theorem closeFrame_cpr (s : State) :
    (closeFrame s).cpr = s.cpr := by
  unfold closeFrame; dsimp only; split <;> (split <;> simp)

@[simp] theorem closeFrame_pending (s : State) :
    (closeFrame s).pending = s.pending := by
  unfold closeFrame; dsimp only; split <;> (split <;> simp)

@[simp] theorem closeFrame_cfe_layout (s : State) :
    (closeFrame s).cfe.layout = s.cfe.layout := by
  unfold closeFrame; dsimp only; split <;> (split <;> simp)

@[simp] theorem closeFrame_cfe_fixed (s : State) :
    (closeFrame s).cfe.fixed = s.cfe.fixed := by
  unfold closeFrame; dsimp only; split <;> (split <;> simp)

@[simp] theorem closeFrame_cfe_panel (s : State) :
    (closeFrame s).cfe.panel = s.cfe.panel := by
  unfold closeFrame; dsimp only; split <;> (split <;> simp)

@[simp] theorem closeFrame_cfe_floor (s : State) :
    (closeFrame s).cfe.floor = s.cfe.floor := by
  unfold closeFrame; dsimp only; split <;> (split <;> simp)

@[simp] theorem closeFrame_cfe_threshold (s : State) :
    (closeFrame s).cfe.threshold = s.cfe.threshold := by
  unfold closeFrame; dsimp only; split <;> (split <;> simp)

@[simp] theorem closeFrame_bpl_active (s : State) :
    (closeFrame s).bpl.active = s.bpl.active := by
  unfold closeFrame; dsimp only; split <;> (split <;> simp)

@[simp] theorem closeFrame_bpl_staged (s : State) :
    (closeFrame s).bpl.staged = s.bpl.staged := by
  unfold closeFrame; dsimp only; split <;> (split <;> simp)

@[simp] theorem closeFrame_bpl_rotation (s : State) :
    (closeFrame s).bpl.rotation = s.bpl.rotation := by
  unfold closeFrame; dsimp only; split <;> (split <;> simp)

@[simp] theorem closeFrame_ptr_enabled (s : State) :
    (closeFrame s).ptr.enabled = s.ptr.enabled := by
  unfold closeFrame; dsimp only; split <;> (split <;> simp)

@[simp] theorem closeFrame_fmo_snapshot (s : State) :
    (closeFrame s).fmo.snapshot = s.fmo.snapshot := by
  unfold closeFrame; dsimp only; split <;> (split <;> simp)

/-- A frame that enters nothing leaves the miss window as it is, whatever N now is (R68, R69). -/
@[simp] theorem enterOutcomes_nil (n : Nat) (misses : List Bool) :
    enterOutcomes n [] misses = misses := rfl

/-- After an entry the window holds at most N outcomes (R68). -/
theorem enterOutcomes_length_le (n : Nat) (entries misses : List Bool) (h : entries ≠ []) :
    (enterOutcomes n entries misses).length ≤ n := by
  simp only [enterOutcomes, newest, List.isEmpty_iff, h, if_false, List.length_drop]; omega

/-! ### The word history across a close (R59, R83) -/

/-- The history and the position count of a slot's word sub-record, where it has one. -/
def wordMark (s : State) (c : Channel) : Option (List HistoryEntry × Nat) := (s.slot c).word.map fun x => (x.history, x.count)

theorem reportSample_wordMark (c : Channel) (sm : Sample) (twin rel : Bool) (s : State) : wordMark (reportSample c sm twin rel s) c = wordMark s c := by
  simp [wordMark, reportedSlot, Function.comp_def]
theorem handDueTool_wordMark (due : Bool) (c : Channel) (s : State) : wordMark (handDueTool due c s) c = wordMark s c := by
  simp [wordMark]
theorem sampleSlot_wordMark (v : HitView) (c : Channel) (s : State) : wordMark (sampleSlot c v s).1 c = wordMark s c := by
  simp [wordMark, holdSample]

/-- A close in TRACK keeps the history or, losing the slot, discards it. -/
theorem closeTrack_wordMark (c : Channel) (sm : Option Sample) (twin due : Bool) (s : State) :
    wordMark (closeTrack c sm twin due s) c = none ∨ wordMark (closeTrack c sm twin due s) c = wordMark s c := by
  unfold closeTrack; dsimp only; split
  · left; simp [wordMark, endProximity, endedSlot]
  · right
    split
    · rw [reportSample_wordMark, handDueTool_wordMark]; simp [wordMark]
    · rw [handDueTool_wordMark]; simp [wordMark]

theorem enterTrack_wordMark (c : Channel) (v : HitView) (twin due : Bool) (s : State) :
    wordMark (enterTrack c v twin due s) c = wordMark s c := by
  unfold enterTrack; dsimp only
  rw [reportSample_wordMark, handDueTool_wordMark]
  simp [wordMark, holdSample, beginProximity]

/-- A hit in CONFIRM keeps the history or, beyond the jump limit, discards it. -/
theorem closeConfirm_wordMark (c : Channel) (v : HitView) (twin due : Bool) (s : State) :
    wordMark (closeConfirm c v twin due s) c = none ∨ wordMark (closeConfirm c v twin due s) c = wordMark s c := by
  unfold closeConfirm; dsimp only; split
  · right; split
    · rw [enterTrack_wordMark]; simp [wordMark]
    · simp [wordMark]
  · left; simp [wordMark, dropConfirm]

/-- A hit enters no bit: the sub-record is kept as to its history, or discarded. -/
theorem closeHit_wordMark (c : Channel) (v : HitView) (twin due : Bool) (s : State) :
    wordMark (closeHit c v twin due s) c = none ∨ wordMark (closeHit c v twin due s) c = wordMark s c := by
  have hr : wordMark (s.setSlot c (recentre v.peaks (s.slot c))) c = wordMark s c := by simp [wordMark, recentre]
  unfold closeHit; dsimp only; split
  · have := closeTrack_wordMark c (some (sampleSlot c v (s.setSlot c (recentre v.peaks (s.slot c)))).2) twin due (sampleSlot c v (s.setSlot c (recentre v.peaks (s.slot c)))).1
    rwa [sampleSlot_wordMark, hr] at this
  · rw [← hr]; exact closeConfirm_wordMark ..
  · right; exact hr

/-- A miss enters no bit: the sub-record is kept as to its history, or discarded. -/
theorem closeMiss_wordMark (c : Channel) (due : Bool) (s : State) :
    wordMark (closeMiss c due s) c = none ∨ wordMark (closeMiss c due s) c = wordMark s c := by
  unfold closeMiss; split
  · exact closeTrack_wordMark ..
  · left; simp [wordMark, dropConfirm]
  · right; rfl

theorem takeTool_wordMark (c : Channel) (v : Option Nat) (s : State) : wordMark (takeTool c v s).1 c = wordMark s c := by
  unfold takeTool; dsimp only; split
  · rfl
  · split
    · rfl
    · dsimp only; split <;> simp [wordMark]

/-! ### A hit's steps, and the MOTION of its sample -/

/-- The slot once its bit has been handed (R83, R84). -/
theorem handBit_slot (c : Channel) (bit : Option Bool) (s : State) :
    (handBit c bit s).1.slot c = { s.slot c with
      word := (s.slot c).word.map fun u =>
        (decodeBit s.wdc (bit.map (· != s.fmo.armed.collarFlip.get c)) u).1 } := by
  unfold handBit; dsimp only
  cases h : (s.slot c).word with
  | none =>
    show s.slot c = _
    rcases hs : s.slot c with ⟨⟩
    rw [hs] at h; subst h; rfl
  | some u => simp [flipBit]

/-- The bound record of a tool ID is its tool record's, or none (R128). -/
theorem boundOf_some (t : Ptb) (id : Nat) :
    boundOf t (some id) = if (toolRecord t id).isSome then some id else none := by
  unfold boundOf toolRecord
  by_cases h : t.tools.any (·.1 = id) = true
  · have : (t.tools.find? (·.1 = id)).isSome = true := by rw [List.find?_isSome]; simpa using h
    simp [Option.filter, h, this]
  · have : (t.tools.find? (·.1 = id)).isSome = false := by
      rw [Bool.eq_false_iff]; intro k; rw [List.find?_isSome] at k; exact h (by simpa using k)
    simp [Option.filter, h, this]

/-- What a validated tool ID does: one the slot does not have rebinds the slot, records PROFILE_MISS
where no tool record holds it, and makes a TOOL due (R63, R94). -/
theorem takeTool_spec (c : Channel) (v : Option Nat) (s : State) :
    let new := v.filter fun id => (s.slot c).toolId ≠ some id
    let t := (takeTool c v s).1
    (takeTool c v s).2 = new.isSome
    ∧ t.slot c = { s.slot c with
        toolId := new.or (s.slot c).toolId
        bound := if new.isSome then boundOf s.ptb new else (s.slot c).bound }
    ∧ t.rqu = (if new.isSome = true ∧ boundOf s.ptb new = none
          ∧ (s.fmo.recs.get .profileMiss).masked = false
        then s.rqu.handAlert else s.rqu)
    ∧ t.fmo.recs = if new.isSome = true ∧ boundOf s.ptb new = none then
        s.fmo.recs.set .profileMiss
          { s.fmo.recs.get .profileMiss with status := true, marker := true }
      else s.fmo.recs := by
  unfold takeTool; dsimp only
  cases v with
  | none => simp
  | some id =>
    by_cases h : (s.slot c).toolId = some id
    · simp [h, Option.filter]
      rcases hs : s.slot c with ⟨⟩
      rw [hs] at h; simp at h; subst h; rfl
    · simp only [h, if_false]
      have hn : (some id).filter (fun id => decide ((s.slot c).toolId ≠ some id)) = some id := by
        simp [Option.filter, h]
      simp only [hn]
      by_cases hb : boundOf s.ptb (some id) = none
      · cases hm : (s.fmo.recs.get .profileMiss).masked <;> simp [hb, recordFault_rqu, hm]
      · simp [hb, Option.isNone_iff_eq_none]

/-- What a TIP record's classification as a hit shows is that record's. -/
theorem classifyTip_view {c : Channel} {s : State} {w : WindowRec} {p : Option Nat} {v : HitView}
    (h : classifyTip c s w p = some v) : v.tip = w ∧ v.period = p := by
  unfold classifyTip at h
  split at h
  · cases h
  · obtain ⟨pk, -, rfl⟩ := Option.map_eq_some_iff.1 h
    exact ⟨rfl, rfl⟩

/-- The close of a slot in CONFIRM or TRACK with a TIP record is `closeHit` or `closeMiss` on
a state `d` that steps 1 to 3 leave: the slot there has its decoder's bit and what a new tool ID
brought, TWIN and PROFILE_MISS are recorded, and the settings are as before (R59 to R63). -/
theorem closeSlot_pen (c : Channel) (w : WindowRec) (p : Option Nat) (s : State)
    (ht : tipRecord c s.ptr.records = some (w, p)) (ha : (s.slot c).state.active = true) :
    let hit := classifyTip c s w p
    let twin := hit.any (twinSeen s.cfe.threshold)
    let bit := (collarBit hit).map (· != s.fmo.armed.collarFlip.get c)
    let new := ((s.slot c).word.bind fun u => (decodeBit s.wdc bit u).2).filter
      fun id => (s.slot c).toolId ≠ some id
    let missed := new.isSome = true ∧ boundOf s.ptb new = none
    let alerts := fun f => (s.fmo.recs.get f).masked = false
    ∃ d, (∀ v, hit = some v → closeSlot s c = closeHit c v twin new.isSome d)
      ∧ (hit = none → closeSlot s c = closeMiss c new.isSome d)
      ∧ d.slot c = { s.slot c with
          word := (s.slot c).word.map fun u => (decodeBit s.wdc bit u).1
          toolId := new.or (s.slot c).toolId
          bound := if new.isSome then boundOf s.ptb new else (s.slot c).bound }
      ∧ d.rqu = (if (twin = true ∧ alerts .twin) ∨ (missed ∧ alerts .profileMiss)
          then s.rqu.handAlert else s.rqu)
      ∧ (∀ f, d.fmo.recs.get f = if (f = .twin ∧ twin = true) ∨ (f = .profileMiss ∧ missed)
          then { s.fmo.recs.get f with status := true, marker := true } else s.fmo.recs.get f)
      ∧ d.ptb = s.ptb ∧ d.cfe = s.cfe ∧ d.fts = s.fts ∧ d.bpl = s.bpl ∧ d.wdc = s.wdc := by
  intro hit twin bit new missed alerts
  have e : closeSlot s c = closeActive c s := by
    unfold closeSlot; cases h : (s.slot c).state <;> simp_all [SlotState.active]
  rw [e]; unfold closeActive; rw [ht]; simp only
  unfold closePen; dsimp only
  generalize hT : (if (classifyTip c s w p).any (twinSeen s.cfe.threshold) = true
    then recordFault .twin (disarmTipMiss c s) else disarmTipMiss c s) = T
  obtain ⟨t1, t2, t3, t4, t5, t6, t7⟩ : T.slot c = s.slot c ∧ T.wdc = s.wdc
      ∧ T.fmo.armed.collarFlip = s.fmo.armed.collarFlip ∧ T.ptb = s.ptb ∧ T.cfe = s.cfe
      ∧ T.fts = s.fts ∧ T.bpl = s.bpl := by
    rw [← hT]; split <;> simp [disarmTipMiss]
  have t8 : T.rqu = if twin = true ∧ alerts .twin then s.rqu.handAlert else s.rqu := by
    rw [← hT]
    by_cases h : twin = true
    · rw [if_pos h, recordFault_rqu]
      by_cases hm : (s.fmo.recs.get .twin).masked = true <;> simp [h, alerts, hm]
    · rw [if_neg h]; simp [h]
  have t9 : ∀ f, T.fmo.recs.get f = if f = .twin ∧ twin = true
      then { s.fmo.recs.get f with status := true, marker := true } else s.fmo.recs.get f := by
    intro f
    rw [← hT]
    by_cases h : twin = true
    · rw [if_pos h, recordFault_recs, PerFault.get_set]
      by_cases hf : f = .twin
      · subst hf; simp [h]
      · simp [hf]
    · rw [if_neg h]; simp [h]
  have h2 : (handBit c (collarBit hit) T).2
      = (s.slot c).word.bind fun u => (decodeBit s.wdc bit u).2 := by
    unfold handBit; dsimp only; rw [t1, t2, t3]
    cases (s.slot c).word <;> rfl
  have h1 := handBit_slot c (collarBit hit) T
  rw [t1, t2, t3] at h1
  have k := takeTool_spec c (handBit c (collarBit hit) T).2 (handBit c (collarBit hit) T).1
  dsimp only at k
  rw [h2, h1, handBit_ptb, t4, handBit_rqu, handBit_fmo_recs] at k
  obtain ⟨k1, k2, k3, k4⟩ := k
  refine ⟨(takeTool c (handBit c (collarBit hit) T).2 (handBit c (collarBit hit) T).1).1, ?_, ?_,
    ?_, ?_, ?_, by simp [t4], by simp [t5], by simp [t6], by simp [t7], by simp [t2]⟩
  · intro v q; rw [h2, k1]; simp only [twin, hit] at q ⊢; rw [q]
  · intro q; rw [h2, k1]; simp only [hit] at q ⊢; rw [q]
  · rw [h2, k2]
  · rw [h2, k3, t8, t9]
    show (if new.isSome = true ∧ boundOf s.ptb new = none ∧ _ then _ else _) = _
    simp only [missed, alerts, reduceCtorEq, false_and, if_false, ← and_assoc]
    by_cases a : twin = true ∧ (s.fmo.recs.get .twin).masked = false <;>
      by_cases b : (new.isSome = true ∧ boundOf s.ptb new = none)
        ∧ (s.fmo.recs.get .profileMiss).masked = false <;>
      simp only [a, b, Rqu.handAlert_twice, if_true, if_false, or_true, or_false, and_self]
  · intro f; rw [h2, k4]
    change PerFault.get (if missed then T.fmo.recs.set .profileMiss _ else T.fmo.recs) f = _
    by_cases b : missed
    · rw [if_pos b, PerFault.get_set]
      by_cases hf : f = .profileMiss
      · subst hf; simp [b, t9]
      · simp [hf, t9]
    · simp [b, t9]

/-- Below its limit the queue takes a MOTION at its end, none is dropped (R135, R136). -/
theorem handMotion_below (r : Rqu) (m : Motion) (h : motionCount r.queue < Config.motionLimit) :
    r.handMotion m = (({ r with gap := r.gap.set m.ch false }).place
      (.motion { m with coalesced := 0, gapMark := r.gap.get m.ch }), false) := by
  unfold Rqu.handMotion; dsimp only; rw [if_pos h]

/-- Below the queue's limit a reported sample's MOTION stands last in the queue (R73, R136). -/
theorem reportSample_last (c : Channel) (sm : Sample) (twin rel : Bool) (s : State)
    (h : motionCount s.rqu.queue < Config.motionLimit) :
    (reportSample c sm twin rel s).rqu.queue.getLast?
      = some (.motion { motionOf c s.fts.frameNo (s.slot c) sm twin rel with
          gapMark := s.rqu.gap.get c }) := by
  unfold reportSample handMotion; dsimp only
  rw [show (s.setSlot c (reportedSlot sm (s.slot c))).rqu = s.rqu from rfl, handMotion_below _ _ h]
  simp [Rqu.place, motionOf]

/-- A slot lost at a close has its OUT handed where its proximity-sent flag was set, and its due
TOOL dropped (R68, R71). -/
theorem closeTrack_lost (c : Channel) (sm : Option Sample) (twin due : Bool) (s : State)
    (r : Resolution) (hr : r = resolve s.bpl.active.jump s.fts.frameNo
      ((s.slot c).lastX, (s.slot c).lastY) (s.slot c).pendingRel (sm.map fun m => (m.rawX, m.rawY)))
    (hl : lostBy s.bpl.active.missLimit r.entries
      (enterOutcomes s.bpl.active.missWindow r.entries (s.slot c).misses) = true) :
    (closeTrack c sm twin due s).rqu = (if (s.slot c).prox then s.rqu.handOut c else s.rqu)
    ∧ (closeTrack c sm twin due s).fmo = s.fmo := by
  unfold closeTrack; dsimp only; rw [← hr, hl]; simp [endProximity_rqu]

/-- What the handing of a sample does to the queue and to QUEUE_DROP's record (R73, R138, R154). -/
theorem reportSample_rqu (c : Channel) (sm : Sample) (twin rel : Bool) (s : State) :
    let out := s.rqu.handMotion (motionOf c s.fts.frameNo (s.slot c) sm twin rel)
    let t := reportSample c sm twin rel s
    let drops := s.fmo.recs.get .queueDrop
    t.rqu = (if out.2 = true ∧ drops.masked = false then out.1.handAlert else out.1)
    ∧ t.fmo.recs.get .queueDrop
      = if out.2 then { drops with status := true, marker := true } else drops := by
  intro out t drops
  have ht : t = if out.2 = true
      then recordFault .queueDrop ((s.setSlot c (reportedSlot sm (s.slot c))).setRqu out.1)
      else (s.setSlot c (reportedSlot sm (s.slot c))).setRqu out.1 := rfl
  by_cases h : out.2 = true
  · rw [ht, if_pos h]
    by_cases hm : drops.masked = true <;>
      simp only [drops] at hm <;> simp [recordFault_rqu, hm, h, drops]
  · rw [ht, if_neg h]; simp [h, drops]

end Sys2Proof.Machine
end

