-- ==== Sys2Proof/Laws/Boundary.lean ====
section
/-! SUPPORT. What a frame boundary does, said once: the close leaves what `CloseProcessed` says, a stop
what `StopCarriedOut` says, and the fault records only what the faults of a close record. -/

namespace Sys2Proof.Machine

/-- States are equal block by block. -/
theorem State.ext_blocks {s t : State} (h1 : s.pins = t.pins) (h2 : s.cfe = t.cfe)
    (h3 : s.fts = t.fts) (h4 : s.bpl = t.bpl) (h5 : s.ptr = t.ptr) (h6 : s.wdc = t.wdc)
    (h7 : s.ptb = t.ptb) (h8 : s.rqu = t.rqu) (h9 : s.fmo = t.fmo) (h10 : s.lnk = t.lnk)
    (h11 : s.cpr = t.cpr) (h12 : s.free = t.free) (h13 : s.pending = t.pending) : s = t := by
  cases s; cases t; simp_all

/-! ### The closing state -/

theorem closing_eq (s : State) : closing s
    = if LeavesUnrun s then recordFault .frameCut (abandonBursts s) else abandonBursts s := rfl

theorem closing_keeps (s : State) : (closing s).pins = s.pins ∧ (closing s).fts = s.fts
    ∧ (closing s).ptr = s.ptr ∧ (closing s).wdc = s.wdc ∧ (closing s).ptb = s.ptb
    ∧ (closing s).lnk = s.lnk ∧ (closing s).cpr = s.cpr ∧ (closing s).free = s.free
    ∧ (closing s).pending = s.pending
    ∧ (closing s).cfe = { s.cfe with engine := everySheet idleEngine } := by
  rw [closing_eq]; split <;> simp [abandonBursts]

theorem closing_bpl (s : State) : { (closing s).bpl with plan := everySheet [], budget := 0 }
    = { s.bpl with plan := everySheet [], budget := 0 } := by
  rw [closing_eq]; split <;> simp [abandonBursts]

theorem closedSlots_eq (s : State) :
    closedSlots s = closeSlots ((closing s).modRqu fun r => { r with fresh := some 0 }) := rfl

/-- A planned frame's boundary finds a burst unrun as R26 says. -/
theorem frameCut_iff (s : State) (h : s.fts.frame = .planned) :
    frameCut s = true ↔ LeavesUnrun s := by
  simp [frameCut, h, LeavesUnrun, PlanEntry.cut, List.any_eq_true, or_and_right, exists_or]

/-- At the close of a planned frame FRAME_CUT is raised as R26 says; unmasked, the halting condition is
then looked at (R154). -/
theorem closing_raised (s : State) (h : s.fts.frame = .planned) :
    (if frameCut s then raiseFault .frameCut (abandonBursts s) else abandonBursts s)
      = if LeavesUnrun s ∧ (s.fmo.recs.get .frameCut).masked = false
        then haltIfHeld (closing s) else closing s := by
  rw [closing_eq]
  by_cases hu : LeavesUnrun s
  · rw [if_pos ((frameCut_iff s h).2 hu), if_pos hu]
    unfold raiseFault
    rw [show (abandonBursts s).fmo = s.fmo from rfl]
    cases (s.fmo.recs.get .frameCut).masked <;> simp [hu]
  · rw [if_neg (fun q => hu ((frameCut_iff s h).1 q)), if_neg hu, if_neg (fun q => hu q.1)]

/-! ### The processing of a close -/

/-- Settling an ALERT of a close puts it among the reports of the close (R133). -/
theorem settleAlert_spec (had : Bool) (k : Nat) (r : Rqu) :
    settleAlert had k r = { r with queue := (settleAlert had k r).queue, fresh := none }
    ∧ if had = false ∧ .alert ∈ r.queue then
        let others := r.queue.filter (· != .alert)
        ∃ j, j ≤ others.length ∧ others.length ≤ j + r.fresh.getD 0
          ∧ (settleAlert had k r).queue = others.take j ++ .alert :: others.drop j
      else (settleAlert had k r).queue = r.queue := by
  unfold settleAlert
  by_cases h : had = false ∧ Entry.alert ∈ r.queue
  · have hb : (!had && r.queue.contains .alert) = true := by simp [h.1, h.2]
    rw [if_pos h]
    simp only [hb, if_true, true_and]
    refine ⟨_, by omega, ?_, rfl⟩
    have := Nat.mod_lt k (y := min (r.fresh.getD 0) (r.queue.filter (· != .alert)).length + 1)
      (Nat.succ_pos _)
    omega
  · have hb : (!had && r.queue.contains .alert) = false := by cases had <;> simp_all
    simp only [hb, h, if_false]; simp

/-- The slots' close moves slots, queue and faults alone (R59). -/
theorem closedSlots_keeps (s : State) : (closedSlots s).pins = s.pins
    ∧ (closedSlots s).fts = s.fts ∧ (closedSlots s).ptr.enabled = s.ptr.enabled
    ∧ (closedSlots s).wdc = s.wdc ∧ (closedSlots s).ptb = s.ptb ∧ (closedSlots s).lnk = s.lnk
    ∧ (closedSlots s).cpr = s.cpr ∧ (closedSlots s).free = s.free
    ∧ (closedSlots s).pending = s.pending
    ∧ (closedSlots s).cfe = { s.cfe with engine := everySheet idleEngine }
    ∧ { (closedSlots s).bpl with plan := everySheet [], budget := 0 }
      = { s.bpl with plan := everySheet [], budget := 0 } := by
  obtain ⟨k1, k2, k3, k4, k5, k6, k7, k8, k9, k10⟩ := closing_keeps s
  rw [closedSlots_eq]
  refine ⟨(closeSlots_pins _).trans k1, (closeSlots_fts _).trans k2,
    (closeSlots_ptr_enabled _).trans (congrArg Ptr.enabled k3), (closeSlots_wdc _).trans k4,
    (closeSlots_ptb _).trans k5, (closeSlots_lnk _).trans k6, (closeSlots_cpr _).trans k7,
    (closeSlots_free _).trans k8, (closeSlots_pending _).trans k9, (closeSlots_cfe _).trans k10, ?_⟩
  rw [closeSlots_bpl]; exact closing_bpl s

/-- The processing of a close, with what it was handed discarded, does what `CloseProcessed` says (R24,
R48, R59, R133). -/
theorem closeProcessed (s : State) :
    CloseProcessed s
      (discardFrame (processClose (s.rqu.queue.contains .alert) (closing s))) := by
  obtain ⟨k1, k2, k3, k4, k5, k6, k7, k8, k9, k10, k11⟩ := closedSlots_keeps s
  obtain ⟨a1, a2⟩ := settleAlert_spec (s.rqu.queue.contains .alert)
    (Config.freeAlertPlace (closing s).free) (closedSlots s).rqu
  have ptr : ∀ p : Ptr, p.enabled = s.ptr.enabled →
      ({ p with records := [] } : Ptr) = { s.ptr with slots := p.slots, records := [] } := by
    rintro ⟨_, _, _⟩ h; dsimp only at h ⊢; rw [h]
  unfold processClose
  rw [← closedSlots_eq]
  unfold CloseProcessed QueueSettled
  generalize closedSlots s = t at *
  refine ⟨by simpa [discardFrame, State.drawFree] using a2, ?_⟩
  apply State.ext_blocks
  · exact k1
  · show ({ t.cfe with engine := everySheet idleEngine } : Cfe) = _
    rw [k10]
  · exact k2
  · exact k11
  · exact ptr _ k3
  · exact k4
  · exact k5
  · exact a1
  · rfl
  · exact k6
  · exact k7
  · exact congrArg (· + 1) k8
  · exact k9

/-- The close of a planned frame that no FRAME_CUT halts: its processing, and then the look at the
halting condition and the stop (R24, R59, R159). -/
theorem closeFrame_closing (s : State) (hr : s.fts.scan = .running) (hf : s.fts.frame = .planned)
    (hn : (closing s).fmo.halting = false) : closeFrame s
      = settleClose (discardFrame (processClose (s.rqu.queue.contains .alert) (closing s))) := by
  unfold closeFrame
  dsimp only
  rw [closing_raised s hf, haltIfHeld_of_not _ hn, ite_self, if_pos]
  simp [handedOver, closing_keeps, hf, hr]

/-- HALTED entry has discarded the frame, and a second discard changes nothing (R48, R78). -/
theorem discardFrame_enterHalt (s : State) : discardFrame (enterHalt s) = enterHalt s := by
  have a : discardFrame (clearSlots (discardFrame s)) = clearSlots (discardFrame s) := by
    generalize h : clearSlots (discardFrame s) = t at *
    have hc : t.cfe = (discardFrame s).cfe := h ▸ clearSlots_cfe _
    have hb : t.bpl = (discardFrame s).bpl := h ▸ clearSlots_bpl _
    have hr : t.ptr.records = [] := h ▸ clearSlots_ptr_records (discardFrame s)
    apply State.ext_blocks <;> try rfl
    · show ({ t.cfe with engine := everySheet idleEngine } : Cfe) = _
      rw [hc]; rfl
    · show ({ t.bpl with plan := everySheet [], budget := 0 } : Bpl) = _
      rw [hb]; rfl
    · show ({ t.ptr with records := [] } : Ptr) = _
      rw [← hr]
  unfold enterHalt; dsimp only
  split
  · exact congrArg stopScanning a
  · exact congrArg (fun x : State => x.setFts
      { (clearSlots (discardFrame s)).fts with scan := .halted, frame := .planless }) a

/-! ### Carrying out a stop -/

/-- The clearing of a slot hands its OUT where a proximity ends (R71). -/
theorem clearSlot_rqu (s : State) (c : Channel) : (clearSlot s c).rqu
    = if (s.slot c).state.active = true ∧ (s.slot c).prox = true then s.rqu.handOut c else s.rqu := by
  unfold clearSlot
  by_cases h : (s.slot c).state.active = true
  · rw [if_pos h, endProximity_rqu]; simp [h]
  · simp [h]

/-- The OUTs of a slot clearing, in the order 0..3 (R78). -/
theorem clearSlots_rqu (s : State) : (clearSlots s).rqu = Channel.all.foldl (fun r c =>
    if (s.slot c).state.active = true ∧ (s.slot c).prox = true then r.handOut c else r) s.rqu := by
  simp [clearSlots, Channel.all, clearSlot_rqu]

theorem clearForStop_rqu (s : State) : (clearForStop s).rqu = (clearSlots s).rqu := by
  simp [clearForStop, Channel.all]

/-- The slot clearing of a stop moves slots, cursors and queue alone (R77). -/
theorem clearForStop_keeps (s : State) : (clearForStop s).pins = s.pins
    ∧ (clearForStop s).cfe = s.cfe ∧ (clearForStop s).fts = s.fts
    ∧ (clearForStop s).bpl = { s.bpl with cursor := (clearForStop s).bpl.cursor }
    ∧ (clearForStop s).ptr = { s.ptr with slots := (clearForStop s).ptr.slots }
    ∧ (clearForStop s).wdc = s.wdc ∧ (clearForStop s).ptb = s.ptb ∧ (clearForStop s).fmo = s.fmo
    ∧ (clearForStop s).lnk = s.lnk ∧ (clearForStop s).cpr = s.cpr
    ∧ (clearForStop s).free = s.free ∧ (clearForStop s).pending = s.pending := by
  refine ⟨by simp, by simp, by simp, ?_, ?_, by simp, by simp, by simp, by simp, by simp, by simp,
    by simp⟩
  · have h1 := clearForStop_bpl_active s
    have h2 := clearForStop_bpl_staged s
    have h3 := clearForStop_bpl_plan s
    have h4 := clearForStop_bpl_budget s
    have h5 := clearForStop_bpl_rotation s
    generalize (clearForStop s).bpl = b at *
    show b = ⟨s.bpl.active, s.bpl.staged, s.bpl.plan, s.bpl.budget, b.cursor, s.bpl.rotation⟩
    rw [← h1, ← h2, ← h3, ← h4, ← h5]
  · have h1 := clearForStop_ptr_enabled s
    have h2 := clearForStop_ptr_records s
    generalize (clearForStop s).ptr = p at *
    show p = ⟨s.ptr.enabled, s.ptr.records, p.slots⟩
    rw [← h1, ← h2]

/-- A stop does what `StopCarriedOut` says (R37, R77). -/
theorem stopCarriedOut (u : State) : StopCarriedOut u (clearForStop (stopScanning u)) where
  slots c := by
    rw [clearForStop_slot]; rfl
  cursors c := by
    have : ((stopScanning u).slot c) = u.slot c := rfl
    have hb : (clearSlots (stopScanning u)).bpl.cursor = u.bpl.cursor := by rw [clearSlots_bpl]; rfl
    have : ((clearSlots (stopScanning u)).slot c).state = .idle ↔ (u.slot c).state = .idle := by
      rw [clearSlots_slot, this]; cases h : (u.slot c).state <;> simp [SlotState.active, endedSlot, h]
    rw [← hb, ← if_congr this rfl rfl]
    cases c <;> simp [clearForStop, Channel.all, -clearSlots_slot] <;> rfl
  outs := (clearForStop_rqu _).trans (clearSlots_rqu _)
  rest := by
    have fields := clearForStop_keeps (stopScanning u)
    generalize clearForStop (stopScanning u) = t at *
    obtain ⟨h1, h2, h3, h4, h5, h6, h7, h8, h9, h10, h11, h12⟩ := fields
    exact State.ext_blocks h1 h2 h3 h4 h5 h6 h7 rfl h8 h9 h10 h11 h12

/-! ### The fault records of a close -/

section
/-! A property of the fault records that the recording of each fault a close can raise keeps. -/
variable {Q : PerFault FaultRec → Prop}
  (k : ∀ f ∈ [FaultId.twin, .profileMiss, .queueDrop], ∀ r, Q r →
    Q (r.set f { r.get f with status := true, marker := true }))
include k

theorem takeTool_kept (c : Channel) (v : Option Nat) {s : State} (h : Q s.fmo.recs) :
    Q (takeTool c v s).1.fmo.recs := by
  unfold takeTool; dsimp only
  split
  · exact h
  · split
    · exact h
    · dsimp only; split
      · rw [recordFault_recs]; exact k _ (by simp) _ h
      · exact h

theorem handMotion_kept (m : Motion) {s : State} (h : Q s.fmo.recs) :
    Q (handMotion m s).fmo.recs := by
  unfold handMotion; dsimp only
  split
  · rw [recordFault_recs]; exact k _ (by simp) _ h
  · exact h

theorem closeTrack_kept (c : Channel) (sm : Option Sample) (twin due : Bool) {s : State}
    (h : Q s.fmo.recs) : Q (closeTrack c sm twin due s).fmo.recs := by
  unfold closeTrack; dsimp only
  split
  · simpa using h
  · split
    · exact handMotion_kept k _ (by simpa using h)
    · simpa using h

theorem closeConfirm_kept (c : Channel) (v : HitView) (twin due : Bool) {s : State}
    (h : Q s.fmo.recs) : Q (closeConfirm c v twin due s).fmo.recs := by
  unfold closeConfirm; dsimp only
  split
  · split
    · exact handMotion_kept k _ (by simpa using h)
    · exact h
  · exact h

theorem closePen_kept (c : Channel) (w : WindowRec) (p : Option Nat) {s : State}
    (h : Q s.fmo.recs) : Q (closePen c w p s).fmo.recs := by
  have h' : ∀ twin : Bool, Q (takeTool c (handBit c (collarBit (classifyTip c s w p))
      (if twin then recordFault .twin (disarmTipMiss c s) else disarmTipMiss c s)).2
      (handBit c (collarBit (classifyTip c s w p))
      (if twin then recordFault .twin (disarmTipMiss c s) else disarmTipMiss c s)).1).1.fmo.recs := by
    intro twin
    apply takeTool_kept k
    rw [handBit_fmo_recs]
    split
    · rw [recordFault_recs]; exact k _ (by simp) _ h
    · exact h
  unfold closePen; dsimp only
  split
  · unfold closeHit; dsimp only
    split
    · exact closeTrack_kept k _ _ _ _ (by simpa using h' _)
    · exact closeConfirm_kept k _ _ _ _ (h' _)
    · exact h' _
  · unfold closeMiss
    split
    · exact closeTrack_kept k _ _ _ _ (h' _)
    · exact h' _
    · exact h' _

/-- What the recording of the faults of a close keeps, the close of a slot keeps (R58, R63, R138). -/
theorem closeSlot_kept (s : State) (c : Channel) (h : Q s.fmo.recs) : Q (closeSlot s c).fmo.recs := by
  have a : Q (closeActive c s).fmo.recs := by
    unfold closeActive; split
    · exact h
    · exact closePen_kept k _ _ _ h
  unfold closeSlot
  split
  · exact h
  · rw [closeSearch_fmo]; exact h
  · exact a
  · exact a

theorem closeSlots_kept (s : State) (h : Q s.fmo.recs) : Q (closeSlots s).fmo.recs := by
  simp only [closeSlots, Channel.all, List.foldl_cons, List.foldl_nil]
  exact closeSlot_kept k _ _ (closeSlot_kept k _ _ (closeSlot_kept k _ _ (closeSlot_kept k _ _ h)))

end

/-! ### The open of a frame -/

/-- A frame opened in RUNNING holds what `FrameOpened` says (R25, R40, R41, R44, R51). -/
theorem frameOpened (v : State) (h : v.fts.scan = .running) : FrameOpened v (openFrame v) := by
  have op := openFrame_running v h
  dsimp only at op
  change _ = v.cfe.layout.sheets.foldl beginEntry ((buildPlans (openedFrame v)).setCfe
    { (buildPlans (openedFrame v)).cfe with engine := everySheet idleEngine }) at op
  obtain ⟨c1, c2, c3, c4, c5, c6⟩ : (openedFrame v).cfe.layout = v.cfe.layout
      ∧ (openedFrame v).cfe.panel = v.cfe.panel ∧ (openedFrame v).bpl.rotation = v.bpl.rotation
      ∧ (openedFrame v).fts.period = v.fts.period ∧ (openedFrame v).fts.lock = v.fts.lock
      ∧ (openedFrame v).fmo = v.fmo := by simp [openedFrame]
  let plan := fun sh => sheetPlan v.cfe.layout v.cfe.panel (openedFrame v).ptr.slots
    (openedFrame v).bpl.cursor (slotBudget v.fts.period) (sheetGet v.bpl.rotation sh) sh
  generalize hu : (buildPlans (openedFrame v)).setCfe
    { (buildPlans (openedFrame v)).cfe with engine := everySheet idleEngine } = u at op
  have pl : ∀ sh, sheetGet u.bpl.plan sh
      = if sh ∈ v.cfe.layout.sheets then (plan sh).1 else [] := by
    intro sh; rw [← hu]; simp only [State.setCfe_bpl]; rw [buildPlans_plan, c1, c2, c3, c4]
  have ro : ∀ sh, sheetGet u.bpl.rotation sh
      = if sh ∈ v.cfe.layout.sheets then (plan sh).2 else sheetGet v.bpl.rotation sh := by
    intro sh; rw [← hu]; simp only [State.setCfe_bpl]; rw [buildPlans_rotation, c1, c2, c3, c4]
  have eng : ∀ sh, u.engine sh = idleEngine := by intro sh; rw [← hu]; cases sh <;> rfl
  have bud : (openFrame v).bpl.budget = slotBudget v.fts.period := by rw [op, ← hu]; simp [c4]
  have lk : u.fts.lock = v.fts.lock := by rw [← hu]; simp [c5]
  have act : (openFrame v).bpl.active = u.bpl.active := by rw [op]; simp
  have probe : ∀ sh, sh ∈ v.cfe.layout.sheets → u.burstAt sh = some .probe := by
    intro sh hm
    rw [State.burstAt_of_idle _ _ (by rw [eng]; rfl), pl, if_pos hm]
    obtain ⟨r, hr⟩ := sheetPlan_head v.cfe.layout v.cfe.panel (openedFrame v).ptr.slots
      (openedFrame v).bpl.cursor (slotBudget v.fts.period) (sheetGet v.bpl.rotation sh) sh
    simp only [plan, hr]; rfl
  have p0 := probe .s0 (by cases v.cfe.layout <;> simp [Layout.sheets])
  constructor
  · rw [op, ← hu]; simp
  · rw [op, ← hu]; simp
  · rw [op, ← hu]; simp
  · rw [op, ← hu]; simp [c6]
  · exact bud
  · intro sh hs planned aligned
    have hm : sh ∈ v.cfe.layout.sheets := by
      cases sh
      · cases v.cfe.layout <;> simp [Layout.sheets]
      · rw [hs rfl]; simp [Layout.sheets]
    have hplan : planned = plan sh := by simp only [planned, plan, bud]
    have both : sheetGet (v.cfe.layout.sheets.foldl beginEntry u).bpl.plan sh
          = (sheetGet u.bpl.plan sh).modify 0 (fun e => { e with run := .inFlight })
        ∧ (v.cfe.layout.sheets.foldl beginEntry u).engine sh =
          let aligned := u.fts.lock = .locked ∧ u.bpl.active.align = true
          { idleEngine with
            st := if aligned then .align else .listen, unsynced := !decide aligned } := by
      cases hl : v.cfe.layout
      · cases sh
        · have := beginEntry_probe_at u .s0 .s0 p0
          simp only [Layout.sheets, List.foldl_cons, List.foldl_nil]
          rw [this.1, this.2, if_pos rfl, if_pos rfl, eng]; exact ⟨rfl, rfl⟩
        · rw [hs rfl] at hl; cases hl
      · have p1 := probe .s1 (by rw [hl]; simp [Layout.sheets])
        have p1' : (beginEntry u .s0).burstAt .s1 = some .probe := by
          rw [(beginEntry_probe_other u .s0 .s1 p0 (by simp)).2, p1]
        simp only [Layout.sheets, List.foldl_cons, List.foldl_nil]
        cases sh
        · have a := beginEntry_probe_at _ .s1 .s0 p1'
          have b := beginEntry_probe_at u .s0 .s0 p0
          rw [a.1, a.2]; simp only [reduceCtorEq, if_false]
          rw [b.1, b.2, if_pos rfl, if_pos rfl, eng]; exact ⟨rfl, rfl⟩
        · have a := beginEntry_probe_at _ .s1 .s1 p1'
          have b := beginEntry_probe_at u .s0 .s1 p0
          rw [a.1, a.2, if_pos rfl, if_pos rfl, b.1, b.2]; simp only [reduceCtorEq, if_false]
          rw [eng]; simp only [beginEntry_fts, beginEntry_bpl_active]; exact ⟨rfl, rfl⟩
    rw [← op] at both
    refine ⟨by rw [both.1, pl, if_pos hm, hplan], ?_, ?_⟩
    · rw [op, hplan]; simpa [hm] using ro sh
    · rw [both.2]; simp only [aligned]; rw [act, lk]
  · intro hl
    have gone : Sheet.s1 ∉ v.cfe.layout.sheets := by rw [hl]; simp [Layout.sheets]
    have a := pl .s1; have b := ro .s1
    rw [if_neg gone] at a b
    have e : openFrame v = beginEntry u .s0 := by rw [op, hl]; rfl
    rw [e, beginEntry_probe u .s0 p0]
    refine ⟨?_, ?_, ?_⟩
    · rw [placeListening_bpl]; exact (setRun_at .inFlight u .s0 .s1).trans a
    · rw [placeListening_bpl]; exact b
    · rw [placeListening_at]; simp [eng]

end Sys2Proof.Machine
end

