-- ==== Sys2Proof/Laws/Commands.lean ====
section
/-! SUPPORT. What taking a command does, said once for the twenty kinds, and the fields of a payload
read back from the bytes that carry them. -/

namespace Sys2Proof.Machine

/-- The command taken, and the state without it (R180, R181). -/
theorem takeCommand_takes {k : CommandKind} {s : State} {c : Command} {rest : List Command}
    (h : Takes k s c rest) : takeCommand (some k) s = some (c, taken rest s) := by
  obtain ⟨h1, h2, h3, h4, h5, h6⟩ := h
  have hc : s.canTake = true := by simp [State.canTake, h1, h2, Config.replyLimit, h3]
  simp [takeCommand, h4, hc, h5, h6, taken, State.setLnk]

/-- A command of the right LENGTH: its own rule, then its reply (R180, R181). -/
theorem runCommand_takes {k : CommandKind} {s : State} {c : Command} {rest : List Command}
    (rule : List Byte → State → Answer) (h : Takes k s c rest)
    (hl : c.payload.length = k.length) :
    runCommand k rule s = .next (arbitrate (replied
      ⟨k.replyCode, c.tag, (rule c.payload (taken rest s)).payload, false⟩
      (rule c.payload (taken rest s)).state)) := by
  simp [runCommand, takeCommand_takes h, hl, done, addReply, replied, State.setLnk]

/-- A command of the wrong LENGTH: the refusal alone (R181). -/
theorem runCommand_short {k : CommandKind} {s : State} {c : Command} {rest : List Command}
    (rule : List Byte → State → Answer) (h : Takes k s c rest)
    (hl : c.payload.length ≠ k.length) :
    runCommand k rule s = .next (arbitrate (replied (refusal k c.tag 0x02) (taken rest s))) := by
  simp [runCommand, takeCommand_takes h, hl, done, addReply, replied, State.setLnk, refuse, refusal,
    u8, Status.code]

/-- Where the CPR can take no command, none is taken (R180, R189). -/
theorem takeCommand_of_not (kind : Option CommandKind) (s : State) (h : s.canTake = false) :
    takeCommand kind s = none := by
  unfold takeCommand
  split
  · rfl
  · simp [h]

theorem runCommand_of_not (k : CommandKind) (rule : List Byte → State → Answer) (s : State)
    (h : s.canTake = false) : runCommand k rule s = .next s := by
  simp [runCommand, takeCommand_of_not _ s h, noEffect]

@[simp] theorem taken_pins (rest : List Command) (s : State) : (taken rest s).pins = s.pins := rfl
@[simp] theorem taken_cfe (rest : List Command) (s : State) : (taken rest s).cfe = s.cfe := rfl
@[simp] theorem taken_fts (rest : List Command) (s : State) : (taken rest s).fts = s.fts := rfl
@[simp] theorem taken_bpl (rest : List Command) (s : State) : (taken rest s).bpl = s.bpl := rfl
@[simp] theorem taken_ptr (rest : List Command) (s : State) : (taken rest s).ptr = s.ptr := rfl
@[simp] theorem taken_wdc (rest : List Command) (s : State) : (taken rest s).wdc = s.wdc := rfl
@[simp] theorem taken_ptb (rest : List Command) (s : State) : (taken rest s).ptb = s.ptb := rfl
@[simp] theorem taken_rqu (rest : List Command) (s : State) : (taken rest s).rqu = s.rqu := rfl
@[simp] theorem taken_fmo (rest : List Command) (s : State) : (taken rest s).fmo = s.fmo := rfl
@[simp] theorem taken_cpr (rest : List Command) (s : State) : (taken rest s).cpr = s.cpr := rfl
@[simp] theorem taken_slot (rest : List Command) (s : State) (c : Channel) :
    (taken rest s).slot c = s.slot c := rfl

/-! ### Fields (R191) -/

theorem u8At_u8 (n : Nat) (l : List Byte) (h : n < 256) : u8At (u8 n ++ l) 0 = n := by
  simp [u8At, u8, Nat.mod_eq_of_lt h]

theorem u16At_u16 (n : Nat) (l : List Byte) (h : n < 65536) : u16At (u16 n ++ l) 0 = n := by
  simp [u16At, u8At, u16]; omega

@[simp] theorem u8_length (n : Nat) : (u8 n).length = 1 := rfl
@[simp] theorem u16_length (n : Nat) : (u16 n).length = 2 := rfl
@[simp] theorem u32_length (n : Nat) : (u32 n).length = 4 := rfl
@[simp] theorem s16_length (n : Int) : (s16 n).length = 2 := rfl
@[simp] theorem s32_length (n : Int) : (s32 n).length = 4 := rfl

end Sys2Proof.Machine
end

