-- ==== Sys2Proof/Laws/Peaks.lean ====
section
/-! SUPPORT. What the peak finding and the record lists answer (R15, R18, R57, R60): `mainPeak` and
`findPeaks` find exactly what `IsMainPeak` and `PeaksOf` say. -/

namespace Sys2Proof.Machine

/-- The model's test of a local maximum is R57's. -/
theorem localMax_iff (a : List Nat) (k : Nat) : localMax a k = true ↔ IsLocalMax a k := by
  cases k <;> simp [localMax, IsLocalMax, ampBelow, ampAt]

/-- Coil distance as a difference without sign. -/
theorem coilDist_eq (i j : Nat) : coilDist i j = ((i : Int) - j).natAbs := by
  unfold coilDist; omega

/-- Of a rising list of positions the fold keeps the nearest to the centre, the lowest of equals. -/
theorem foldl_nearer (first centre : Nat) (l : List Nat) (b : Nat) (h : (b :: l).Pairwise (· < ·)) :
    ∃ k, l.foldl (nearer first centre) (some b) = some k ∧ k ∈ b :: l ∧ ∀ j ∈ b :: l,
      coilDist (first + k) centre ≤ coilDist (first + j) centre
        ∧ (coilDist (first + j) centre = coilDist (first + k) centre → k ≤ j) := by
  induction l generalizing b with
  | nil => exact ⟨b, rfl, by simp, by simp⟩
  | cons x l ih =>
    obtain ⟨hb, hx⟩ := List.pairwise_cons.1 h
    by_cases hd : coilDist (first + x) centre < coilDist (first + b) centre
    · obtain ⟨k, hk, hm, hall⟩ := ih x hx
      refine ⟨k, by simpa [nearer, hd] using hk, List.mem_cons_of_mem _ hm, ?_⟩
      intro j hj
      rcases List.mem_cons.1 hj with rfl | hj
      · have := hall x (by simp); omega
      · exact hall j hj
    · obtain ⟨k, hk, hm, hall⟩ := ih b
        (List.pairwise_cons.2 ⟨fun y hy => hb y (List.mem_cons_of_mem _ hy), (List.pairwise_cons.1 hx).2⟩)
      refine ⟨k, by simpa [nearer, hd] using hk, ?_, ?_⟩
      · rcases List.mem_cons.1 hm with rfl | hm
        · simp
        · exact List.mem_cons_of_mem _ (List.mem_cons_of_mem _ hm)
      · intro j hj
        rcases List.mem_cons.1 hj with rfl | hj
        · exact hall j (by simp)
        rcases List.mem_cons.1 hj with rfl | hj
        · have h1 := hall b (by simp)
          have h2 := hb j (by simp)
          omega
        · exact hall j (List.mem_cons_of_mem _ hj)

/-- The main peak is the best of the local maxima. -/
theorem isMainPeak_iff (a : List Nat) (first centre k : Nat) : IsMainPeak a first centre k ↔
    k ∈ localMaxima a ∧ ∀ j ∈ localMaxima a, coilDist (first + k) centre ≤ coilDist (first + j) centre
      ∧ (coilDist (first + j) centre = coilDist (first + k) centre → k ≤ j) := by
  simp only [IsMainPeak, localMaxima, List.mem_filter, List.mem_range, localMax_iff, coilDist_eq]
  constructor
  · rintro ⟨h1, h2, h3⟩; exact ⟨⟨h1, h2⟩, fun j hj => h3 j hj.1 hj.2⟩
  · rintro ⟨⟨h1, h2⟩, h3⟩; exact ⟨h1, h2, fun j h h' => h3 j ⟨h, h'⟩⟩

/-- An axis has at most one main peak. -/
theorem isMainPeak_unique {a : List Nat} {first centre k k' : Nat} (h : IsMainPeak a first centre k)
    (h' : IsMainPeak a first centre k') : k = k' := by
  have h1 := h.2.2 k' h'.1 h'.2.1
  have h2 := h'.2.2 k h.1 h.2.1
  dsimp only at h1 h2; omega

/-- `mainPeak` finds exactly the main peak (R57). -/
theorem mainPeak_eq_some (a : List Nat) (first centre k : Nat) :
    mainPeak a first centre = some k ↔ IsMainPeak a first centre k := by
  have key : ∀ m, mainPeak a first centre = some m → IsMainPeak a first centre m := by
    intro m hm
    rw [isMainPeak_iff]
    have hp : (localMaxima a).Pairwise (· < ·) := List.Pairwise.filter _ List.pairwise_lt_range
    unfold mainPeak at hm
    match hl : localMaxima a, hp with
    | [], _ => rw [hl] at hm; cases hm
    | b :: l, hp =>
      obtain ⟨k, hk, h⟩ := foldl_nearer first centre l b hp
      rw [hl] at hm
      have : m = k := by simpa [nearer, hk] using hm.symm
      rw [this]; exact h
  refine ⟨key k, fun h => ?_⟩
  match hm : mainPeak a first centre with
  | some m => rw [isMainPeak_unique (key m hm) h]
  | none =>
    exfalso
    have hk := ((isMainPeak_iff ..).1 h).1
    unfold mainPeak at hm
    have hp : (localMaxima a).Pairwise (· < ·) := List.Pairwise.filter _ List.pairwise_lt_range
    match hl : localMaxima a, hp with
    | [], _ => rw [hl] at hk; cases hk
    | b :: l, hp =>
      obtain ⟨k, hk, _⟩ := foldl_nearer first centre l b hp
      rw [hl] at hm
      simp [nearer, hk] at hm

/-- The sheet of a global X coil (R3). -/
theorem sheetOfCoil_eq (layout : Layout) (p : Panel) (i : Nat) :
    sheetOfCoil layout p i = if layout = .dual ∧ p.n0 ≤ i then .s1 else .s0 := by
  cases layout <;> simp [sheetOfCoil]
  split <;> split <;> first | rfl | omega

/-- `findPeaks` finds exactly the main peaks of a window record (R15, R57). -/
theorem findPeaks_eq_some (layout : Layout) (p : Panel) (cx cy : Nat) (w : WindowRec) (pk : Peaks) :
    findPeaks layout p cx cy w = some pk ↔ PeaksOf layout p cx cy w pk := by
  constructor
  · intro h
    unfold findPeaks at h
    split at h
    · cases h
    · rename_i kx hx
      dsimp only at h
      split at h
      · cases h
      · rename_i ky hy
        cases h
        exact ⟨(mainPeak_eq_some ..).1 hx, (mainPeak_eq_some ..).1 hy, rfl, rfl,
          sheetOfCoil_eq .., rfl⟩
  · rintro ⟨hx, hy, h1, h2, h3, h4⟩
    obtain ⟨kx, ky, cX, cY, sh, y⟩ := pk
    dsimp only at *
    subst h1 h2
    rw [← sheetOfCoil_eq] at h3
    subst h3 h4
    simp only [findPeaks, (mainPeak_eq_some ..).2 hx, (mainPeak_eq_some ..).2 hy]

/-- A filter of the peaks found keeps exactly the peaks that reach the level (R18, R60). -/
theorem shows_iff (s : State) (c : Channel) (w : WindowRec) (level : PerSheet Nat) (pk : Peaks) :
    (findPeaks s.cfe.layout s.cfe.panel (s.slot c).centreX (s.slot c).centreY w).filter
        (peaksReach level w) = some pk ↔ Shows s c w (sheetGet level) pk := by
  rw [Option.filter_eq_some_iff, findPeaks_eq_some]
  simp [Shows, peaksReach, Reaches, ampAt]

/-- A TIP record found is a delivered one of its channel. -/
theorem tipRecord_mem {c : Channel} {recs : List BurstRecord} {w : WindowRec} {p : Option Nat}
    (h : tipRecord c recs = some (w, p)) : BurstRecord.tip w p ∈ recs ∧ w.ch = c := by
  induction recs with
  | nil => cases h
  | cons r recs ih =>
    cases r with
    | tip w' p' =>
      unfold tipRecord at h
      split at h
      · cases h; exact ⟨by simp, ‹_›⟩
      · exact ⟨List.mem_cons_of_mem _ (ih h).1, (ih h).2⟩
    | _ => exact ⟨List.mem_cons_of_mem _ (ih h).1, (ih h).2⟩

/-- No TIP record is found exactly where none of the channel was delivered. -/
theorem tipRecord_eq_none {c : Channel} {recs : List BurstRecord} :
    tipRecord c recs = none ↔ ∀ w p, BurstRecord.tip w p ∈ recs → w.ch ≠ c := by
  induction recs with
  | nil => simp [tipRecord]
  | cons r recs ih =>
    cases r with
    | tip w p =>
      unfold tipRecord
      by_cases hw : w.ch = c
      · simp only [hw, if_true, List.mem_cons]
        exact ⟨fun h => (by cases h), fun h => absurd hw (h w p (Or.inl rfl))⟩
      · simp only [hw, if_false, ih, List.mem_cons]
        constructor
        · rintro h w' p' (h' | h')
          · cases h'; exact hw
          · exact h w' p' h'
        · exact fun h w' p' h' => h w' p' (Or.inr h')
    | _ => simpa [tipRecord] using ih

/-- A COLLAR record found is a delivered one of its channel. -/
theorem collarRecord_mem {c : Channel} {recs : List BurstRecord} {w : WindowRec}
    (h : collarRecord c recs = some w) : BurstRecord.collar w ∈ recs ∧ w.ch = c := by
  induction recs with
  | nil => cases h
  | cons r recs ih =>
    cases r with
    | collar w' =>
      unfold collarRecord at h
      split at h
      · cases h; exact ⟨by simp, ‹_›⟩
      · exact ⟨List.mem_cons_of_mem _ (ih h).1, (ih h).2⟩
    | _ => exact ⟨List.mem_cons_of_mem _ (ih h).1, (ih h).2⟩

/-- No COLLAR record is found exactly where none of the channel was delivered. -/
theorem collarRecord_eq_none {c : Channel} {recs : List BurstRecord} :
    collarRecord c recs = none ↔ ∀ w, BurstRecord.collar w ∈ recs → w.ch ≠ c := by
  induction recs with
  | nil => simp [collarRecord]
  | cons r recs ih =>
    cases r with
    | collar w =>
      unfold collarRecord
      by_cases hw : w.ch = c
      · simp only [hw, if_true, List.mem_cons]
        exact ⟨fun h => (by cases h), fun h => absurd hw (h w (Or.inl rfl))⟩
      · simp only [hw, if_false, ih, List.mem_cons]
        constructor
        · rintro h w' (h' | h')
          · cases h'; exact hw
          · exact h w' h'
        · exact fun h w' h' => h w' (Or.inr h')
    | _ => simpa [collarRecord] using ih

end Sys2Proof.Machine
end

