-- ==== Sys2Proof/Laws/Step.lean ====
section
/-! SUPPORT. No command stops: every command and every step answers a next state (log 8), and what a
step is by the queue of commands. -/

namespace Sys2Proof.Machine

theorem done_next (s : State) : ∃ t, done s = .next t := ⟨_, rfl⟩

theorem noEffect_next (s : State) : ∃ t, noEffect s = .next t := ⟨_, rfl⟩

theorem runCommand_next (k : CommandKind) (rule : List Byte → State → Answer) (s : State) :
    ∃ t, runCommand k rule s = .next t := by
  unfold runCommand
  split
  · exact noEffect_next _
  · exact done_next _

/-- Every command answers a next state. -/
theorem exec_next (i : Instr) (s : State) : ∃ t, exec i s = .next t := by
  cases i
  case resetnAssert => simp only [exec, execResetnAssert]; split <;> exact ⟨_, rfl⟩
  case resetnRelease => simp only [exec, execResetnRelease]; split <;> exact ⟨_, rfl⟩
  case commandReset => simp only [exec, execCommandReset]; split <;> exact ⟨_, rfl⟩
  case receiveByte => simp only [exec, execReceiveByte]; split <;> exact ⟨_, rfl⟩
  case framerGapExpiry => simp only [exec, execFramerGapExpiry]; split <;> exact ⟨_, rfl⟩
  case unknownCommand => simp only [exec, execUnknownCommand]; split <;> exact ⟨_, rfl⟩
  case reset =>
    simp only [exec, execReset]
    split
    · exact ⟨_, rfl⟩
    · split <;> exact ⟨_, rfl⟩
  case transmitComplete => simp only [exec, execTransmitComplete]; split <;> exact ⟨_, rfl⟩
  case holdTimerExpiry => simp only [exec, execHoldTimerExpiry]; split <;> exact ⟨_, rfl⟩
  case frameTimerExpiry => simp only [exec, execFrameTimerExpiry]; split <;> exact ⟨_, rfl⟩
  case fsyncEdge =>
    simp only [exec, execFsyncEdge]
    split
    · split <;> exact ⟨_, rfl⟩
    · exact ⟨_, rfl⟩
  case syncGapTimerExpiry => simp only [exec, execSyncGapTimerExpiry]; split <;> exact ⟨_, rfl⟩
  case lockTimerExpiry => simp only [exec, execLockTimerExpiry]; split <;> exact ⟨_, rfl⟩
  case acquisitionTimeout => simp only [exec, execAcquisitionTimeout]; split <;> exact ⟨_, rfl⟩
  case excitationEnd => simp only [exec, execExcitationEnd]; split <;> exact ⟨_, rfl⟩
  case lsyncEdge => simp only [exec, execLsyncEdge]; split <;> exact ⟨_, rfl⟩
  case listenGuardEnd => simp only [exec, execListenGuardEnd]; split <;> exact ⟨_, rfl⟩
  case alignTimeout => simp only [exec, execAlignTimeout]; split <;> exact ⟨_, rfl⟩
  case burstComplete =>
    simp only [exec, execBurstComplete]
    split
    · split <;> exact ⟨_, rfl⟩
    · exact ⟨_, rfl⟩
  case driverOvercurrent => simp only [exec, execDriverOvercurrent]; split <;> exact ⟨_, rfl⟩
  all_goals exact runCommand_next _ _ _

/-- Every step answers a next state. -/
theorem step_next (s : State) : ∃ t, step s = .next t := by
  unfold step
  split
  · unfold idleStep
    split
    · exact ⟨_, rfl⟩
    · exact exec_next _ _
    · exact exec_next _ _
  · exact exec_next _ _

end Sys2Proof.Machine
end

