-- ==== Sys2Proof/Laws/WordDecoder.lean ====
section
/-! SUPPORT. What the Word Decoder's operations keep (chapter 5). -/

namespace Sys2Proof.Machine

/-- A window holds at most its length. -/
theorem newest_length {α : Type} (n : Nat) (l : List α) : (newest n l).length = min n l.length := by
  simp [newest]; omega

/-- A bit enters the history and moves the count, and nothing else (R83). -/
theorem enterBit_keeps (bit : Option Bool) (w : WordRec) :
    enterBit bit w = { w with
      history := newest 16 (w.history ++ [⟨bit, w.count⟩]), count := (w.count + 1) % 8 } := rfl

/-- Two triples at one offset need at least four history entries, so fewer match nothing (R85). -/
theorem triplesAt_length (o : Nat) (l : List HistoryEntry) :
    (triplesAt o l).length ≤ l.length - 2 := by
  induction l with
  | nil => simp [triplesAt]
  | cons a l ih =>
    match l, ih with
    | [], _ => simp [triplesAt]
    | [_], _ => simp [triplesAt]
    | b :: c :: rest, ih =>
      unfold triplesAt
      simp only [List.length_cons] at ih ⊢
      split
      · simp only [List.length_cons]; omega
      · omega

theorem matchedAt_short (l : List HistoryEntry) (o : Nat) (h : l.length ≤ 3) :
    matchedAt l o = false := by
  have hl : (triplesAt o l).length ≤ 1 := le_trans (triplesAt_length o l) (by omega)
  unfold matchedAt
  match hr : (triplesAt o l).reverse with
  | [] => rfl
  | [b] => cases b <;> rfl
  | a :: b :: rest =>
    have : (triplesAt o l).length = rest.length + 2 := by
      rw [← List.length_reverse, hr]; rfl
    omega

/-- A word with an unknown bit is not usable (R88). -/
theorem allKnown_none (l : List (Option Bool)) (h : none ∈ l) : allKnown l = none := by
  induction l with
  | nil => cases h
  | cons a l ih =>
    cases a with
    | none => rfl
    | some b =>
      have : none ∈ l := by simpa using h
      simp [allKnown, ih this]

/-- The judgement of a word moves the sync-error window alone (R88). -/
@[simp] theorem judgeWord_history (ws : WordSettings) (word : List (Option Bool)) (w : WordRec) :
    (judgeWord ws word w).history = w.history := rfl

@[simp] theorem judgeWord_count (ws : WordSettings) (word : List (Option Bool)) (w : WordRec) :
    (judgeWord ws word w).count = w.count := rfl

@[simp] theorem feedButtons_history (ws : WordSettings) (u : Option UsableWord) (w : WordRec) :
    (feedButtons ws u w).history = w.history := by unfold feedButtons; split <;> rfl

@[simp] theorem feedButtons_count (ws : WordSettings) (u : Option UsableWord) (w : WordRec) :
    (feedButtons ws u w).count = w.count := by unfold feedButtons; split <;> rfl

/-- The lost alignment is the offset held (R89, R90). -/
@[simp] theorem loseAlignment_lost (w : WordRec) : (loseAlignment w).lost = w.aligned := rfl

@[simp] theorem loseAlignment_history (w : WordRec) : (loseAlignment w).history = w.history := rfl

@[simp] theorem loseAlignment_count (w : WordRec) : (loseAlignment w).count = w.count := rfl

@[simp] theorem feedCycle_history (ws : WordSettings) (u : Option UsableWord) (w : WordRec) :
    (feedCycle ws u w).1.history = w.history := by
  unfold feedCycle
  split
  · rfl
  · split <;> rfl
  · split
    · rfl
    · dsimp only
      split
      · unfold completeCycle; dsimp only; split <;> rfl
      · rfl

@[simp] theorem feedCycle_count (ws : WordSettings) (u : Option UsableWord) (w : WordRec) :
    (feedCycle ws u w).1.count = w.count := by
  unfold feedCycle
  split
  · rfl
  · split <;> rfl
  · split
    · rfl
    · dsimp only
      split
      · unfold completeCycle; dsimp only; split <;> rfl
      · rfl

/-- A sync triple at offset `o` begins at entry `i` of the history (R85). -/
def tripleAt (o : Nat) (h : List HistoryEntry) (i : Nat) : Bool := i + 2 < h.length && (h[i]?).map (·.count) = some o
/-- The triple that begins at entry `i` reads known 1, 1, 0 (R85). -/
def readsAt (h : List HistoryEntry) (i : Nat) : Bool := (h[i]?).map (·.bit) = some (some true)
       && (h[i + 1]?).map (·.bit) = some (some true) && (h[i + 2]?).map (·.bit) = some (some false)

/-- `triplesAt` reads the sync triples at an offset, oldest first (R85). -/
theorem triplesAt_eq (o : Nat) (h : List HistoryEntry) :
    triplesAt o h = ((List.range h.length).filter (tripleAt o h)).map (readsAt h) := by
  induction h with
  | nil => rfl
  | cons a l ih =>
    match l, ih with
    | [], _ => simp [triplesAt, tripleAt]
    | [b], _ => 
      have : List.range 2 = [0,1] := rfl
      simp [triplesAt, tripleAt, this]
    | b :: c :: rest, ih =>
      unfold triplesAt
      dsimp only
      rw [ih]
      have e1 : ∀ i, tripleAt o (a :: b :: c :: rest) (i + 1) = tripleAt o (b :: c :: rest) i := by
        intro i; simp only [tripleAt, List.length_cons, List.getElem?_cons_succ]
        congr 1; simp
      have e2 : ∀ i, readsAt (a :: b :: c :: rest) (i + 1) = readsAt (b :: c :: rest) i := by
        intro i; simp only [readsAt, List.getElem?_cons_succ]
      have hr : List.range (a :: b :: c :: rest).length = 0 :: (List.range (b :: c :: rest).length).map (· + 1) := by
        simp only [List.length_cons]; rw [List.range_succ_eq_map]
      rw [hr, List.filter_cons, List.filter_map]
      have e3 : (tripleAt o (a :: b :: c :: rest)) ∘ (· + 1) = tripleAt o (b :: c :: rest) := by funext i; exact e1 i
      rw [e3]
      have e0 : tripleAt o (a :: b :: c :: rest) 0 = decide (a.count = o) := by
        simp [tripleAt]
      have r0 : readsAt (a :: b :: c :: rest) 0 = (a.bit = some true && b.bit = some true && c.bit = some false) := by
        simp [readsAt]
      rw [e0]
      by_cases ha : a.count = o <;> simp [ha, r0, Function.comp_def, e2]

/-- A bit enters the history at the present count, and the count advances (R83). -/
theorem decodeBit_enters (ws : WordSettings) (bit : Option Bool) (w : WordRec) :
    (decodeBit ws bit w).1.history = (w.history ++ [HistoryEntry.mk bit w.count]).drop (w.history.length + 1 - 16)
      ∧ (decodeBit ws bit w).1.count = (w.count + 1) % 8 := by
  have hs : ∀ w' : WordRec, (searchAlignment ws w').history = w'.history ∧ (searchAlignment ws w').count = w'.count := by
    intro w'; unfold searchAlignment; split <;> (try split) <;> exact ⟨rfl, rfl⟩
  have hn : (enterBit bit w).history = (w.history ++ [HistoryEntry.mk bit w.count]).drop (w.history.length + 1 - 16) := by
    simp [enterBit, newest]
  unfold decodeBit; dsimp only; split
  · exact ⟨(hs _).1.trans hn, (hs _).2⟩
  · split
    · unfold completeWord; dsimp only; split
      · simp [hn]; rfl
      · simp [hn]; rfl
    · exact ⟨hn, rfl⟩

/-- An unknown bit validates no tool ID (R88, R92). -/
theorem decodeBit_unknown (ws : WordSettings) (w : WordRec) : (decodeBit ws none w).2 = none := by
  unfold decodeBit; dsimp only
  split
  · rfl
  · split
    · have hm : none ∈ newestWord (enterBit none w) := by
        have e : newestWord (enterBit none w)
            = (newest 8 (newest 16 (w.history ++ [⟨none, w.count⟩]))).map (·.bit) := rfl
        rw [e]
        refine List.mem_map.2 ⟨⟨none, w.count⟩, ?_, rfl⟩
        unfold newest
        simp only [List.drop_append, List.length_append, List.length_drop, List.length_cons,
          List.length_nil]
        simp
      have hu : usableWord (newestWord (enterBit none w)) = none := by
        unfold usableWord; rw [allKnown_none _ hm]; split <;> rfl
      have r : (completeWord ws (enterBit none w)).2 = none := by
        unfold completeWord; dsimp only; rw [hu]; split <;> rfl
      exact r
    · rfl

end Sys2Proof.Machine
end

