-- ==== Sys2Proof/WellFormed.lean ====
section
/-! DEFINITION. Which commands the outside world can send: a reading names no more coils than the
largest sheet has (R1). Every other operand is held in range by its type. -/

namespace Sys2Proof

/-- A reading fits a sheet: at most 192 X coils, and at most 128 Y coils on each sheet (R1). -/
def Reading.wf (r : Reading) : Bool :=
  r.x.length ≤ 192 && r.y.s0.length ≤ 128 && r.y.s1.length ≤ 128

/-- A command the outside world can send. -/
def Instr.wf : Instr → Bool
  | .burstComplete _ r => r.wf
  | .resetnAssert | .resetnRelease _ _ | .commandReset | .receiveByte _ | .framerGapExpiry
  | .unknownCommand | .queryId | .reset | .setLayout | .setPanel | .setScan | .setDisplay
  | .setWord | .channels | .start | .stop | .release | .loadProfile | .dropProfile
  | .readProfile | .readTrack | .hold | .readFaults | .clearFaults | .setFaultPolicy | .inject
  | .transmitComplete | .holdTimerExpiry | .frameTimerExpiry | .fsyncEdge _
  | .syncGapTimerExpiry | .lockTimerExpiry | .acquisitionTimeout | .excitationEnd _
  | .lsyncEdge _ | .listenGuardEnd _ | .alignTimeout _ | .driverOvercurrent _ => true

end Sys2Proof
end

