-- ==== Sys2Proof/Tests/Slice0.lean ====
section
/-! SUPPORT. Tests by the spec's worked examples, and for each statement with hypotheses a witness: a
state and operands that meet them, clause by clause, at the ends of their ranges. -/

namespace Sys2Proof.Tests

open Sys2Proof.Machine

/-! ### States the tests start from -/

/-- The part after reset, the ANNOUNCE sent. -/
def quiet : State := { State.reset with rqu := resetRqu [] }

/-- RESETN is low. -/
def held : State := { quiet with pins := ⟨true, .single, false, .pin⟩ }

/-- A command as received. -/
def sent (k : CommandKind) (p : List Byte) : Command := ⟨k.code, 7, p, false⟩

/-- One command is buffered. -/
def buffered (k : CommandKind) (p : List Byte) (s : State) : State :=
  { s with lnk := { s.lnk with buffer := [sent k p] } }

/-- A planned frame in RUNNING, at its end, with these plans. -/
def scanning (plan : PerSheet (List PlanEntry)) : State :=
  { quiet with
    cfe := { quiet.cfe with fixed := true }
    fts := { quiet.fts with scan := .running, frame := .planned, timerOn := true, timer := 4167 }
    bpl := { quiet.bpl with plan := plan, budget := 18 } }

/-- Every fault is of NOTICE severity. -/
def calm (s : State) : State :=
  { s with fmo := { s.fmo with recs := perFault fun _ => ⟨false, false, false, false⟩ } }

/-- DRIVER_TRIP is set: a halting condition. -/
def tripped (s : State) : State :=
  { s with fmo := { s.fmo with recs := s.fmo.recs.set .driverTrip ⟨true, true, false, true⟩ } }

/-- HALTED in a planless frame at its end. -/
def halted : State :=
  { tripped quiet with
    cfe := { quiet.cfe with fixed := true }
    fts := { quiet.fts with scan := .halted, frame := .planless, timerOn := true, timer := 4167 } }

/-- One entry on sheet 0's plan, its engine in a state. -/
def burning (b : Burst) (st : EngineState) : State :=
  { scanning ⟨[⟨b, .inFlight⟩], []⟩ with
    cfe := { quiet.cfe with fixed := true, engine := ⟨{ idleEngine with st := st }, idleEngine⟩ } }

/-- A straddling TIP of channel 1 in DUAL, both engines at it in a state. -/
def straddling (st : EngineState) : State :=
  { scanning ⟨[⟨.tip .c1 76 26 true, .inFlight⟩], [⟨.tip .c1 76 26 true, .inFlight⟩]⟩ with
    cfe := { resetCfe .dual with
      fixed := true, engine := everySheet { idleEngine with st := st } } }

/-- The framer is in a state of a frame of a LENGTH. -/
def framing (st : FramerState) (length : Nat) (payload : List Byte) : State :=
  { quiet with lnk := { quiet.lnk with framer := ⟨st, length, 0x01, 7, payload, 0, some 1000⟩ } }

/-- Nine amplitudes with their peak in the middle. -/
def nine (a : Nat) : List Nat := [0, 0, 0, a / 2, a, a / 3, 0, 0, 0]

/-- A TIP record of channel 1 around coil (37, 30). -/
def tipOf (a : Nat) : BurstRecord := .tip ⟨.c1, false, 33, 26, nine a, ⟨nine a, []⟩⟩ (some 24160)

/-- A slot of channel 1 around coil (37, 30), in a state, with its last position. -/
def penAt (st : SlotState) (x : Int) : Slot :=
  { resetSlot with
    state := st, centreX := 37, centreY := 30, lastX := x, lastY := 18000, confirm := 1
    prox := st = .track, misses := [false], word := some newWord }

/-- A close with channel 1's slot and one TIP record. -/
def closing (sl : Slot) (r : BurstRecord) : State :=
  { scanning ⟨[], []⟩ with
    ptr := { resetPtr with records := [r], slots := resetPtr.slots.set .c1 sl } }

/-- A MOTION of channel 0. -/
def motion (tip : TipState) : Motion :=
  ⟨.c0, 1, 1, 1, 5, tip, none, none, none, noFlags, 0, false⟩

/-- A full queue: 48 MOTION, the newest of them given. -/
def full (last : Entry) : Rqu := resetRqu (List.replicate 48 (.motion (motion .up)) ++ [last])

/-! ### Well-formedness -/

theorem test_wf_takes_192_x : (Instr.burstComplete .s0 ⟨List.replicate 192 0, ⟨[], []⟩, 0, 0⟩).wf := by
  decide +kernel

theorem test_wf_refuses_193_x :
    (Instr.burstComplete .s0 ⟨List.replicate 193 0, ⟨[], []⟩, 0, 0⟩).wf = false := by decide +kernel

theorem test_wf_refuses_129_y0 :
    (Instr.burstComplete .s0 ⟨[], ⟨List.replicate 129 0, []⟩, 0, 0⟩).wf = false := by decide +kernel

theorem test_wf_refuses_129_y1 :
    (Instr.burstComplete .s0 ⟨[], ⟨[], List.replicate 129 0⟩, 0, 0⟩).wf = false := by decide +kernel

/-! ### The spec's worked examples -/

/-- R175's check. -/
theorem test_crc : crc [0x31, 0x32, 0x33, 0x34, 0x35, 0x36, 0x37, 0x38, 0x39] = 0x29B1 := by decide +kernel

/-- Chapter 11's MOTION. -/
theorem test_motion_payload :
    motionPayload ⟨.c1, 1201, 21300, 18000, 2654, .down, some (195, -100),
      some ⟨false, false, false⟩, some 4660, noFlags, 0, false⟩
    = [0x01, 0x07, 0xB1, 0x04, 0x34, 0x53, 0x00, 0x00, 0x50, 0x46, 0x00, 0x00, 0x5E, 0x0A, 0x01,
        0xC3, 0x00, 0x9C, 0xFF, 0x00, 0x34, 0x12, 0x00, 0x00] ++ List.replicate 10 0x00 := by
  decide +kernel

/-- Chapter 3's budgets. -/
theorem test_slot_budget : [2400, 4167, 5556, 8333, 10000].map slotBudget = [10, 18, 25, 38, 40] := by
  decide +kernel

/-- Chapter 6's tilt of (600, −300) at h = 1800. -/
theorem test_tilt : tiltOf 1800 600 (-300) = ((195, -100), false) := by decide +kernel

/-- Chapter 6's pressure through a curve. -/
theorem test_curve :
    outValue (some ⟨800, 1600, 2400, 3200, 0, 400, 1200, 2200, 3300, 4095⟩) 2045 = 1756 := by decide +kernel

/-- Chapter 8's TOOL of an ended proximity: removed, and the new one placed. -/
theorem test_tool_outlives :
    ((resetRqu [.tool .c2 300 (some 300), .penOut .c2, .penIn .c2]).handTool .c2 812 none).queue
      = [.penOut .c2, .penIn .c2, .tool .c2 812 none] := by decide +kernel

/-- A released part announces itself: the ANNOUNCE's first bytes on TXD (R144, R174, R196). -/
theorem test_announce : (match exec (.resetnRelease .high .low) held with
    | .next t => t.lnk.tx.map fun x => x.bytes.take 9
    | _ => none) = some [0xC3, 0x05, 0x45, 0x00, 0x40, 0x22, 0x01, 0x01, 0x00] := by decide +kernel

/-- START opens frame 1 with a budget of 18 and a PROBE listening (R40, R42). -/
theorem test_start : (match exec .start (buffered .start [] quiet) with
    | .next t => some (t.fts.frameNo, t.bpl.budget, t.bpl.plan.s0.length, t.cfe.engine.s0.st)
    | _ => none) = some (1, 18, 18, .listen) := by decide +kernel

/-- 64 cycles at each tip free frequency in ticks of 5 ns, and the defaults' P_free (the channel table
of chapter 1, R120). -/
theorem test_free_counts :
    Channel.all.map (fun c => (64 * 200000 + tipFreq c / 2) / tipFreq c) = [27234, 24151, 21695, 19692]
    ∧ Channel.all.map (fun c => (State.reset.ptb.defaults.get c).pFree)
        = [27234, 24151, 21695, 19692] := by decide +kernel

/-- C3h on TXD at 1 Mbit/s: idle, start bit, 1 1 0 0 0 0 1 1, stop bit, idle (R173). -/
theorem test_txd_levels :
    [31, 30, 28, 27, 24, 21, 18, 15, 12, 9, 6, 3, 1, 0].map
      (fun left => ({ quiet with lnk := { quiet.lnk with tx := some ⟨[0xC3], left, false⟩ } } : State).txd)
    = [true, false, false, true, true, false, false, false, false, true, true, true, true, true] := by
  decide +kernel

/-- A straddling window at coil 76 of the DUAL defaults drives the top four X lines in use of sheet 0
and the first five of sheet 1 (R1, R15). -/
theorem test_straddling_lines :
    [Sheet.s0, .s1].map (straddling .excite).driveOn
    = [some ⟨530, [76, 77, 78, 79], .exa⟩, some ⟨530, [160, 161, 162, 163, 164], .exb⟩] := by
  decide +kernel

/-- A word spells no command: no row of the table has bits. -/
theorem test_no_word_spells : decodeTableWord 8 0x5A = none := by decide +kernel

/-! ### Witnesses: steps and resets -/

theorem witness_StepRunsFront :
    ({ quiet with pending := [.resetnAssert, .start] } : State).pending = .resetnAssert :: [.start] :=
  rfl

theorem witness_IdleStepPassesOneMicrosecond :
    quiet.pending = [] ∧ quiet.pins.resetLow = false ∧ dueEvents quiet = [] := by decide +kernel

theorem witness_ResetsStartAnew :
    quiet.pins.resetLow = false ∧ held.pins.resetLow = true ∧ held.pending = []
      ∧ (∀ l k, Instr.resetnAssert ≠ .resetnRelease l k)
      ∧ ({ quiet with cpr := .resetDue } : State).cpr = .resetDue := by
  exact ⟨rfl, rfl, rfl, fun _ _ h => (by cases h), rfl⟩

/-! ### Witnesses: receiving and transmitting -/

theorem witness_FramerTakesByte :
    quiet.pins.resetLow = false ∧ quiet.lnk.framer.st = .hunt ∧ (0xC3 : Byte) = 0xC3
      ∧ (0xC2 : Byte) ≠ 0xC3
      ∧ (framing .length 0 []).lnk.framer.st = .length ∧ (200 : Byte).toNat ≤ 200
      ∧ 200 < (201 : Byte).toNat
      ∧ (framing .kind 200 []).lnk.framer.st = .kind ∧ (framing .tag 0 []).lnk.framer.st = .tag
      ∧ (framing .payload 1 []).lnk.framer.st = .payload
      ∧ (framing .payload 1 []).lnk.framer.payload.length < (framing .payload 1 []).lnk.framer.length
      ∧ (framing .crcHigh 0 []).lnk.framer.st = .crcHigh := by decide +kernel

/-- A frame of KIND `k` whose CRC is right but for its last byte, with `n` commands buffered. -/
def ending (k : Byte) (n : Nat) : State :=
  { quiet with lnk := { quiet.lnk with
      framer := ⟨.crcLow, 0, k, 7, [], (crc [0, k, 7]).extractLsb' 8 8, some 0⟩
      buffer := List.replicate n (sent .queryId []) } }

/-- Of the last clauses of `FramerTakesByte`. -/
theorem witness_FramerTakesByte_last :
    (ending 1 3).pins.resetLow = false ∧ (ending 1 3).lnk.framer.st = .crcLow
      ∧ (∀ k ∈ [0, 1, 20, 21], crc [0, BitVec.ofNat 8 k, 7]
          = (ending (BitVec.ofNat 8 k) 3).lnk.framer.crcHigh
            ++ (crc [0, BitVec.ofNat 8 k, 7]).extractLsb' 0 8)
      ∧ crc [0, 1, 7]
          ≠ (ending 1 3).lnk.framer.crcHigh ++ ((crc [0, 1, 7]).extractLsb' 0 8 + (1 : Byte))
      ∧ 4 ≤ (ending 1 4).lnk.buffer.length ∧ (ending 1 3).lnk.buffer.length < 4
      ∧ (1 ≤ (20 : Byte).toNat ∧ (20 : Byte).toNat ≤ 20) ∧ ¬ (1 ≤ (0 : Byte).toNat)
      ∧ ¬ (21 : Byte).toNat ≤ 20 := by decide +kernel

theorem witness_ReceiverTakesEveryFrame :
    1 ≤ (20 : Byte).toNat ∧ (20 : Byte).toNat ≤ 20
      ∧ (List.replicate 200 (0xC3 : Byte)).length ≤ 200 ∧ quiet.pins.resetLow = false
      ∧ quiet.lnk.framer = idleFramer ∧ quiet.lnk.buffer.length < 4 := by decide +kernel

/-- A frame whose last byte has just left TXD. -/
def sentOut : State := { quiet with lnk := { quiet.lnk with tx := some ⟨[0xC3], 0, true⟩ } }

/-- One reply is pending. -/
def replying : State :=
  { quiet with lnk := { quiet.lnk with replies := [⟨0x81, 7, [0], false⟩] } }

theorem witness_ArbiterChooses :
    (quiet.pins.resetLow = false ∧ quiet.cpr ≠ .resetDue ∧ quiet.lnk.tx = none)
      ∧ replying.lnk.replies = ⟨0x81, 7, [0], false⟩ :: []
      ∧ quiet.lnk.replies = [] ∧ quiet.rqu.hold = none
      ∧ ({ quiet with rqu := resetRqu [.alert] } : State).rqu.queue = .alert :: []
      ∧ (∀ b ∈ [none, some ⟨true, false, true⟩],
        ({ quiet with rqu := resetRqu [.motion { motion .up with buttons := b }] } : State).rqu.queue
          = .motion { motion .up with buttons := b } :: [])
      ∧ sentOut.lnk.tx ≠ none ∧ quiet.rqu.queue = []
      ∧ ({ quiet with rqu := { quiet.rqu with hold := some 1 } } : State).rqu.hold ≠ none := by
  decide +kernel

/-! ### Witnesses: commands -/

theorem witness_RefusalsChangeNothing :
    Takes .inject (buffered .inject [0] quiet) (sent .inject [0]) []
      ∧ rowOf (sent .inject [0]) = some .inject ∧ (sent .inject [0]).payload.length ≠ 2
      ∧ ({ quiet with lnk := { quiet.lnk with buffer := [⟨0x33, 7, [], true⟩] } } : State).lnk.buffer
          = (⟨0x33, 7, [], true⟩ : Command) :: []
      ∧ quiet.lnk.replies.length < 2 ∧ quiet.cpr = .idle
      ∧ (setLayoutRule [2] quiet).payload.head? ≠ some 0x00
      ∧ (clearFaultsRule [1, 0, 0] quiet).payload.head? ≠ some 0x00 := by decide +kernel

/-- Of `QueryIdReplies`, `StopHoldResetTake`, `ReadTrackShowsTable` and `ReadFaultsOpensSnapshot`. -/
theorem witness_commands_without_payload :
    ∀ k ∈ [CommandKind.queryId, .reset, .stop, .readTrack, .readFaults],
      Takes k (buffered k [] quiet) (sent k []) [] ∧ (sent k []).payload = [] := by decide +kernel

/-- The least and the greatest panel of SINGLE. -/
def least : Panel := ⟨9, 0, 9, 400, 0, 0, 1, 1⟩
def greatest : Panel := ⟨192, 0, 128, 800, 153600, 153600, 153600, 153600⟩

/-- A record with a curve, and one without. -/
def flat : Profile := ⟨10001, 10000, 500, 1, 0, false, none⟩
def curved : Profile :=
  ⟨40000, 10000, 3000, 4095, 4094, true, some ⟨1, 2, 3, 4094, 0, 0, 0, 0, 0, 4095⟩⟩

/-- A SET_PANEL's payload. -/
def panelBytes (g : Panel) : List Byte :=
  u8 g.n0 ++ u8 g.n1 ++ u8 g.yCount ++ u16 g.pitch ++ u32 g.originX ++ u32 g.originY ++ u32 g.width
    ++ u32 g.height

theorem witness_GeometryCommandsTake :
    (∀ b ∈ [0, 1], Takes .setLayout (buffered .setLayout (u8 b) quiet) (sent .setLayout (u8 b)) [])
    ∧ (0 : Byte).toNat = (if Layout.single = .single then 0 else 1)
    ∧ (1 : Byte).toNat = (if Layout.dual = .single then 0 else 1)
    ∧ quiet.cfe.fixed = false ∧ quiet.bpl.active.detectMin ≤ 65535 ∧ quiet.cfe.layout = .single
    ∧ (∀ g ∈ [least, greatest],
      Takes .setPanel (buffered .setPanel (panelBytes g) quiet) (sent .setPanel (panelBytes g)) []
        ∧ 9 ≤ g.n0 ∧ g.n0 ≤ 192 ∧ g.n1 = 0 ∧ 9 ≤ g.yCount ∧ g.yCount ≤ 128 ∧ 400 ≤ g.pitch
        ∧ g.pitch ≤ 800 ∧ g.originX ≤ 153600 ∧ g.originY ≤ 153600 ∧ 1 ≤ g.width
        ∧ g.width ≤ 153600 ∧ 1 ≤ g.height ∧ g.height ≤ 153600)
    ∧ quiet.fts.scan = .stopped ∧ halted.fts.scan ≠ .stopped ∧ halted.cfe.fixed = true
    ∧ Takes .setPanel (buffered .setPanel (panelBytes least) halted)
        (sent .setPanel (panelBytes least)) []
    ∧ Takes .setLayout (buffered .setLayout [1] halted) (sent .setLayout [1]) [] := by
  decide +kernel

/-- A SET_SCAN's payload. -/
def scanBytes (period : Nat) (r : ScanSettings) : List Byte :=
  u16 period ++ u16 r.detectMin ++ u8 r.confirm ++ u8 r.missWindow ++ u8 r.missLimit ++ u16 r.jump
    ++ u8 (r.edgeReload.toNat + 2 * r.align.toNat)

theorem witness_SettingsCommandsTake :
    (∀ x ∈ [(2400, (⟨64, 2, 4, 2, 500, false, false⟩ : ScanSettings)),
        (10000, ⟨65535, 3, 8, 3, 50000, true, true⟩)],
      Takes .setScan (buffered .setScan (scanBytes x.1 x.2) quiet)
          (sent .setScan (scanBytes x.1 x.2)) []
        ∧ 2400 ≤ x.1 ∧ x.1 ≤ 10000 ∧ 64 ≤ x.2.detectMin ∧ x.2.detectMin ≤ 65535 ∧ 2 ≤ x.2.confirm
        ∧ x.2.confirm ≤ 3 ∧ 4 ≤ x.2.missWindow ∧ x.2.missWindow ≤ 8 ∧ 2 ≤ x.2.missLimit
        ∧ x.2.missLimit ≤ 3 ∧ 500 ≤ x.2.jump ∧ x.2.jump ≤ 50000)
    ∧ (∀ w ∈ [4, 6], 4 ≤ w ∧ w ≤ 6
        ∧ Takes .setWord (buffered .setWord (u8 1 ++ u8 w ++ u8 0) quiet)
          (sent .setWord (u8 1 ++ u8 w ++ u8 0)) [])
    ∧ Takes .channels (buffered .channels (u8 15) quiet) (sent .channels (u8 15)) []
    ∧ Takes .release (buffered .release (u8 Channel.c3.num) quiet)
        (sent .release (u8 Channel.c3.num)) []
    ∧ (quiet.slot .c3).state ≠ .idle
    ∧ ((quiet.setSlot .c3 { resetSlot with state := .idle }).slot .c3).state = .idle
    ∧ (∀ x ∈ [(6000, 10), (32000, 2000)],
      Takes .setDisplay (buffered .setDisplay (u16 x.1 ++ u16 x.2 ++ u8 3) quiet)
          (sent .setDisplay (u16 x.1 ++ u16 x.2 ++ u8 3)) []
        ∧ 6000 ≤ x.1 ∧ x.1 ≤ 32000 ∧ 10 ≤ x.2 ∧ x.2 ≤ 2000) := by decide +kernel

/-- A LOAD_PROFILE's payload. -/
def loadBytes (kind id : Nat) (r : Profile) : List Byte := u8 kind ++ u16 id ++ profileBytes r

/-- A payload of each kind, taken, of the right LENGTH, each with one field just out of its range. -/
theorem witness_BadFieldsRefused :
    (∀ x ∈ [(CommandKind.setLayout, u8 2), (.setPanel, panelBytes { least with n0 := 8 }),
        (.setPanel, panelBytes { greatest with height := 153601 }),
        (.setScan, scanBytes 2399 ⟨64, 2, 4, 2, 500, false, false⟩), (.setDisplay, u16 6000 ++ u16 9 ++ u8 3),
        (.setDisplay, u16 6000 ++ u16 10 ++ u8 4), (.setWord, u8 2 ++ u8 4 ++ u8 0),
        (.setWord, u8 1 ++ u8 7 ++ u8 0), (.channels, u8 16), (.release, u8 4),
        (.loadProfile, loadBytes 0 4 flat), (.loadProfile, loadBytes 1 1 { flat with pFull := 10001 }),
        (.loadProfile, loadBytes 1 1 { curved with curve := some ⟨1, 2, 3, 4095, 0, 0, 0, 0, 0, 4095⟩ }),
        (.dropProfile, u8 0 ++ u16 0), (.readProfile, u8 3 ++ u16 1), (.readProfile, u8 1 ++ u16 0),
        (.clearFaults, u8 0 ++ u16 1024), (.setFaultPolicy, u16 1023 ++ u16 1024), (.inject, [4, 0]),
        (.inject, [1, 4])],
      Takes x.1 (buffered x.1 x.2 quiet) (sent x.1 x.2) [] ∧ (sent x.1 x.2).payload.length = x.1.length)
    ∧ quiet.cfe.fixed = false ∧ quiet.fts.scan = .stopped ∧ quiet.cfe.layout = .single
    ∧ u8At (panelBytes { least with n0 := 8 }) 0 < 9
    ∧ 153600 < u32At (panelBytes { greatest with height := 153601 }) 17
    ∧ u16At (scanBytes 2399 ⟨64, 2, 4, 2, 500, false, false⟩) 0 < 2400
    ∧ u16At (loadBytes 1 1 { flat with pFull := 10001 }) 3 ≤ u16At (loadBytes 1 1 { flat with pFull := 10001 }) 5
    ∧ (let p := loadBytes 1 1 { curved with curve := some ⟨1, 2, 3, 4095, 0, 0, 0, 0, 0, 4095⟩ }
      u8At p 14 = 1 ∧ 4094 < u16At p (15 + 2 * 3)) := by decide +kernel

theorem witness_StartOpensFirstFrame :
    (∀ s ∈ [quiet, tripped quiet, scanning ⟨[], []⟩, halted],
      Takes .start (buffered .start [] s) (sent .start []) [])
    ∧ quiet.fts.scan = .stopped ∧ quiet.fmo.halting = false
    ∧ (∀ d ∈ Channel.all, (quiet.slot d).state.active = false)
    ∧ (tripped quiet).fts.scan = .stopped ∧ (tripped quiet).fmo.halting = true
    ∧ (scanning ⟨[], []⟩).fts.scan = .running ∧ halted.fts.scan = .halted := by decide +kernel

theorem witness_StopHoldResetTake : ∀ n ∈ [0, 65535], n ≤ 65535
    ∧ Takes .hold (buffered .hold (u16 n) quiet) (sent .hold (u16 n)) [] := by decide +kernel

/-- A table of sixteen tool records, 1..16. -/
def sixteen : State :=
  { quiet with ptb := { quiet.ptb with tools := (List.range 16).map fun k => (k + 1, flat) } }

/-- Channel 0's slot in TRACK with a tool ID. -/
def carrying (id : Nat) (bound : Option Nat) (s : State) : State :=
  s.setSlot .c0 { penAt .track 0 with toolId := some id, bound := bound }

theorem sixteen_legal : TableLegal sixteen.ptb := by
  refine ⟨?_, by decide +kernel, by decide +kernel, by decide +kernel⟩
  intro c; cases c <;> decide +kernel

theorem quiet_legal : TableLegal quiet.ptb := by
  refine ⟨?_, by decide +kernel, by decide +kernel, by decide +kernel⟩
  intro c; cases c <;> decide +kernel

/-- Of both clauses of `LoadProfileStores`: curve bytes that are not 0 under the curve indicator 0. -/
theorem witness_LoadProfileStores_uncurved :
    let p := (profileBytes flat).take 12 ++ List.replicate 20 (0xFF : Byte)
    p.length = 32 ∧ p.take 12 = (profileBytes flat).take 12 ∧ flat.curve = none
    ∧ curved.curve ≠ none ∧ (profileBytes curved).length = 32
    ∧ Takes .loadProfile (buffered .loadProfile (u8 0 ++ u16 Channel.c3.num ++ p) quiet)
        (sent .loadProfile (u8 0 ++ u16 Channel.c3.num ++ p)) [] := by decide +kernel

/-- With the two legal tables above. -/
theorem witness_LoadProfileStores :
    (∀ r ∈ [flat, curved], profileValid r = true
      ∧ Takes .loadProfile (buffered .loadProfile (u8 0 ++ u16 Channel.c3.num ++ profileBytes r) quiet)
          (sent .loadProfile (u8 0 ++ u16 Channel.c3.num ++ profileBytes r)) [])
    ∧ (∀ id ∈ [1, 65535],
      Takes .loadProfile (buffered .loadProfile (u8 1 ++ u16 id ++ profileBytes flat)
          (carrying id none quiet)) (sent .loadProfile (u8 1 ++ u16 id ++ profileBytes flat)) []
        ∧ (carrying id none quiet).ptb.tools.length < 16
        ∧ ((carrying id none quiet).slot .c0).toolId = some id
        ∧ ((carrying id none quiet).slot .c0).bound ≠ some id)
    ∧ toolRecord sixteen.ptb 16 = some flat ∧ toolRecord sixteen.ptb 17 = none
    ∧ 16 ≤ sixteen.ptb.tools.length
    ∧ Takes .loadProfile (buffered .loadProfile (u8 1 ++ u16 17 ++ profileBytes flat) sixteen)
        (sent .loadProfile (u8 1 ++ u16 17 ++ profileBytes flat)) [] := by decide +kernel

theorem witness_DropProfileRebinds :
    Takes .dropProfile (buffered .dropProfile (u8 1 ++ u16 16) (carrying 16 (some 16) sixteen))
        (sent .dropProfile (u8 1 ++ u16 16)) []
    ∧ toolRecord (carrying 16 (some 16) sixteen).ptb 16 = some flat
    ∧ ((carrying 16 (some 16) sixteen).slot .c0).toolId = some 16
    ∧ ((carrying 16 (some 16) sixteen).slot .c0).bound ≠ none
    ∧ Takes .dropProfile (buffered .dropProfile (u8 1 ++ u16 65535) sixteen)
        (sent .dropProfile (u8 1 ++ u16 65535)) []
    ∧ toolRecord sixteen.ptb 65535 = none := by decide +kernel

theorem witness_ReadProfileReads :
    (∀ p ∈ [u8 0 ++ u16 Channel.c0.num, u8 1 ++ u16 16, u8 2 ++ u16 0, u8 1 ++ u16 17],
      Takes .readProfile (buffered .readProfile p sixteen) (sent .readProfile p) [])
    ∧ toolRecord sixteen.ptb 16 = some flat ∧ toolRecord sixteen.ptb 17 = none := by decide +kernel

/-! ### Witnesses: faults -/

/-- A set of faults: DRIVER_TRIP alone. -/
def tripSet : PerFault Bool := perFault fun f => f = .driverTrip

theorem witness_ClearFaultsClears :
    (∀ s ∈ [halted, quiet], ∀ b ∈ [0, 1],
      Takes .clearFaults (buffered .clearFaults (u8 b ++ u16 (faultWord tripSet)) s)
        (sent .clearFaults (u8 b ++ u16 (faultWord tripSet))) []
      ∧ (s.fts.scan = .running → s.fmo.halting = false)
      ∧ (s.fts.scan = .halted → s.fmo.halting = true))
    ∧ (0 : Byte) = halted.fmo.snapshot ∧ (1 : Byte) ≠ halted.fmo.snapshot := by decide +kernel

/-- A policy's payload: a mask, and HALT severity for every fault. -/
def policyBytes (mask : PerFault Bool) : List Byte :=
  u16 (faultWord mask) ++ u16 (faultWord (perFault fun _ => true))

/-- DRIVER_TRIP set under a policy of NOTICE. -/
def noticed : State :=
  { scanning ⟨[], []⟩ with fmo := { resetFmo with
      recs := resetFmo.recs.set .driverTrip ⟨true, true, false, false⟩ } }

theorem witness_SetFaultPolicyActsAtOnce :
    (∀ s ∈ [noticed, tripped quiet, halted, quiet], ∀ m ∈ [perFault fun _ => false, tripSet],
      Takes .setFaultPolicy (buffered .setFaultPolicy (policyBytes m) s)
        (sent .setFaultPolicy (policyBytes m)) [])
    ∧ (setPolicy (perFault fun _ => false) (perFault fun _ => true) noticed.fmo).halting = true
    ∧ noticed.fts.scan = .running
    ∧ (setPolicy (perFault fun _ => false) (perFault fun _ => true) halted.fmo).halting = true
    ∧ (setPolicy tripSet (perFault fun _ => true) halted.fmo).halting = false
    ∧ halted.fts.scan = .halted ∧ quiet.fts.scan ≠ .halted
    ∧ (setPolicy tripSet (perFault fun _ => true) quiet.fmo).halting = false := by decide +kernel

theorem witness_InjectArms :
    (∀ p ∈ [u8 0 ++ u8 Channel.c3.num, u8 1 ++ u8 Channel.c0.num, [2, 0xFF], [3, 0xFF]],
      Takes .inject (buffered .inject p quiet) (sent .inject p) [])
    ∧ quiet.fmo.armed.has .driverTrip = false
    ∧ (quiet.fmo.armed.arm .driverTrip).has .driverTrip = true := by decide +kernel

theorem witness_RaiseRecords :
    (quiet.fmo.recs.get .twin).masked = false
    ∧ ((setPolicy (perFault fun _ => true) (perFault fun _ => true) quiet.fmo).recs.get .twin).masked
        = true
    ∧ (raiseFault .twin quiet).fmo.halting = false
    ∧ (let s := scanning ⟨[], []⟩
      (s.fmo.recs.get .driverTrip).masked = false ∧ s.fts.scan = .running
        ∧ (raiseFault .driverTrip s).fmo.halting = true) := by decide +kernel

/-! ### Witnesses: display sync -/

/-- A lock state with its captures, at time base 0. -/
def syncing (lock : LockState) (capture : Option Half) (consec : Nat) (history : List Bool) : State :=
  { quiet with fts := { quiet.fts with
      lock := lock, capture := capture, gap := some 33334, acq := some 1066688, consec := consec
      history := history, timebase := 0 } }

/-- The same while scanning, `age` µs after the frame opened. -/
def syncingAt (age : Nat) (s : State) : State :=
  { s with fts := { s.fts with scan := .running, frame := .planned, timerOn := true, age := age } }

theorem witness_FsyncAcquires :
    Polarity.falling ≠ quiet.fts.display.frameSync ∧ Polarity.rising = quiet.fts.display.frameSync
    ∧ quiet.fmo.armed.edgeDrop = false ∧ (quiet.fmo.armed.arm .edgeDrop).edgeDrop = true
    ∧ quiet.fts.lock = .unlocked
    ∧ (syncing .acquiring none 0 []).fts.lock = .acquiring
    ∧ (syncing .acquiring none 0 []).fts.capture = none
    ∧ (∀ e ∈ [49069, 48669], 16667 ≤ ((0 : Half) - BitVec.ofNat 16 e).toNat + 200
        ∧ ((0 : Half) - BitVec.ofNat 16 e).toNat ≤ 16667 + 200)
    ∧ (∀ e ∈ [49070, 48668], ¬ (16667 ≤ ((0 : Half) - BitVec.ofNat 16 e).toNat + 200
        ∧ ((0 : Half) - BitVec.ofNat 16 e).toNat ≤ 16667 + 200))
    ∧ (syncing .acquiring (some 49069) 1 []).fts.consec < 2
    ∧ (syncing .acquiring (some 49069) 2 []).fts.consec = 2
    ∧ (syncing .acquiring (some 49069) 2 []).fts.scan = .stopped
    ∧ (∀ age ∈ [299, 300], (syncingAt age (syncing .acquiring (some 49069) 2 [])).fts.scan ≠ .stopped)
    ∧ quiet.bpl.active.edgeReload = true := by decide +kernel

theorem witness_FsyncInLocked :
    (∀ h ∈ [[true, true, true, false], [true, true, true]],
      (syncing .locked (some 0) 0 h).fts.lock = .locked)
    ∧ 2 ≤ (([true, true, true, false] ++ [false] : List Bool).drop (4 + 1 - 4)).count false
    ∧ (([true, true, true] ++ [false] : List Bool).drop (3 + 1 - 4)).count false < 2
    ∧ (syncing .locked none 0 [true, true, true]).fts.capture = none
    ∧ (syncing .locked (some 0) 0 [true, true, true]).fts.scan = .stopped
    ∧ (∀ age ∈ [299, 300],
      (syncingAt age (syncing .locked (some 0) 0 [true, true, true])).fts.scan ≠ .stopped) := by
  decide +kernel

theorem witness_TimersExpire :
    (framing .kind 0 []).pins.resetLow = false
    ∧ (framing .kind 0 []).lnk.framer.gap = some 1000 ∧ 1000 ≤ 1000
    ∧ sentOut.lnk.tx = some ⟨[0xC3], 0, true⟩
    ∧ ({ quiet with rqu := { quiet.rqu with hold := some 0 } } : State).rqu.hold = some 0
    ∧ (syncing .acquiring none 0 []).fts.gap = some 33334 ∧ 2 * quiet.fts.display.period ≤ 33334
    ∧ (syncing .acquiring none 0 []).fts.lock = .acquiring
    ∧ (syncing .locked none 0 []).fts.lock = .locked
    ∧ (syncing .acquiring none 0 []).fts.acq = some 1066688
    ∧ 64 * quiet.fts.display.period ≤ 1066688
    ∧ (syncing .acquiring none 0 []).fts.timeoutRaised = false
    ∧ ({ quiet.fts with timeoutRaised := true } : Fts).timeoutRaised = true := by decide +kernel

/-! ### Witnesses: frames and bursts -/

/-- A frame at its end with a completed PROBE and a SEARCH in the given run state, and a stop pending
or not. -/
def closingFrame (run : RunState) (stop : Bool) : State :=
  let s := scanning ⟨[⟨.probe, .completed⟩, ⟨.search .c0 0, run⟩], []⟩
  { s with fts := { s.fts with stopReq := stop } }

/-- Of `BoundaryCloses` and `RunningBoundaryOpensNext`, each with every premise at once, under the
fault policy of a reset. -/
theorem witness_boundaries :
    (halted.pins.resetLow = false ∧ halted.fts.timerOn = true ∧ halted.fts.period ≤ halted.fts.timer
      ∧ halted.fts.scan = .halted ∧ halted.fts.frame ≠ .planned)
    ∧ (∀ run ∈ [RunState.completed, .inFlight, .planned, .unrun], ∀ stop ∈ [false, true],
      (closingFrame run stop).pins.resetLow = false ∧ (closingFrame run stop).fts.timerOn = true
        ∧ (closingFrame run stop).fts.period ≤ (closingFrame run stop).fts.timer
        ∧ (closingFrame run stop).fts.scan = .running ∧ (closingFrame run stop).fts.frame = .planned
        ∧ (closingFrame run stop).fts.stopReq = stop
        ∧ NoHaltBy boundaryFaults (closingFrame run stop).fmo
        ∧ ((closingFrame run stop).fmo.recs.get .driverTrip).masked = false
        ∧ ((closingFrame run stop).fmo.recs.get .driverTrip).halt = true)
    ∧ ⟨.search .c0 0, .planned⟩ ∈ (closingFrame .planned false).bpl.plan.s0
        ++ (closingFrame .planned false).bpl.plan.s1 := by decide +kernel

/-- A fault is unmasked, of HALT severity and not set. -/
def severe (f : FaultId) (s : State) : State :=
  { s with fmo := { s.fmo with recs := s.fmo.recs.set f ⟨false, false, false, true⟩ } }

/-- Of the clause of `BoundaryCloses` on a FRAME_CUT of HALT severity. -/
theorem witness_boundary_cut : ∀ run ∈ [RunState.planned, .inFlight], ∀ stop ∈ [false, true],
    let s := severe .frameCut (closingFrame run stop)
    s.pins.resetLow = false ∧ s.fts.timerOn = true ∧ s.fts.period ≤ s.fts.timer
      ∧ s.fts.scan = .running ∧ s.fts.frame = .planned ∧ LeavesUnrun s
      ∧ (s.fmo.recs.get .frameCut).masked = false ∧ (s.fmo.recs.get .frameCut).halt = true
      ∧ s.fts.stopReq = stop := by decide +kernel

/-- Of `ListeningPlaced`: an engine at the end of its excitation, alone
and straddling, LOCKED with alignment, and in ALIGN before and after its
edge. -/
theorem witness_ListeningPlaced :
    ((burning (.search .c0 0) .excite).engine .s0).st = .excite
    ∧ (∀ sh ∈ [Sheet.s0, .s1], ((straddling .excite).engine sh).st = .excite
      ∧ ((straddling .excite).burstAt sh).any Burst.straddles = true)
    ∧ (syncing .locked (some 0) 0 [true]).fts.lock = .locked ∧ quiet.bpl.active.align = true
    ∧ Polarity.rising = quiet.fts.display.lineSync ∧ Polarity.falling ≠ quiet.fts.display.lineSync
    ∧ ((quiet.setEngine .s0 ⟨.align, 0, 5, some 3, false⟩).engine .s0).since = some 3 ∧ 3 ≤ 3
    ∧ ((quiet.setEngine .s0 ⟨.align, 0, 64, none, false⟩).engine .s0).since = none
    ∧ 64 ≤ ((quiet.setEngine .s0 ⟨.align, 0, 64, none, false⟩).engine .s0).wait
    ∧ ((quiet.setEngine .s0 ⟨.align, 0, 64, none, false⟩).engine .s0).st = .align := by
  decide +kernel

/-- Sheet 0 at a straddling TIP, sheet 1 waiting in PAIRED for another one or for the same. -/
def meeting (same : Bool) : State :=
  let s := straddling .idle
  { s with
    cfe := { s.cfe with engine := ⟨idleEngine, { idleEngine with st := .paired }⟩ }
    bpl := { s.bpl with plan :=
      ⟨[⟨.tip .c1 76 26 true, .planned⟩],
        [⟨.tip (if same then .c1 else .c2) 76 26 true, .planned⟩]⟩ } }

theorem witness_EntriesStart :
    (scanning ⟨[], []⟩).burstAt .s0 = none ∧ (burning .probe .idle).burstAt .s0 = some .probe
    ∧ (burning (.search .c0 0) .idle).burstAt .s0 = some (.search .c0 0)
    ∧ Burst.search .c0 0 ≠ .probe ∧ (Burst.search .c0 0).straddles = false
    ∧ (∀ same, (meeting same).burstAt .s0 = some (.tip .c1 76 26 true)
      ∧ ((meeting same).engine .s1).st = .paired)
    ∧ (meeting true).burstAt .s1 = some (.tip .c1 76 26 true)
    ∧ (meeting false).burstAt .s1 ≠ some (.tip .c1 76 26 true)
    ∧ (Burst.tip .c1 76 26 true).straddles = true
    ∧ (∀ st ∈ [EngineState.listen, .excite], ∀ s ∈ [burning (.search .c0 0) st, straddling st],
      s.pins.resetLow = false ∧ (s.burstAt .s0).isSome = true ∧ s.fmo.armed.driverTrip = false
        ∧ (s.engine .s0).st = st ∧ s.fts.frame = .planned)
    ∧ NoHaltBy [.driverTrip] (calm quiet).fmo
    ∧ (scanning ⟨[], []⟩).fts.scan = .running := by decide +kernel

/-- R7: the sheet that arrives last at a common straddling burst starts it on both; a sheet at another
one waits. -/
theorem test_straddling_starts :
    ((beginEntry (meeting true) .s0).engine .s0).st = .excite
    ∧ ((beginEntry (meeting true) .s0).engine .s1).st = .excite
    ∧ ((beginEntry (meeting false) .s0).engine .s0).st = .paired
    ∧ ((beginEntry (meeting false) .s0).engine .s1).st = .paired := by decide +kernel

/-- R41, R43: a straddling TIP is COMPLETED on both sheets by its one delivery. -/
theorem test_straddling_completes :
    (let s := straddling .listen
     let t := completeBurst .s1 (.tip .c1 76 26 true) ⟨[], ⟨[], []⟩, 0, 0⟩ s;
     (t.bpl.plan.s0.map (·.run), t.bpl.plan.s1.map (·.run))) = ([.completed], [.completed]) := by
  decide +kernel

/-- Of `ProbeMovesFloor`, `SearchFindsPeak` (the first and the last band) and `WindowBurstsRecord`, alone
and straddling. -/
theorem witness_burst_results :
    (∀ b ∈ [Burst.probe, .search .c0 0, .search .c3 9, .collar .c0 0 0 false, .tip .c0 151 87 false],
      (burning b .listen).pins.resetLow = false ∧ ((burning b .listen).engine .s0).st = .listen
        ∧ (burning b .listen).burstAt .s0 = some b
        ∧ (burning b .listen).fmo.armed.driverTrip = false)
    ∧ 0 < quiet.cfe.panel.xCount .s0 ∧ 16 * 9 < quiet.cfe.panel.xCount .s0
    ∧ 0 < quiet.cfe.panel.yCount
    ∧ (∀ sh ∈ [Sheet.s0, .s1], (straddling .listen).pins.resetLow = false
      ∧ ((straddling .listen).engine sh).st = .listen
      ∧ (straddling .listen).fmo.armed.driverTrip = false
      ∧ (sheetGet (straddling .listen).bpl.plan sh)[((straddling .listen).engine sh).pos]?
          = some ⟨.tip .c1 76 26 true, .inFlight⟩) := by decide +kernel

/-- A PROBE listening with a TIP after it. -/
def probing : State :=
  { burning .probe .listen with
    bpl := { quiet.bpl with
      plan := ⟨[⟨.probe, .inFlight⟩, ⟨.tip .c0 0 0 false, .planned⟩], []⟩, budget := 18 }
    fmo := { quiet.fmo with armed := nothingArmed.arm .driverTrip } }

theorem witness_OvercurrentEndsBurst :
    (let s := calm (burning (.search .c0 0) .excite);
      s.pins.resetLow = false ∧ (s.engine .s0).st = .excite ∧ s.fts.frame = .planned
        ∧ NoHaltBy [.driverTrip] s.fmo ∧ s.fmo.armed.driverTrip = false
        ∧ (s.burstAt .s0).isSome = true)
    ∧ (let s := burning (.search .c0 0) .excite;
      s.pins.resetLow = false ∧ (s.engine .s0).st = .excite ∧ s.fts.scan = .running
        ∧ s.fts.stopReq = false ∧ (s.fmo.recs.get .driverTrip).masked = false
        ∧ (s.fmo.recs.get .driverTrip).halt = true)
    ∧ (∀ s ∈ [probing, { calm probing with fmo := { (calm probing).fmo with
          armed := nothingArmed.arm .driverTrip } }],
      s.pins.resetLow = false ∧ (s.engine .s0).st = .listen ∧ s.fts.frame = .planned
        ∧ s.fts.scan = .running ∧ s.fts.stopReq = false ∧ s.fmo.armed.driverTrip = true
        ∧ s.burstAt .s0 = some .probe ∧ Burst.probe.straddles = false
        ∧ (sheetGet s.bpl.plan .s0)[(s.engine .s0).pos + 1]? = some ⟨.tip .c0 0 0 false, .planned⟩
        ∧ Burst.tip .c0 0 0 false ≠ .probe ∧ (Burst.tip .c0 0 0 false).straddles = false)
    ∧ (probing.fmo.recs.get .driverTrip).masked = false
    ∧ (probing.fmo.recs.get .driverTrip).halt = true
    ∧ NoHaltBy [.driverTrip] (calm probing).fmo := by decide +kernel

theorem witness_PinsShowLineAndCoils :
    held.pins.resetLow = true ∧ quiet.lnk.tx = none
    ∧ sentOut.lnk.tx = some ⟨[0xC3], 0, true⟩ ∧ sentOut.pins.resetLow = false
    ∧ 10 * 1 * 3 < 31 ∧ (30 + (10 * 0 + 0) * 3 + 0 = 10 * 1 * 3) ∧ (1 + (10 * 0 + 9) * 3 + 2 = 10 * 1 * 3)
    ∧ (∀ st ∈ [EngineState.excite, .listen], ∀ sh ∈ [Sheet.s0, .s1],
      (straddling st).cfe.layout = .dual ∧ (straddling st).burstAt sh = some (.tip .c1 76 26 true)
        ∧ ((straddling st).engine sh).st = st)
    ∧ (∀ st ∈ [EngineState.excite, .listen], ∀ b ∈ [Burst.probe, .search .c3 9, .collar .c0 151 87 false],
      (burning b st).burstAt .s0 = some b ∧ ((burning b st).engine .s0).st = st)
    ∧ ((burning .probe .align).engine .s0).st ≠ .excite ∧ ((burning .probe .align).engine .s0).st ≠ .listen
    ∧ quiet.cfe.layout = .single := by decide +kernel

theorem witness_PlanFillsBudget : 10 ≤ 10 ∧ (quiet.ptr.slots.get .c0).state = .search
    ∧ (∀ c ∈ Channel.all, ((everyChannel (penAt .track 0)).get c).state ≠ .search) := by decide +kernel

/-- R44, R45: with channels 0 and 2 in SEARCH and the pointer at 3, the positions after the fixed
entries go to 0, 2, 0, and the pointer becomes 0; channel 0's cursor is the last of ten bands, so its
second entry names band 0. -/
theorem test_rotation :
    (let pen := penAt .track 0
     let slots : PerChannel Slot := ⟨resetSlot, pen, resetSlot, pen⟩
     let r := sheetPlan .single quiet.cfe.panel slots ⟨⟨9, 0⟩, ⟨0, 0⟩, ⟨4, 0⟩, ⟨0, 0⟩⟩ 8 .c3 .s0;
     ((r.1.drop 5).map (·.burst), r.2)) = ([.search .c0 9, .search .c2 4, .search .c0 0], .c0) := by
  decide +kernel

theorem witness_FixedEntriesPlanned :
    (Sheet.s0 = .s1 → Layout.single = .dual) ∧ (Sheet.s1 = .s1 → Layout.dual = .dual)
    ∧ (scanning ⟨[], []⟩).fts.scan = .running ∧ 0 < quiet.cfe.panel.xCount .s0 := by decide +kernel

/-! ### Witnesses: the report queue -/

theorem witness_MotionHanded :
    (resetRqu (List.replicate 47 (.motion (motion .up)))).queue.countP Entry.isMotion < 48
    ∧ (∀ e ∈ [Entry.alert, .tool .c0 5 none], 48 ≤ (full e).queue.countP Entry.isMotion
      ∧ (full e).queue = List.replicate 47 (.motion (motion .up)) ++ Entry.motion (motion .up) :: [e])
    ∧ (motion .up).ch = .c0 ∧ Entry.alert.channel ≠ some .c0
    ∧ ¬ ((motion .up).tip = (motion .down).tip ∧ (motion .up).buttons = (motion .down).buttons)
    ∧ (Entry.tool .c0 5 none).channel = some .c0 ∧ (Entry.tool .c0 5 none).isMotion = false
    ∧ (∀ e ∈ (full .alert).queue, e.channel ≠ some .c1) := by decide +kernel

/-- Of its clauses on a close: a queue with room, and a full one whose newest entry of the channel is a
TOOL. -/
theorem witness_MotionHanded_close :
    ((resetRqu []).handMotion (motion .up)).2 = false
    ∧ ((full (.tool .c0 5 none)).handMotion (motion .up)).2 = true := by decide +kernel

theorem witness_NoticesHanded :
    ([.alert, .penIn .c1, .motion (motion .up)] : List Entry)
        = [.alert] ++ Entry.penIn .c1 :: [.motion (motion .up)]
    ∧ Entry.penIn .c1 ∉ ([.alert] : List Entry) ∧ Entry.penIn .c0 ∉ ([.alert] : List Entry)
    ∧ (∀ e ∈ ([.alert] : List Entry), e.isToolOf .c1 = false)
    ∧ (∀ e ∈ ([.penIn .c1] ++ [.penOut .c1] : List Entry), e.isToolOf .c1 = false)
    ∧ Entry.penOut .c1 ∈ ([.penOut .c1] : List Entry) ∧ Entry.penOut .c1 ∉ ([] : List Entry) := by
  decide +kernel

/-! ### Witnesses: the tracker -/

theorem witness_SearchEntersConfirm :
    ((closing resetSlot (.search .s0 .c1 false 2 37 30 400)).slot .c1).state = .search
    ∧ sheetGet quiet.cfe.threshold .s0 ≤ 400
    ∧ BurstRecord.search .s0 .c1 false 2 37 30 400
        ∈ (closing resetSlot (.search .s0 .c1 false 2 37 30 400)).ptr.records
    ∧ ¬ sheetGet quiet.cfe.threshold .s0 ≤ 399 := by decide +kernel

/-- The amplitudes of a collar around coil (37, 30). -/
def collarOf (a : Nat) : WindowRec := ⟨.c1, false, 33, 26, nine a, ⟨nine a, []⟩⟩

/-- Channel 1's slot in a state with a TIP and a COLLAR, a TIP_MISS or a COLLAR_FLIP armed. -/
def flipping (st : SlotState) (tip collar : Nat) (i : Injection) : State :=
  let s := closing (penAt st 22158) (tipOf tip)
  { s with
    ptr := { s.ptr with records := [tipOf tip, .collar (collarOf collar)] }
    fmo := { s.fmo with armed := nothingArmed.arm i } }

/-- R57: of two local maxima equally near the centre coil 37 the lower is the main peak. -/
theorem test_main_peak_tie : mainPeak [0, 0, 5, 0, 0, 0, 9, 0, 0] 33 37 = some 2 := by decide +kernel

/-- Of the clauses of `HitClassified` and `CollarBitHanded`: a hit at the threshold, a miss below it,
a miss by TIP_MISS; a collar at its half level and below it; a skipped frame; a flip consumed by a known
bit and left by an unknown one. -/
theorem witness_HitClassified :
    (let hit := fun a i => classifyTip .c1 (flipping .track a 200 i) (collarOf a) (some 24160);
      (hit 400 .edgeDrop).isSome = true ∧ (hit 399 .edgeDrop).isSome = false
      ∧ hit 3000 (.tipMiss .c1) = none
      ∧ collarBit (hit 400 .edgeDrop) = some true)
    ∧ collarRecord .c1 (flipping .track 400 199 .edgeDrop).ptr.records = some (collarOf 199)
    ∧ collarBit (classifyTip .c1 (flipping .track 400 199 .edgeDrop) (collarOf 400) none)
        = some false
    ∧ collarRecord .c1 (closing (penAt .track 0) (tipOf 3000)).ptr.records = none
    ∧ ((flipping .track 400 200 (.collarFlip .c1)).slot .c1).word = some newWord
    ∧ ((flipping .track 400 200 (.collarFlip .c1)).slot .c1).state.active = true
    ∧ tipRecord .c1 (flipping .track 400 200 (.collarFlip .c1)).ptr.records
        = some (collarOf 400, some 24160)
    ∧ tipRecord .c1 (closing (penAt .track 0) (.collar (collarOf 3000))).ptr.records = none := by
  decide +kernel

/-- R84: the first known bit is inverted and consumes the injection; an unknown bit does not. -/
theorem test_collar_flip :
    (let t := closeSlot (flipping .track 3000 3000 (.collarFlip .c1)) .c1;
      ((t.slot .c1).word.map (·.history), t.fmo.armed.collarFlip.get .c1))
        = (some [⟨some false, 0⟩], false)
    ∧ (let t := closeSlot (flipping .track 399 3000 (.collarFlip .c1)) .c1;
      ((t.slot .c1).word.map (·.history), t.fmo.armed.collarFlip.get .c1))
        = (some [⟨none, 0⟩], true) := by decide +kernel

theorem witness_HitResolves :
    (∀ st ∈ [SlotState.track, .confirm], ∀ x ∈ [(19158 : Int), 19157],
      ∀ q ∈ [none, some ⟨25158, 17958, 3⟩, some ⟨25159, 17958, 3⟩],
      let s := closing { penAt st x with pendingRel := q } (tipOf 3000)
      tipRecord .c1 s.ptr.records
          = some (⟨.c1, false, 33, 26, nine 3000, ⟨nine 3000, []⟩⟩, some 24160)
      ∧ (classifyTip .c1 s ⟨.c1, false, 33, 26, nine 3000, ⟨nine 3000, []⟩⟩ (some 24160)).map
            (fun v => rawPosition quiet.cfe.layout quiet.cfe.panel v.tip v.peaks)
          = some (22158, 17958)
      ∧ (s.slot .c1).state = st ∧ (s.slot .c1).pendingRel = q ∧ motionCount s.rqu.queue < 48)
    ∧ 2 ≤ (([true, true, false] ++ [false] : List Bool).drop (3 + 1 - 5)).count true
    ∧ ((22158 : Int) - 19158).natAbs ≤ 3000 ∧ ¬ ((22158 : Int) - 19157).natAbs ≤ 3000
    ∧ ((22158 : Int) - 25158).natAbs ≤ 3000 ∧ ¬ ((22158 : Int) - 25159).natAbs ≤ 3000
    ∧ (([false] ++ [true, false] : List Bool).drop (1 + 2 - 5)).count true < 2
    ∧ 2 ≤ (([true] ++ [true, false] : List Bool).drop (1 + 2 - 5)).count true
    ∧ quiet.bpl.active.confirm ≤ 1 + 1 ∧ 0 + 1 < quiet.bpl.active.confirm := by decide +kernel

/-- Channel 1's slot in TRACK, two of its three outcomes misses, its proximity sent, at a hit on its last
position, with this queue. -/
def losing (q : List Entry) : State :=
  let s := closing { penAt .track 22158 with misses := [true, true, false], prox := true } (tipOf 3000)
  { s with rqu := resetRqu q }

/-- Of the loss by a hit that no pending relocation waits for, in `HitResolves`. -/
theorem witness_HitResolves_lost : ∀ q ∈ [[], [Entry.penIn .c1, .motion (motion .up)]],
    ((losing q).slot .c1).state = .track ∧ ((losing q).slot .c1).pendingRel = none
    ∧ ((losing q).slot .c1).prox = true ∧ (losing q).bpl.active.missWindow = 5
    ∧ (losing q).bpl.active.missLimit = 2
    ∧ (classifyTip .c1 (losing q) (collarOf 3000) (some 24160)).isSome = true := by decide +kernel

/-- R68, R71, R140: such a hit loses the slot; its OUT is queued, or cancels the IN that is unsent. -/
theorem test_hit_loses :
    ((closeSlot (losing []) .c1).slot .c1).state = .search
    ∧ (closeSlot (losing []) .c1).rqu.queue = [.penOut .c1]
    ∧ (closeSlot (losing [.penIn .c1, .alert]) .c1).rqu.queue = [.alert] := by decide +kernel

/-- A hit of channel 1 at the limit, the newest entry of its channel such a MOTION. -/
def crowded (tip : TipState) : State :=
  let q := List.replicate 47 (.motion (motion .up)) ++ [Entry.motion { motion tip with ch := .c1 }]
  { closing (penAt .track 22158) (tipOf 3000) with rqu := resetRqu q }

/-- R136 to R138, R154: at the limit a hit's MOTION merges into one of its tip state, and is dropped
after another, which records QUEUE_DROP. -/
theorem test_hit_at_limit : ∀ x ∈ [(TipState.up, false), (.down, true)],
    let t := closeSlot (crowded x.1) .c1
    motionCount (crowded x.1).rqu.queue = 48 ∧ motionCount t.rqu.queue = 48
      ∧ (t.fmo.recs.get .queueDrop).marker = x.2 := by decide +kernel

/-- A far hit enters nothing, so it leaves a window of eight although N has been lowered to 4 (R68,
R69). -/
theorem test_far_hit_keeps_window :
    (let s := closing { penAt .track 19157 with misses := List.replicate 8 false } (tipOf 3000);
      (closeSlot { s with bpl := { s.bpl with active := { s.bpl.active with missWindow := 4 } } } .c1
        ).slot .c1).misses.length = 8 := by decide +kernel

/-- R90: a MOTION carries REALIGNED where it is pending, and clears it. -/
theorem test_realigned_reported :
    (let t := closeSlot (closing { penAt .track 22158 with
        word := some { newWord with realigned := true } } (tipOf 3000)) .c1;
      (t.rqu.queue.map fun e => match e with
        | .motion m => m.flags.realigned
        | _ => false, (t.slot .c1).word.map (·.realigned))) = ([true], some false) := by
  decide +kernel

/-- A sub-record whose next bit completes the sixteenth word of ID 65535. -/
def lastWord : WordRec :=
  { newWord with
    count := 7, aligned := some 0, cycle := some (List.replicate 15 true)
    history := [⟨some true, 0⟩, ⟨some true, 1⟩, ⟨some false, 2⟩, ⟨some false, 3⟩, ⟨some true, 4⟩,
      ⟨some false, 5⟩, ⟨some true, 6⟩] }

/-- Channel 1's slot with that sub-record and a tool ID, at a close with a TIP and an absent collar,
debounce off. -/
def naming (toolId : Option Nat) (tools : List (Nat × Profile)) : State :=
  let s := closing { penAt .track 22158 with word := some lastWord, toolId := toolId } (tipOf 3000)
  { s with
    wdc := ⟨false, 4, false⟩
    ptb := { s.ptb with tools := tools }
    ptr := { s.ptr with records :=
      [tipOf 3000, .collar ⟨.c1, false, 33, 26, nine 0, ⟨nine 0, []⟩⟩] } }

/-- R154: a raise of TWIN sets its since-read marker although its status is set already. -/
theorem test_twin_raised_again :
    (let s := closing (penAt .track 22158)
       (.tip ⟨.c1, false, 33, 26, [0, 0, 0, 1500, 3000, 0, 0, 1500, 0], ⟨nine 3000, []⟩⟩ none)
     let read := { s with fmo := { s.fmo with recs := s.fmo.recs.set .twin ⟨true, false, true, false⟩ } };
     (closeSlot read .c1).fmo.recs.get .twin) = ⟨true, true, true, false⟩ := by decide +kernel

/-- Amplitudes with a second local maximum three coils from the main one. -/
def doubled : List Nat := [0, 0, 0, 1500, 3000, 0, 0, 1500, 0]

theorem witness_TwinAndToolAtClose :
    (∀ id ∈ [none, some 65535], ∀ tools ∈ [[], [(65535, flat)]],
      let s := naming id tools
      let w : WindowRec := ⟨.c1, false, 33, 26, nine 3000, ⟨nine 3000, []⟩⟩
      (s.slot .c1).state = .track ∧ tipRecord .c1 s.ptr.records = some (w, some 24160)
      ∧ (s.slot .c1).word = some lastWord
      ∧ (decodeBit s.wdc ((collarBit (classifyTip .c1 s w (some 24160))).map
          (· != s.fmo.armed.collarFlip.get .c1)) lastWord).2 = some 65535
      ∧ ((closeSlot s .c1).slot .c1).state = .track)
    ∧ (let w : WindowRec := ⟨.c1, false, 33, 26, doubled, ⟨nine 3000, []⟩⟩
      (classifyTip .c1 (closing (penAt .confirm 22158) (.tip w none)) w none).any
        (twinSeen quiet.cfe.threshold) = true) := by decide +kernel

theorem witness_MissesResolve :
    ((closing (penAt .track 0) (tipOf 399)).slot .c1).state.active = true
    ∧ tipRecord .c0 (closing (penAt .track 0) (tipOf 399)).ptr.records = none
    ∧ ((closing (penAt .track 0) (tipOf 399)).slot .c1).state = .track
    ∧ classifyTip .c1 (closing (penAt .track 0) (tipOf 399))
        ⟨.c1, false, 33, 26, nine 399, ⟨nine 399, []⟩⟩ (some 24160) = none
    ∧ quiet.bpl.active.missLimit ≤ ([true, true] : List Bool).count true
    ∧ ([false, true] : List Bool).count true < quiet.bpl.active.missLimit
    ∧ (let s := closing { penAt .track 0 with misses := [true] } (tipOf 399);
      (s.slot .c1).prox = true ∧ tipRecord .c1 s.ptr.records = some (collarOf 399, some 24160)
      ∧ classifyTip .c1 s (collarOf 399) (some 24160) = none)
    ∧ ((closing (penAt .confirm 0) (tipOf 399)).slot .c1).state = .confirm
    ∧ tipRecord .c1 (closing (penAt .confirm 0) (tipOf 399)).ptr.records
        = some (collarOf 399, some 24160)
    ∧ classifyTip .c1 (closing (penAt .confirm 0) (tipOf 399)) (collarOf 399) (some 24160) = none
    ∧ (∀ st ∈ [SlotState.confirm, .track],
      ((flipping st 3000 3000 (.tipMiss .c1)).slot .c1).state.active = true
      ∧ tipRecord .c1 (flipping st 3000 3000 (.tipMiss .c1)).ptr.records
          = some (collarOf 3000, some 24160)
      ∧ (flipping st 3000 3000 (.tipMiss .c1)).fmo.armed.tipMiss.get .c1 = true) := by decide +kernel

/-- R61: an armed TIP_MISS makes a strong TIP record a miss, in TRACK too, and is consumed. -/
theorem test_tip_miss_in_track :
    (let t := closeSlot (flipping .track 3000 3000 (.tipMiss .c1)) .c1;
      ((t.slot .c1).misses, t.fmo.armed.tipMiss.get .c1)) = ([false, true], false) := by decide +kernel

/-! ### Witnesses: words and samples -/

/-- A sub-record with the sync pattern two words long at offset 0, and at offset 3 as well. -/
def patterned (both : Bool) : WordRec :=
  { newWord with
    count := 3
    history := [⟨some true, 0⟩, ⟨some true, 1⟩, ⟨some false, 2⟩, ⟨some both, 3⟩, ⟨some both, 4⟩,
      ⟨some false, 5⟩, ⟨some false, 6⟩, ⟨some false, 7⟩, ⟨some true, 0⟩, ⟨some true, 1⟩,
      ⟨some false, 2⟩, ⟨some both, 3⟩, ⟨some both, 4⟩, ⟨some false, 5⟩] }

theorem witness_AlignmentSearch :
    (patterned false).aligned = none
    ∧ (List.range 8).filter (matchedAt (decodeBit ⟨true, 4, true⟩ none newWord).1.history) = []
    ∧ (List.range 8).filter (matchedAt (decodeBit ⟨true, 4, true⟩ none (patterned false)).1.history)
        = 0 :: []
    ∧ (List.range 8).filter (matchedAt (decodeBit ⟨true, 4, true⟩ none (patterned true)).1.history)
        = 0 :: 3 :: [] := by decide +kernel

theorem witness_WordCompletes :
    lastWord.aligned = some 0 ∧ lastWord.count = (0 + 7) % 8 ∧ (patterned false).count ≠ (0 + 7) % 8
    ∧ (∀ m, ((lastWord.history ++ [HistoryEntry.mk (some m) 7]).map (·.bit))
        = [some true, some true, some false, some false, some true, some false, some true, some m])
    ∧ (([] ++ [false] : List Bool).drop (0 + 1 - 4)).count true < 2
    ∧ 2 ≤ (([true, false, false] ++ [true] : List Bool).drop (3 + 1 - 4)).count true
    ∧ (List.replicate 15 true).length = 15 ∧ (List.replicate 14 true).length < 15 := by decide +kernel

theorem witness_CycleValidates :
    (0 : Nat) = 0 ∧ (65535 : Nat) ≠ 0
    ∧ (({ penAt .track 0 with toolId := some 65535 } : Slot)).toolId = some 65535 := by decide

/-- The frame at its end whose close raises TWIN, of HALT severity, with a stop pending or not. -/
def twinning (stop : Bool) : State :=
  let s := severe .twin
    (closing (penAt .track 22158) (.tip ⟨.c1, false, 33, 26, doubled, ⟨nine 3000, []⟩⟩ none))
  { s with fts := { s.fts with stopReq := stop } }

/-- Of the clause of `BoundaryCloses` on a fault of HALT severity raised in the processing of a close. -/
theorem witness_boundary_halts : ∀ stop ∈ [false, true], ∀ s ∈ [twinning stop,
      { severe .profileMiss (naming none []) with fts := (twinning stop).fts }],
    s.pins.resetLow = false ∧ s.fts.timerOn = true ∧ s.fts.period ≤ s.fts.timer
      ∧ s.fts.scan = .running ∧ s.fts.frame = .planned ∧ s.fts.stopReq = stop
      ∧ (Machine.closing s).fmo.halting = false ∧ (closedSlots s).fmo.halting = true := by
  decide +kernel

/-- R38, R159: TWIN of HALT severity in a close interrupts nothing: the MOTION is queued; then the slot
is cleared, and the next frame is planless with its number held. -/
theorem test_twin_halts_after_close :
    motionCount (closedSlots (twinning false)).rqu.queue = 1
    ∧ (let t := boundary (twinning false);
      (t.fts.scan, t.fts.frame, t.fts.frameNo, (t.slot .c1).state))
        = (.halted, .planless, (twinning false).fts.frameNo, .search) := by decide +kernel

/-- Of the last clause of `CycleValidates`. -/
theorem witness_CycleValidates_id : (0xFFFF : BitVec 16) ≠ 0 ∧ newWord.cycle = none := by decide

theorem witness_RawCoordinatesOnPanel :
    0 + 9 ≤ 9 ∧ 0 < 9 ∧ localMax [400, 399, 0, 0, 0, 0, 0, 0, 0] 0 = true ∧ 0 + 0 = 0
    ∧ localMax [0, 0, 0, 0, 0, 0, 0, 400, 400] 8 = true ∧ 0 + 8 + 1 = 9 ∧ 8 = 7 + 1
    ∧ ampAt [0, 0, 0, 0, 0, 0, 0, 400, 400] 7 = ampAt [0, 0, 0, 0, 0, 0, 0, 400, 400] 8
    ∧ 1 + 9 ≤ 10 ∧ localMax [400, 0, 0, 0, 0, 0, 0, 0, 0] 0 = true ∧ 0 < 1 + 0 ∧ 1 + 0 + 1 < 10
    ∧ 0 + 9 ≤ 10 ∧ localMax [0, 0, 0, 0, 0, 0, 0, 0, 400] 8 = true ∧ 0 < 0 + 8 ∧ 0 + 8 + 1 < 10 := by
  decide +kernel

/-- R103, by hand: 600 × (0 − 300) ÷ (2 × (800 − 300)) = −180, and −42 with 1500, 3000, 1000. -/
theorem test_interior_offset : rawCoord 600 76 33 [0, 0, 0, 300, 400, 0, 0, 0, 0] 4 = 22020
    ∧ rawCoord 600 76 33 (nine 3000) 4 = 22158 := by decide +kernel

theorem witness_PressureFollowsTip :
    profileValid flat = true ∧ profileValid curved = true
    ∧ (fullSample .single quiet.cfe.panel flat resetSlot
        ⟨⟨.c1, false, 33, 26, nine 3000, ⟨nine 3000, []⟩⟩, ⟨4, 4, 37, 30, .s0, nine 3000⟩, some 10000,
          none, none⟩).tip = .down
    ∧ (fullSample .single quiet.cfe.panel flat resetSlot
        ⟨⟨.c1, false, 33, 26, nine 3000, ⟨nine 3000, []⟩⟩, ⟨4, 4, 37, 30, .s0, nine 3000⟩, some 10001,
          none, none⟩).tip = .up
    ∧ flat.on ≤ 1 ∧ (4093 < curved.off) ∧ curved.off ≤ 4094 ∧ 4094 < curved.on
    ∧ curved.pFree ≤ 40000 ∧ 10000 ≤ curved.pFull
    ∧ (∀ n ∈ [10001, 39999], curved.pFull < n ∧ n < curved.pFree)
    ∧ (∀ q ∈ curved.curve, (∀ x ∈ [0], 0 ≤ x ∧ x < q.x1) ∧ (∀ x ∈ [3, 4093], q.x3 ≤ x ∧ x < q.x4)
      ∧ (∀ x ∈ [4094], q.x4 ≤ x ∧ x < 4095)) := by decide +kernel

/-- R107, by hand: 14000 × 4095 ÷ 30000 = 1911, and 1 ÷ 30000 of 4095 truncates to 0. -/
theorem test_raw_pressure : [40000, 39999, 26000, 10000].map (rawPressure curved) = [0, 0, 1911, 4095] := by
  decide +kernel

/-- A hit's view with a period count and a collar. -/
def seen (period : Option Nat) (collar : Option WindowRec) (pk : Option Peaks) : HitView :=
  ⟨collarOf 3000, ⟨4, 4, 37, 30, .s0, nine 3000⟩, period, collar, pk⟩

/-- Of the clauses on samples of `PressureFollowsTip` and `TiltWithinBounds`: a held pressure or none,
the tilt mode ON and OFF. -/
theorem witness_samples :
    (seen (some 24160) none none).period = some 24160 ∧ (seen none none none).period = none
    ∧ ({ resetSlot with heldPressure := some 7 } : Slot).heldPressure = some 7
    ∧ resetSlot.heldPressure = none
    ∧ (slotProfile quiet .c0).tilt = true ∧ flat.tilt = false
    ∧ (seen none (some (collarOf 3000)) (some ⟨4, 4, 37, 30, .s0, nine 3000⟩)).collarPeaks
        = some ⟨4, 4, 37, 30, .s0, nine 3000⟩ := by decide +kernel

/-- R111: with no valid count the held out value is used as stored, under PRESSURE_HELD. -/
theorem test_pressure_held :
    (let sm := fullSample .single quiet.cfe.panel flat { resetSlot with heldPressure := some 77 }
        (seen none none none);
      (sm.pressure, sm.pressureHeld)) = (77, true) := by decide +kernel

/-- R116: with the collar absent the held tilt is carried under TILT_HELD. -/
theorem test_tilt_held :
    (let sm := fullSample .single quiet.cfe.panel quiet.ptb.defaults.c0
        { resetSlot with heldTilt := some (600, -5) } (seen none none none);
      (sm.tilt, sm.tiltHeld, sm.tiltSat)) = (some (600, -5), true, false) := by decide +kernel

/-- Of `TiltWithinBounds`, with a quotient in the table's first and last segments and one clamped. -/
theorem witness_TiltWithinBounds : (500 ≤ 500 ∧ 500 ≤ 3000) ∧ (500 ≤ 3000 ∧ 3000 ≤ 3000)
    ∧ (∀ dx ∈ [((0 : Int), 0, 22), (2500, 366, 443), (2600, 443, 444)],
      let z := max (isqrt ((3000 * 3000 : Int) - (dx.1 * dx.1 + 0 * 0)).toNat) (3000 / 2)
      dx.2.1 ≤ min 443 (dx.1.natAbs * 256 / z) ∧ min 443 (dx.1.natAbs * 256 / z) < dx.2.2) := by
  decide +kernel

/-! ### Witnesses: the invariants -/

/-- A step from any state answers a next state, so from those of the witnesses below. -/
theorem witness_step (s : State) : ∃ t, step s = .next t := step_next s

theorem witness_StepKeepsScanConsistent : ScanConsistent halted := by
  constructor <;> decide +kernel

theorem witness_StepKeepsSettingsLegal : SettingsLegal quiet ∧ LevelsFollow quiet ∧ PlansFit quiet := by
  refine ⟨by constructor <;> decide +kernel, ?_, by constructor <;> decide +kernel⟩
  intro sh; cases sh <;> decide +kernel

theorem witness_StepKeepsTablesBounded :
    TableLegal sixteen.ptb ∧ PointerNamesSet halted ∧ LinkBounded quiet := by
  refine ⟨sixteen_legal, ?_, by constructor <;> decide +kernel⟩
  intro f h; cases h

/-- Of `StepKeepsSlotsConsistent` and `StepKeepsQueueLawful`. -/
theorem witness_slots (c : Channel) : SlotConsistent quiet c := by
  refine ⟨?_, ?_, ?_, ?_, ?_, ?_, ?_⟩ <;> cases c <;>
    simp [quiet, State.reset, resetPtr, resetSlot, State.slot, everyChannel, PerChannel.get, boundOf,
      SlotState.active]

theorem witness_StepKeepsSlotsConsistent : SlotsConsistent quiet ∧ SlotsBounded quiet := by
  refine ⟨⟨by decide +kernel, ?_, witness_slots, ?_⟩, ?_⟩
  · intro r h; cases h
  · intro _ c; cases c <;> rfl
  · refine ⟨by decide +kernel, by decide +kernel, by decide +kernel, by decide +kernel, ?_, ?_, ?_⟩
    · intro c w h; cases c <;> cases h
    · intro c; cases c <;> decide
    · intro c i h; cases c <;> cases h

theorem witness_StepKeepsQueueLawful : QueueLawful quiet ∧ ∀ c, HostAt quiet c false := by
  refine ⟨⟨⟨by decide, by decide, by decide, ?_, ?_, ?_⟩, ?_, witness_StepKeepsSlotsConsistent.1,
    by decide, by decide, by decide⟩, ?_⟩
  · intro c; cases c <;> decide
  · intro c; cases c <;> decide
  · intro c h; cases c <;> cases h
  · intro c; exact ⟨false, by cases c <;> rfl⟩
  · intro c; cases c <;> intro _ <;> rfl

/-- Of the view `StepKeepsQueueLawful` carries: an OUT waits for a host that has seen a pen, and a step
that sends it leaves the host without one. -/
theorem test_out_seen :
    (let s := { quiet with rqu := resetRqu [.penOut .c1] }
     let t := arbitrate s;
     (decide (HostAt s .c1 true), decide (HostAt s .c1 false), wireSees .c1 true (frameStarted s t),
       wireSees .c0 true (frameStarted s t), decide (HostAt t .c1 false)))
      = (true, false, some false, some true, true) := by decide +kernel

end Sys2Proof.Tests
end

section
/-! PROOFS. O35: an overcurrent, real or injected, leaves its burst unrun, raises DRIVER_TRIP, and
by policy halts the part or lets its engines go on. -/

namespace Sys2Proof.Machine

/-! ### An unsent ALERT through HALTED entry (R78, R140) -/

/-- Cancelling an IN of a channel takes no entry that belongs to none or to another channel. -/
theorem mem_cancelIn {c : Channel} {e : Entry} (hc : e.channel ≠ some c) {l q : List Entry}
    (h : cancelIn c l = some q) (he : e ∈ l) : e ∈ q := by
  induction l generalizing q with
  | nil => cases he
  | cons a l ih =>
    unfold cancelIn at h
    split at h
    next ha =>
      cases h
      have hne : e ≠ a := by rintro rfl; exact hc (by rw [ha]; rfl)
      have hf : e.isFollowerOf c = false := by
        cases e <;> simp_all [Entry.channel, Entry.isFollowerOf]
      simp [hf, (List.mem_cons.1 he).resolve_left hne]
    next =>
      cases hr : cancelIn c l with
      | none => simp [hr] at h
      | some rest =>
        simp only [hr, Option.map_some, Option.some.injEq] at h
        subst h
        exact List.mem_cons.2 ((List.mem_cons.1 he).imp_right (ih hr))

/-- An OUT of a channel takes no entry that belongs to none or to another channel (R140). -/
theorem Rqu.mem_handOut {r : Rqu} {c : Channel} {e : Entry} (hc : e.channel ≠ some c)
    (he : e ∈ r.queue) : e ∈ (r.handOut c).queue := by
  rcases r.handOut_queue c with ⟨q, hq, h⟩ | ⟨-, h⟩
  · rw [h]; exact mem_cancelIn hc hq he
  · rw [h]; exact List.mem_append_left _ he

theorem clearSlot_keeps_alert {s : State} (c : Channel) (h : .alert ∈ s.rqu.queue) :
    .alert ∈ (clearSlot s c).rqu.queue := by
  unfold clearSlot
  split
  · rw [endProximity_rqu]
    split
    · exact Rqu.mem_handOut (by simp [Entry.channel]) h
    · exact h
  · exact h

theorem clearSlots_keeps_alert {s : State} (h : .alert ∈ s.rqu.queue) :
    .alert ∈ (clearSlots s).rqu.queue := by
  unfold clearSlots
  induction Channel.all generalizing s with
  | nil => exact h
  | cons c l ih => exact ih (clearSlot_keeps_alert c h)

/-! ### Raising a fault under either policy (R154, R157, R158) -/

theorem Fmo.halting_iff (m : Fmo) : m.halting = true ↔ ∃ f, (m.recs.get f).halts = true := by
  have all : ∀ f, f ∈ FaultId.all := by intro f; cases f <;> decide
  simp [Fmo.halting, all]

/-- A fault that is masked or of NOTICE severity brings no halting condition when it is raised. -/
theorem recordFault_not_halting {f : FaultId} {s : State} (h : NoHaltBy [f] s.fmo) :
    (recordFault f s).fmo.halting = false := by
  obtain ⟨none, policy⟩ := h
  have before : ∀ g, (s.fmo.recs.get g).halts = false := by
    simpa [Fmo.halting_iff] using mt (s.fmo.halting_iff.2) (by simp [none])
  rw [Bool.eq_false_iff]
  intro hh
  obtain ⟨g, hg⟩ := (Fmo.halting_iff _).1 hh
  rw [recordFault_recs, PerFault.get_set] at hg
  split at hg
  · rcases policy f (by simp) with hm | hm <;> simp [FaultRec.halts, hm] at hg
  · simp [before g] at hg

/-- An unmasked fault of HALT severity is a halting condition once it is raised. -/
theorem recordFault_halting {f : FaultId} {s : State} (hm : (s.fmo.recs.get f).masked = false)
    (hs : (s.fmo.recs.get f).halt = true) : (recordFault f s).fmo.halting = true :=
  (Fmo.halting_iff _).2 ⟨f, by simp [FaultRec.halts, hm, hs]⟩

/-- The whole monitor after an unmasked fault (R154, R155). -/
theorem recordFault_fmo_unmasked {f : FaultId} {s : State}
    (hm : (s.fmo.recs.get f).masked = false) : (recordFault f s).fmo = { s.fmo with
      recs := s.fmo.recs.set f { s.fmo.recs.get f with status := true, marker := true }
      pointer := s.fmo.pointer.or (some f) } := by
  unfold recordFault; rw [hm]; rfl

/-- In RUNNING, an unmasked fault of HALT severity is HALTED entry at once (R158). -/
theorem raiseFault_of_held {f : FaultId} {s : State} (hr : s.fts.scan = .running)
    (hm : (s.fmo.recs.get f).masked = false) (hs : (s.fmo.recs.get f).halt = true) :
    raiseFault f s = enterHalt (recordFault f s) := by
  unfold raiseFault
  rw [hm, if_neg Bool.false_ne_true]
  exact haltIfHeld_of_held _ (recordFault_halting hm hs) (by simpa using hr)

/-! ### Run states and positions over the sheets of one burst -/

@[simp] theorem foldl_setRun_engine (run : RunState) (l : List Sheet) (s : State) (t : Sheet) :
    (l.foldl (setRun run) s).engine t = s.engine t :=
  foldl_keeps (·.engine t) _ (fun s sh => setRun_engine run s sh t) l s

/-- On each sheet of the list, the entry its engine is at takes the run state. -/
theorem foldl_setRun_entry (run : RunState) (l : List Sheet) (s : State) (sh : Sheet) :
    (sheetGet (l.foldl (setRun run) s).bpl.plan sh)[(s.engine sh).pos]?
      = if sh ∈ l
        then ((sheetGet s.bpl.plan sh)[(s.engine sh).pos]?).map fun e => { e with run := run }
        else (sheetGet s.bpl.plan sh)[(s.engine sh).pos]? := by
  induction l generalizing s with
  | nil => simp
  | cons a l ih =>
    have step := ih (setRun run s a)
    rw [setRun_engine, setRun_plan] at step
    rw [List.foldl_cons, step]
    by_cases h : sh = a
    · subst h; simp [Function.comp_def]
    · simp [h]

theorem foldl_stepPast_pos (l : List Sheet) (s : State) (sh : Sheet) :
    ((l.foldl stepPast s).engine sh).pos = (s.engine sh).pos + l.count sh := by
  induction l generalizing s with
  | nil => rfl
  | cons a l ih =>
    rw [List.foldl_cons, ih, stepPast_engine, List.count_cons]
    by_cases h : sh = a
    · subst h; simp; omega
    · simp [h, Ne.symm h]

@[simp] theorem foldl_beginEntry_pos (l : List Sheet) (s : State) (sh : Sheet) :
    ((l.foldl beginEntry s).engine sh).pos = (s.engine sh).pos :=
  foldl_keeps (fun s => (s.engine sh).pos) _ (fun s a => beginEntry_pos s a sh) l s

theorem startNext_pos (l : List Sheet) (s : State) (sh : Sheet) :
    ((startNext l s).engine sh).pos = (s.engine sh).pos + l.count sh := by
  rw [startNext, foldl_beginEntry_pos, foldl_stepPast_pos]

/-- Starting the next entries leaves the entry that an engine steps past. -/
theorem startNext_entry {l : List Sheet} {sh : Sheet} (hl : l.count sh = 1) (s : State) :
    (sheetGet (startNext l s).bpl.plan sh)[(s.engine sh).pos]?
      = (sheetGet s.bpl.plan sh)[(s.engine sh).pos]? := by
  unfold startNext
  rw [foldl_beginEntry_past _ _ _ _ (by rw [foldl_stepPast_pos]; omega), foldl_stepPast_bpl]

/-- A burst is on its own sheet once, whether it straddles or not (R15). -/
theorem involved_count (s : State) (sh : Sheet) : (s.involved sh).count sh = 1 := by
  unfold State.involved
  split
  · cases sh <;> rfl
  · simp

theorem involved_of_not_straddling {s : State} {sh : Sheet} {b : Burst}
    (hb : s.burstAt sh = some b) (h : b.straddles = false) : s.involved sh = [sh] := by
  simp [State.involved, hb, h]

/-! ### A trip where the part goes on (R7, R19) -/

/-- The fault records once DRIVER_TRIP has been raised. -/
abbrev trippedRecs (s : State) : PerFault FaultRec :=
  s.fmo.recs.set .driverTrip { s.fmo.recs.get .driverTrip with status := true, marker := true }

theorem tripBurst_of_not {l : List Sheet} {s : State} (h : NoHaltBy [.driverTrip] s.fmo) :
    tripBurst l s = recordFault .driverTrip (l.foldl (setRun .unrun) s) :=
  raiseFault_of_not _ _ (recordFault_not_halting (by simpa using h))

/-- What a trip that does not halt the part leaves of `s`, on a sheet of the tripped burst: its
entry UNRUN and the engine at its next one, DRIVER_TRIP raised, and nothing of the records delivered, the
floors, the cursors or the frame moved. -/
structure TripPassed (sh : Sheet) (s t : State) : Prop where
  ptr : t.ptr = s.ptr
  entry : (sheetGet t.bpl.plan sh)[(s.engine sh).pos]?
    = ((sheetGet s.bpl.plan sh)[(s.engine sh).pos]?).map fun e => { e with run := .unrun }
  pos : (t.engine sh).pos = (s.engine sh).pos + 1
  recs : t.fmo.recs = trippedRecs s
  armed : t.fmo.armed = s.fmo.armed
  floor : t.cfe.floor = s.cfe.floor
  cursor : t.bpl.cursor = s.bpl.cursor
  fts : t.fts = s.fts

/-- Without a halt, the engines of a tripped burst go on past it (R7, R19). -/
theorem startNext_tripBurst {l : List Sheet} {sh : Sheet} {s : State}
    (h : NoHaltBy [.driverTrip] s.fmo) (hl : l.count sh = 1) :
    TripPassed sh s (startNext l (tripBurst l s)) := by
  have mem : sh ∈ l := List.count_pos_iff.1 (by omega)
  have trip := tripBurst_of_not (l := l) h
  have engine : (tripBurst l s).engine sh = s.engine sh := by
    rw [trip, State.engine, recordFault_cfe]; exact foldl_setRun_engine _ l s sh
  have unrun := foldl_setRun_entry .unrun l s sh
  rw [if_pos mem] at unrun
  have next := startNext_entry hl (tripBurst l s)
  exact {
    ptr := by simp [trip]
    entry := by rw [engine] at next; rw [next, trip, recordFault_bpl, unrun]
    pos := by rw [startNext_pos, engine, hl]
    recs := by simp
    armed := by simp
    floor := by simp
    cursor := by simp
    fts := by simp [trip] }

/-! ### A trip that halts the part (R9, R38, R78, R158) -/

/-- What a trip of HALT severity leaves of `s`: HALTED in a planless frame, every burst, plan
and result gone, no slot with a pen, DRIVER_TRIP raised and an ALERT unsent. -/
structure TripHalted (s t : State) : Prop where
  fts : t.fts = { s.fts with scan := .halted, frame := .planless }
  cfe : t.cfe = { s.cfe with engine := everySheet idleEngine }
  bpl : t.bpl = { s.bpl with plan := everySheet [], budget := 0 }
  records : t.ptr.records = []
  slots : ∀ c, (t.slot c).state.active = false
  fmo : t.fmo = { s.fmo with
    recs := trippedRecs s, pointer := s.fmo.pointer.or (some .driverTrip) }
  alert : .alert ∈ t.rqu.queue

theorem tripBurst_halted (l : List Sheet) {s : State} (hr : s.fts.scan = .running)
    (hq : s.fts.stopReq = false) (hm : (s.fmo.recs.get .driverTrip).masked = false)
    (hs : (s.fmo.recs.get .driverTrip).halt = true) : TripHalted s (tripBurst l s) := by
  obtain ⟨u, hu⟩ : ∃ u, u = l.foldl (setRun .unrun) s := ⟨_, rfl⟩
  have fmo : u.fmo = s.fmo := by simp [hu]
  have fts : u.fts = s.fts := by simp [hu]
  have cfe : u.cfe = s.cfe := by simp [hu]
  have bpl : { u.bpl with plan := everySheet [], budget := 0 }
      = { s.bpl with plan := everySheet [], budget := 0 } := by simp [hu]
  have trip : tripBurst l s
      = (clearSlots (discardFrame (recordFault .driverTrip u))).setFts
        { s.fts with scan := .halted, frame := .planless } := by
    rw [tripBurst, ← hu, raiseFault_of_held (by rw [fts, hr]) (by rw [fmo, hm]) (by rw [fmo, hs])]
    simp [enterHalt, fts, hq]
  rw [trip]
  exact {
    fts := rfl
    cfe := by simp [discardFrame, cfe]
    bpl := by simpa [discardFrame] using bpl
    records := by simp
    slots := fun c => clearSlots_quiet _ c
    fmo := by
      simpa [fmo] using recordFault_fmo_unmasked (f := .driverTrip) (s := u) (by rw [fmo, hm])
    alert := by
      refine clearSlots_keeps_alert ?_
      simp [recordFault_rqu, fmo, hm] }

/-! ### DRIVER_OVERCURRENT (R19) -/

theorem exec_driverOvercurrent {sh : Sheet} {s : State} (hp : s.pins.resetLow = false)
    (he : (s.engine sh).st = .excite) :
    exec (.driverOvercurrent sh) s = .next (arbitrate (overcurrent sh s)) := by
  simp [exec, execDriverOvercurrent, State.engineIn, hp, he, done]

theorem overcurrent_passed {sh : Sheet} {s : State} (hf : s.fts.frame = .planned)
    (hn : NoHaltBy [.driverTrip] s.fmo) (ha : s.fmo.armed.driverTrip = false) :
    TripPassed sh s (overcurrent sh s) := by
  have goes : overcurrent sh s = startNext (s.involved sh) (tripBurst (s.involved sh) s) := by
    unfold overcurrent
    dsimp only
    rw [if_pos (by simp [tripBurst_of_not hn, hf]), startBursts_of_unarmed _ _ (by simpa using ha)]
  rw [goes]
  exact startNext_tripBurst hn (involved_count s sh)

theorem overcurrent_halted {sh : Sheet} {s : State} (hr : s.fts.scan = .running)
    (hq : s.fts.stopReq = false) (hm : (s.fmo.recs.get .driverTrip).masked = false)
    (hs : (s.fmo.recs.get .driverTrip).halt = true) : TripHalted s (overcurrent sh s) := by
  have halt := tripBurst_halted (s.involved sh) hr hq hm hs
  have stays : overcurrent sh s = tripBurst (s.involved sh) s := if_neg (by rw [halt.fts]; simp)
  rw [stays]
  exact halt

/-! ### An armed DRIVER_TRIP and the burst after a completed one (R20) -/

theorem exec_burstComplete {sh : Sheet} {s : State} {b : Burst} (r : Reading)
    (hp : s.pins.resetLow = false) (he : (s.engine sh).st = .listen)
    (hb : s.burstAt sh = some b) :
    exec (.burstComplete sh r) s = .next (arbitrate (completeBurst sh b r s)) := by
  simp [exec, execBurstComplete, State.engineIn, hp, he, hb, done]

/-- The record of a completed burst of one sheet is delivered, and its engine steps on to the next
entry. -/
def steppedOn (sh : Sheet) (b : Burst) (r : Reading) (s : State) : State :=
  stepPast (deliver (resultRecord s sh b r) (setRun .completed s sh)) sh

/-- A burst of one sheet that is no PROBE enters EXCITE when its entry begins (R7). -/
theorem beginEntry_excite {s : State} {sh : Sheet} {b : Burst} (hb : s.burstAt sh = some b)
    (hp : b ≠ .probe) (hs : b.straddles = false) : beginEntry s sh = enterExcite s sh := by
  unfold beginEntry
  split
  next h => simp [hb] at h
  next h => exact absurd (Option.some.inj (hb.symm.trans h)) hp
  next c _ h =>
    obtain rfl : b = c := Option.some.inj (hb.symm.trans h)
    rw [hs, if_neg Bool.false_ne_true]

theorem newlyExcited_enterExcite {s : State} {sh : Sheet} (h : (s.engine sh).st ≠ .excite) :
    newlyExcited s (enterExcite s sh) = [sh] := by
  cases sh <;> simp [newlyExcited, bothSheets, enterExcite, h]

/-- An armed DRIVER_TRIP trips the one burst that entered EXCITE, and is consumed by it (R20). -/
theorem injectTrip_single {s : State} (sh : Sheet) (ha : s.fmo.armed.driverTrip = true) :
    injectTrip [sh] s = goOn [sh] (tripBurst [sh] (disarmTrip s.drawFree)) := by
  cases sh <;> simp [injectTrip, ha, tripVictims]

/-- The state in which an armed DRIVER_TRIP acts after a completed burst of one sheet: the next
burst has entered EXCITE, the fault is no longer armed and the free value is drawn. -/
def atInjection (sh : Sheet) (b : Burst) (r : Reading) (s : State) : State :=
  disarmTrip (enterExcite (steppedOn sh b r s) sh).drawFree

@[simp] theorem steppedOn_fts (sh : Sheet) (b : Burst) (r : Reading) (s : State) :
    (steppedOn sh b r s).fts = s.fts := by simp [steppedOn]

@[simp] theorem steppedOn_fmo (sh : Sheet) (b : Burst) (r : Reading) (s : State) :
    (steppedOn sh b r s).fmo = s.fmo := by simp [steppedOn]

@[simp] theorem steppedOn_ptr (sh : Sheet) (b : Burst) (r : Reading) (s : State) :
    (steppedOn sh b r s).ptr =
      { s.ptr with records := s.ptr.records ++ [resultRecord s sh b r] } := by
  simp [steppedOn]

@[simp] theorem steppedOn_engine (sh : Sheet) (b : Burst) (r : Reading) (s : State) :
    (steppedOn sh b r s).engine sh = { idleEngine with pos := (s.engine sh).pos + 1 } := by
  rw [steppedOn, stepPast_engine, if_pos rfl]
  simp [State.engine]

/-- Completing an entry leaves the next one as it was. -/
theorem steppedOn_next (sh : Sheet) (b : Burst) (r : Reading) (s : State) :
    (sheetGet (steppedOn sh b r s).bpl.plan sh)[(s.engine sh).pos + 1]?
      = (sheetGet s.bpl.plan sh)[(s.engine sh).pos + 1]? := by
  simp [steppedOn, setRun_plan]

@[simp] theorem atInjection_fts (sh : Sheet) (b : Burst) (r : Reading) (s : State) :
    (atInjection sh b r s).fts = s.fts := by simp [atInjection, State.drawFree]

@[simp] theorem atInjection_fmo (sh : Sheet) (b : Burst) (r : Reading) (s : State) :
    (atInjection sh b r s).fmo
      = { s.fmo with armed := { s.fmo.armed with driverTrip := false } } := by
  simp [atInjection, State.drawFree, disarmTrip]

/-- The trip sets the records that stood before the burst completed. -/
theorem atInjection_trippedRecs (sh : Sheet) (b : Burst) (r : Reading) (s : State) :
    trippedRecs (atInjection sh b r s) = trippedRecs s := by rw [trippedRecs, atInjection_fmo]

@[simp] theorem atInjection_ptr (sh : Sheet) (b : Burst) (r : Reading) (s : State) :
    (atInjection sh b r s).ptr =
      { s.ptr with records := s.ptr.records ++ [resultRecord s sh b r] } := by
  simp [atInjection, State.drawFree]

theorem atInjection_pos (sh : Sheet) (b : Burst) (r : Reading) (s : State) :
    ((atInjection sh b r s).engine sh).pos = (s.engine sh).pos + 1 := by
  show ((enterExcite (steppedOn sh b r s) sh).engine sh).pos = _
  rw [enterExcite_pos, steppedOn_engine]

/-- The entry at which the trip finds the engine is the next one, in flight (R41). -/
theorem atInjection_entry (sh : Sheet) (b : Burst) (r : Reading) (s : State) :
    (sheetGet (atInjection sh b r s).bpl.plan sh)[(s.engine sh).pos + 1]?
      = ((sheetGet s.bpl.plan sh)[(s.engine sh).pos + 1]?).map
        fun e => { e with run := .inFlight } := by
  show (sheetGet (setRun .inFlight (steppedOn sh b r s) sh).bpl.plan sh)[_]? = _
  rw [setRun_plan, if_pos ⟨rfl, by rw [steppedOn_engine]⟩, steppedOn_next]

/-- With DRIVER_TRIP armed, a completed burst of one sheet starts the next burst and that burst is
tripped (R7, R20). -/
theorem completeBurst_injects {sh : Sheet} {s : State} {b : Burst} (r : Reading) {next : PlanEntry}
    (ha : s.fmo.armed.driverTrip = true) (hb : s.burstAt sh = some b) (hs : b.straddles = false)
    (hn : (sheetGet s.bpl.plan sh)[(s.engine sh).pos + 1]? = some next)
    (hp : next.burst ≠ .probe) (hns : next.burst.straddles = false) :
    completeBurst sh b r s = goOn [sh] (tripBurst [sh] (atInjection sh b r s)) := by
  obtain ⟨u, hu⟩ : ∃ u, u = steppedOn sh b r s := ⟨_, rfl⟩
  have idle : (u.engine sh).st ≠ .excite := by simp [hu, idleEngine]
  have burst : u.burstAt sh = some next.burst := by
    rw [State.burstAt, hu, steppedOn_engine, steppedOn_next, hn]; rfl
  have starts : completeBurst sh b r s
      = injectTrip (newlyExcited u (beginEntry u sh)) (beginEntry u sh) := by
    rw [hu, completeBurst, involved_of_not_straddling hb hs]; rfl
  rw [starts, beginEntry_excite burst hp hns, newlyExcited_enterExcite idle,
    injectTrip_single sh (by simp [hu, ha]), hu]
  rfl

theorem goOn_tripBurst_passed {sh : Sheet} {s : State} (hf : s.fts.frame = .planned)
    (hn : NoHaltBy [.driverTrip] s.fmo) : TripPassed sh s (goOn [sh] (tripBurst [sh] s)) := by
  rw [goOn, if_pos (by simp [tripBurst_of_not hn, hf])]
  exact startNext_tripBurst hn (by simp)

theorem goOn_tripBurst_halted (l : List Sheet) {s : State} (hr : s.fts.scan = .running)
    (hq : s.fts.stopReq = false) (hm : (s.fmo.recs.get .driverTrip).masked = false)
    (hs : (s.fmo.recs.get .driverTrip).halt = true) : TripHalted s (goOn l (tripBurst l s)) := by
  have halt := tripBurst_halted l hr hq hm hs
  rw [goOn, if_neg (by rw [halt.fts]; simp)]
  exact halt

end Sys2Proof.Machine

namespace Sys2Proof.Proofs

open Sys2Proof.Machine

/-- Settles O35: a trip goes past its burst (`TripPassed`) or halts the part (`TripHalted`) by the
policy of DRIVER_TRIP, from the burst in EXCITE or, injected, from the next burst at `atInjection`. -/
theorem overcurrentEndsBurst : Obligations.OvercurrentEndsBurst := by
  intro sh s hp tripped
  refine ⟨?real, ?realHalt, ?injected, ?injectedHalt⟩
  case real =>
    intro he hf hn ha hb
    have passed := overcurrent_passed (sh := sh) hf hn ha
    refine ⟨_, exec_driverOvercurrent hp he, passed.ptr, ?_, passed.pos, passed.recs, passed.floor,
      passed.cursor, passed.fts⟩
    obtain ⟨e, entry⟩ : ∃ e, (sheetGet s.bpl.plan sh)[(s.engine sh).pos]? = some e := by
      simpa [State.burstAt, Option.isSome_iff_exists] using hb
    rw [passed.entry, entry]; rfl
  case realHalt =>
    intro he hr hq hm hs
    have halted := overcurrent_halted (sh := sh) hr hq hm hs
    exact ⟨_, exec_driverOvercurrent hp he, halted.fts, halted.cfe, halted.bpl, halted.records,
      halted.slots, by rw [halted.fmo], by rw [halted.fmo], halted.alert⟩
  case injected =>
    intro r b next he hf hn ha hb hs hnext hprobe hns
    have passed := goOn_tripBurst_passed (sh := sh) (s := atInjection sh b r s)
      (by simpa using hf) (by rw [atInjection_fmo]; exact hn)
    have entry := passed.entry
    rw [atInjection_pos, atInjection_entry, hnext] at entry
    refine ⟨_, exec_burstComplete r hp he hb, ?_⟩
    rw [completeBurst_injects r ha hb hs hnext hprobe hns]
    exact ⟨by rw [passed.ptr]; simp, entry, by rw [passed.pos, atInjection_pos],
      by rw [passed.recs, atInjection_trippedRecs], by rw [passed.armed, atInjection_fmo],
      by rw [passed.fts, atInjection_fts]⟩
  case injectedHalt =>
    intro r b next he hr hq _ hm hs ha hb hstr hnext hprobe hns
    have halted := goOn_tripBurst_halted [sh] (s := atInjection sh b r s) (by simpa using hr)
      (by simpa using hq) (by simpa using hm) (by simpa using hs)
    refine ⟨_, exec_burstComplete r hp he hb, ?_⟩
    rw [completeBurst_injects r ha hb hstr hnext hprobe hns]
    refine ⟨by rw [halted.fts, atInjection_fts], by rw [halted.cfe], by rw [halted.bpl],
      by rw [halted.bpl],
      halted.records, halted.slots, ?_, halted.alert⟩
    rw [halted.fmo, atInjection_trippedRecs, atInjection_fmo]

end Sys2Proof.Proofs
end

section
/-! PROOFS. O42: a SEARCH slot enters CONFIRM at its strongest candidate, sheet 0 first and then the
earlier delivered among equals, and stays in SEARCH with none. -/

namespace Sys2Proof.Machine

/-! ### The strongest of a list of candidates (R65) -/

/-- `k` is the first of the strongest candidates of a list: what comes before it is weaker, what
comes after it is no stronger. -/
def FirstStrongest (l : List Candidate) (k : Candidate) : Prop :=
  ∃ before after, l = before ++ k :: after
    ∧ (∀ j ∈ before, j.amp < k.amp) ∧ ∀ j ∈ after, j.amp ≤ k.amp

theorem FirstStrongest.mem {l : List Candidate} {k : Candidate} (h : FirstStrongest l k) :
    k ∈ l := by
  obtain ⟨before, after, rfl, _⟩ := h
  simp

theorem FirstStrongest.amp_le {l : List Candidate} {k j : Candidate} (h : FirstStrongest l k)
    (hj : j ∈ l) : j.amp ≤ k.amp := by
  obtain ⟨before, after, rfl, weaker, noStronger⟩ := h
  rcases List.mem_append.1 hj with hj | hj
  · exact (weaker j hj).le
  · rcases List.mem_cons.1 hj with rfl | hj
    · exact le_rfl
    · exact noStronger j hj

/-- A weaker candidate in front takes nothing from the first of the strongest. -/
theorem FirstStrongest.cons_weaker {l : List Candidate} {k b : Candidate}
    (h : FirstStrongest l k) (hb : b.amp < k.amp) : FirstStrongest (b :: l) k := by
  obtain ⟨before, after, rfl, weaker, noStronger⟩ := h
  exact ⟨b :: before, after, rfl, List.forall_mem_cons.2 ⟨hb, weaker⟩, noStronger⟩

/-- Nor does a candidate put behind one at least as strong. -/
theorem FirstStrongest.insert_second {l : List Candidate} {k b x : Candidate}
    (h : FirstStrongest (b :: l) k) (hx : x.amp ≤ b.amp) : FirstStrongest (b :: x :: l) k := by
  obtain ⟨_ | ⟨_, before⟩, after, split, weaker, noStronger⟩ := h
  · obtain ⟨rfl, rfl⟩ := List.cons.inj split
    exact ⟨[], x :: l, rfl, weaker, List.forall_mem_cons.2 ⟨hx, noStronger⟩⟩
  · obtain ⟨rfl, rfl⟩ := List.cons.inj split
    obtain ⟨hb, weaker⟩ := List.forall_mem_cons.1 weaker
    exact ⟨b :: x :: before, after, rfl,
      List.forall_mem_cons.2 ⟨hb, List.forall_mem_cons.2 ⟨hx.trans_lt hb, weaker⟩⟩, noStronger⟩

/-- The first of the strongest of two lists joined is that of the first list, or that of the second
and stronger than all of the first. -/
theorem FirstStrongest.of_append {l l' : List Candidate} {k : Candidate}
    (h : FirstStrongest (l ++ l') k) :
    FirstStrongest l k ∨ (FirstStrongest l' k ∧ ∀ j ∈ l, j.amp < k.amp) := by
  obtain ⟨before, after, split, weaker, noStronger⟩ := h
  rcases List.append_eq_append_iff.1 split with ⟨m, rfl, rfl⟩ | ⟨m, rfl, rest⟩
  · exact .inr ⟨⟨m, after, rfl, fun j hj => weaker j (List.mem_append_right _ hj), noStronger⟩,
      fun j hj => weaker j (List.mem_append_left _ hj)⟩
  · rcases List.cons_eq_append_iff.1 rest with ⟨rfl, rfl⟩ | ⟨m, rfl, rfl⟩
    · exact .inr ⟨⟨[], after, rfl, by simp, noStronger⟩, by simpa using weaker⟩
    · exact .inl ⟨before, m, rfl, weaker, fun j hj => noStronger j (List.mem_append_left _ hj)⟩

/-- The fold from a candidate finds the first of the strongest. -/
theorem foldl_stronger_some (l : List Candidate) (b : Candidate) :
    ∃ k, l.foldl stronger (some b) = some k ∧ FirstStrongest (b :: l) k := by
  induction l generalizing b with
  | nil => exact ⟨b, rfl, [], [], rfl, by simp, by simp⟩
  | cons x l ih =>
    by_cases hx : b.amp < x.amp
    · obtain ⟨k, found, first⟩ := ih x
      exact ⟨k, by simpa [stronger, hx] using found,
        first.cons_weaker (hx.trans_le (first.amp_le (by simp)))⟩
    · obtain ⟨k, found, first⟩ := ih b
      exact ⟨k, by simpa [stronger, hx] using found, first.insert_second (not_lt.1 hx)⟩

/-! ### The candidates among the delivered records (R65) -/

/-- The candidate a record gives on a sheet, if it is one. -/
def candidateOf (c : Channel) (threshold : PerSheet Nat) (sh : Sheet) :
    BurstRecord → Option Candidate
  | .search t d _ _ px py a =>
    if t = sh && d = c && sheetGet threshold t ≤ a then some ⟨t, px, py, a⟩ else none
  | _ => none

theorem candidatesOn_eq_filterMap (c : Channel) (threshold : PerSheet Nat) (sh : Sheet)
    (recs : List BurstRecord) :
    candidatesOn c threshold sh recs = recs.filterMap (candidateOf c threshold sh) := by
  induction recs with
  | nil => rfl
  | cons r rest ih =>
    cases r with
    | search t d u b px py a =>
      by_cases h : t = sh && d = c && sheetGet threshold t ≤ a <;>
        simp [candidatesOn, candidateOf, h, ih]
    | _ => exact ih

theorem candidateOf_eq_some {c : Channel} {threshold : PerSheet Nat} {sh : Sheet}
    {r : BurstRecord} {k : Candidate} :
    candidateOf c threshold sh r = some k ↔ k.sheet = sh ∧ sheetGet threshold sh ≤ k.amp
      ∧ ∃ u b, r = .search sh c u b k.peakX k.peakY k.amp := by
  cases r with
  | search t d u b px py a =>
    simp only [candidateOf, Option.ite_none_right_eq_some, Option.some.injEq, Bool.and_eq_true,
      decide_eq_true_eq]
    constructor
    · rintro ⟨⟨⟨rfl, rfl⟩, reaches⟩, rfl⟩
      exact ⟨rfl, reaches, u, b, rfl⟩
    · rintro ⟨rfl, reaches, u', b', same⟩
      cases same
      exact ⟨⟨⟨rfl, rfl⟩, reaches⟩, rfl⟩
  | _ => simp [candidateOf]

theorem mem_candidatesOn {c : Channel} {threshold : PerSheet Nat} {sh : Sheet}
    {recs : List BurstRecord} {k : Candidate} :
    k ∈ candidatesOn c threshold sh recs ↔ k.sheet = sh ∧ sheetGet threshold sh ≤ k.amp
      ∧ ∃ u b, BurstRecord.search sh c u b k.peakX k.peakY k.amp ∈ recs := by
  rw [candidatesOn_eq_filterMap, List.mem_filterMap]
  constructor
  · rintro ⟨r, hr, gives⟩
    obtain ⟨sheet, reaches, u, b, rfl⟩ := candidateOf_eq_some.1 gives
    exact ⟨sheet, reaches, u, b, hr⟩
  · rintro ⟨sheet, reaches, u, b, hr⟩
    exact ⟨_, hr, candidateOf_eq_some.2 ⟨sheet, reaches, u, b, rfl⟩⟩

/-- The record of a sheet's first strongest candidate, and that no record of the sheet and channel
before it is as strong. -/
theorem FirstStrongest.record {c : Channel} {threshold : PerSheet Nat} {sh : Sheet}
    {recs : List BurstRecord} {k : Candidate}
    (h : FirstStrongest (candidatesOn c threshold sh recs) k) :
    sheetGet threshold sh ≤ k.amp ∧ ∃ u b, ∃ before after : List BurstRecord,
      recs = before ++ BurstRecord.search sh c u b k.peakX k.peakY k.amp :: after
      ∧ ∀ u' b' px' py', BurstRecord.search sh c u' b' px' py' k.amp ∉ before := by
  obtain ⟨weakerOnes, _, split, weaker, _⟩ := h
  rw [candidatesOn_eq_filterMap] at split
  obtain ⟨first, last, rfl, hfirst, hlast⟩ := List.filterMap_eq_append_iff.1 split
  obtain ⟨between, r, after, rfl, noneBetween, gives, _⟩ := List.filterMap_eq_cons_iff.1 hlast
  obtain ⟨_, reaches, u, b, rfl⟩ := candidateOf_eq_some.1 gives
  refine ⟨reaches, u, b, first ++ between, after, by simp, fun u' b' px' py' earlier => ?_⟩
  have asStrong : candidateOf c threshold sh (.search sh c u' b' px' py' k.amp)
      = some ⟨sh, px', py', k.amp⟩ := candidateOf_eq_some.2 ⟨rfl, reaches, u', b', rfl⟩
  rcases List.mem_append.1 earlier with earlier | earlier
  · have := weaker _ (hfirst ▸ List.mem_filterMap.2 ⟨_, earlier, asStrong⟩)
    exact lt_irrefl _ this
  · rw [noneBetween _ earlier] at asStrong
    cases asStrong

/-! ### The candidate taken (R65) -/

/-- Without a candidate on either sheet none is taken; else the one taken is the first strongest of
its sheet, nothing on either sheet is stronger, and sheet 0 holds none as strong unless it is there. -/
theorem bestCandidate_cases (c : Channel) (threshold : PerSheet Nat) (recs : List BurstRecord) :
    (bestCandidate c threshold recs = none ∧ ∀ sh, candidatesOn c threshold sh recs = [])
    ∨ ∃ k, bestCandidate c threshold recs = some k
      ∧ FirstStrongest (candidatesOn c threshold k.sheet recs) k
      ∧ ∀ sh, ∀ j ∈ candidatesOn c threshold sh recs,
          j.amp ≤ k.amp ∧ (j.amp = k.amp → sh = .s0 → k.sheet = .s0) := by
  cases all : candidatesOn c threshold .s0 recs ++ candidatesOn c threshold .s1 recs with
  | nil =>
    obtain ⟨none0, none1⟩ := List.append_eq_nil_iff.1 all
    exact .inl ⟨by simp [bestCandidate, all], fun sh => by cases sh <;> assumption⟩
  | cons x rest =>
    obtain ⟨k, found, first⟩ := foldl_stronger_some rest x
    rw [← all] at first
    have le (sh : Sheet) (j : Candidate) (hj : j ∈ candidatesOn c threshold sh recs) :
        j.amp ≤ k.amp := first.amp_le (by cases sh <;> simp [hj])
    refine .inr ⟨k, by simpa [bestCandidate, all, stronger] using found, ?_⟩
    rcases first.of_append with first0 | ⟨first1, weaker0⟩
    · have sheet : k.sheet = .s0 := (mem_candidatesOn.1 first0.mem).1
      exact ⟨sheet ▸ first0, fun sh j hj => ⟨le sh j hj, fun _ _ => sheet⟩⟩
    · have sheet : k.sheet = .s1 := (mem_candidatesOn.1 first1.mem).1
      refine ⟨sheet ▸ first1, fun sh j hj => ⟨le sh j hj, fun tie on0 => ?_⟩⟩
      subst on0
      exact absurd tie (weaker0 j hj).ne

/-- The close of a slot in SEARCH is R65's. -/
theorem closeSlot_of_search {c : Channel} {s : State} (h : (s.slot c).state = .search) :
    closeSlot s c = closeSearch c s := by
  simp [closeSlot, h]

end Sys2Proof.Machine

namespace Sys2Proof.Proofs

open Sys2Proof.Machine

/-- Settles O42: the fold over the candidates finds the first of the strongest (`FirstStrongest`), of
sheet 0 before sheet 1, and the close enters CONFIRM there. -/
theorem searchEntersConfirm : Obligations.SearchEntersConfirm := by
  intro c s search candidate
  rw [closeSlot_of_search search]
  rcases bestCandidate_cases c s.cfe.threshold s.ptr.records with
    ⟨notTaken, empty⟩ | ⟨k, taken, first, strongest⟩
  · refine ⟨fun _ => by simp [closeSearch, notTaken], ?_⟩
    rintro ⟨_, hr, sh, u, b, px, py, a, rfl, reaches⟩
    have hk : (⟨sh, px, py, a⟩ : Candidate) ∈ candidatesOn c s.cfe.threshold sh s.ptr.records :=
      mem_candidatesOn.2 ⟨rfl, reaches, u, b, hr⟩
    simp [empty sh] at hk
  · constructor
    · intro noCandidate
      obtain ⟨_, reaches, u, b, hr⟩ := mem_candidatesOn.1 first.mem
      exact absurd ⟨k.sheet, u, b, k.peakX, k.peakY, k.amp, rfl, reaches⟩ (noCandidate _ hr)
    · intro _
      obtain ⟨reaches, u, b, delivered⟩ := first.record
      refine ⟨k.sheet, u, b, k.peakX, k.peakY, k.amp, delivered, reaches, ?_,
        by simp [closeSearch, taken, confirmCandidate]⟩
      intro sh' u' b' px' py' a' hr reaches'
      exact strongest sh' ⟨sh', px', py', a'⟩ (mem_candidatesOn.2 ⟨rfl, reaches', u', b', hr⟩)

end Sys2Proof.Proofs
end

section
/-! PROOFS. O51: a completed ID cycle discards 0 and validates a value by debounce, an ID already
held has no effect, and the ID a pen sends is read back. -/

namespace Sys2Proof.Machine

/-! ### A completed cycle and its consumer (R93) -/

theorem completeCycle_zero (ws : WordSettings) (w : WordRec) :
    completeCycle ws 0 w = ({ w with cycle := none, lastCycle := none }, none) := rfl

theorem completeCycle_of_ne_zero (ws : WordSettings) {v : Nat} (w : WordRec) (h : v ≠ 0) :
    completeCycle ws v w = ({ w with cycle := none, lastCycle := some v },
      if ws.debounce = false ∨ w.lastCycle = some v then some v else none) := by
  rw [completeCycle, if_neg h]
  cases ws.debounce
  case false => simp
  case true => by_cases again : w.lastCycle = some v <;> simp [again]

theorem takeTool_held {c : Channel} {s : State} {v : Nat} (h : (s.slot c).toolId = some v) :
    takeTool c (some v) s = (s, false) := by
  simp [takeTool, h]

/-! ### Joining a cycle (R92) -/

theorem feedCycle_starts (ws : WordSettings) {u : UsableWord} {w : WordRec}
    (hm : u.marker = true) (hw : w.cycle = none) :
    feedCycle ws (some u) w = ({ w with cycle := some [u.idBit] }, none) := by
  simp [feedCycle, hm, hw]

theorem feedCycle_joins (ws : WordSettings) {u : UsableWord} {w : WordRec} {bits : List Bool}
    (hm : u.marker = false) (hw : w.cycle = some bits) (short : bits.length < 15) :
    feedCycle ws (some u) w = ({ w with cycle := some (bits ++ [u.idBit]) }, none) := by
  simp [feedCycle, hm, hw, short.ne]

theorem feedCycle_completes (ws : WordSettings) {u : UsableWord} {w : WordRec} {bits : List Bool}
    (hm : u.marker = false) (hw : w.cycle = some bits) (full : bits.length = 15) :
    feedCycle ws (some u) w = completeCycle ws (idValue (bits ++ [u.idBit])) w := by
  simp [feedCycle, hm, hw, full]

/-! ### The value of the bits sent (R81, R92) -/

/-- The first `k` bits of a number, most significant first. -/
def leadingBits {n : Nat} (x : BitVec n) (k : Nat) : List Bool := (List.range k).map x.getMsbD

@[simp] theorem leadingBits_length {n : Nat} (x : BitVec n) (k : Nat) :
    (leadingBits x k).length = k := by
  simp [leadingBits]

theorem leadingBits_succ {n : Nat} (x : BitVec n) (k : Nat) :
    leadingBits x (k + 1) = leadingBits x k ++ [x.getMsbD k] := by
  simp [leadingBits, List.range_succ]

theorem idValue_append_bit (bits : List Bool) (b : Bool) :
    idValue (bits ++ [b]) = 2 * idValue bits + b.toNat := by
  simp [idValue]

/-- The first `k` bits give the number without its `n - k` lowest ones. -/
theorem idValue_leadingBits {n : Nat} (x : BitVec n) {k : Nat} (hk : k ≤ n) :
    idValue (leadingBits x k) = x.toNat / 2 ^ (n - k) := by
  induction k with
  | zero => simp [leadingBits, idValue, Nat.div_eq_of_lt x.isLt]
  | succ k ih =>
    have bit : (x.getMsbD k).toNat = x.toNat / 2 ^ (n - (k + 1)) % 2 := by
      rw [BitVec.getMsbD, decide_eq_true (show k < n from hk), Bool.true_and, BitVec.getLsbD,
        Nat.toNat_testBit, Nat.sub_right_comm, Nat.sub_sub]
    have higher : x.toNat / 2 ^ (n - k) = x.toNat / 2 ^ (n - (k + 1)) / 2 := by
      rw [Nat.div_div_eq_div_mul, ← pow_succ, show n - (k + 1) + 1 = n - k by omega]
    rw [leadingBits_succ, idValue_append_bit, ih (by omega), bit, higher]
    omega

theorem idValue_leadingBits_all {n : Nat} (x : BitVec n) : idValue (leadingBits x n) = x.toNat := by
  simp [idValue_leadingBits x le_rfl]

/-! ### The words a pen sends (R81) -/

/-- Word `k` of a cycle of a pen with this ID: its bit `k`, and marker 1 on the first. -/
def sentWord (b : Nat → Buttons) (id : BitVec 16) (k : Nat) : UsableWord :=
  ⟨b k, id.getMsbD k, k = 0⟩

/-- The sub-record, and the answer to the last word, after the first `n` words of a cycle. -/
def feedSent (ws : WordSettings) (b : Nat → Buttons) (id : BitVec 16) (n : Nat) (w : WordRec) :
    WordRec × Option Nat :=
  (List.range n).foldl (fun a k => feedCycle ws (some (sentWord b id k)) a.1) (w, none)

variable (ws : WordSettings) (b : Nat → Buttons) (id : BitVec 16)

theorem feedSent_succ (n : Nat) (w : WordRec) :
    feedSent ws b id (n + 1) w
      = feedCycle ws (some (sentWord b id n)) (feedSent ws b id n w).1 := by
  simp [feedSent, List.range_succ]

/-- Up to the fifteenth, the words sent gather their bits and change nothing else. -/
theorem feedSent_gathers {w : WordRec} (hw : w.cycle = none) {k : Nat} (hk : k < 15) :
    feedSent ws b id (k + 1) w = ({ w with cycle := some (leadingBits id (k + 1)) }, none) := by
  induction k with
  | zero => exact feedCycle_starts ws rfl hw
  | succ k ih =>
    rw [feedSent_succ, ih (by omega), feedCycle_joins ws (by simp [sentWord]) rfl
      (by simpa using hk), leadingBits_succ id (k + 1)]
    rfl

/-- The sixteenth word sent completes the cycle with the ID as its value. -/
theorem feedSent_completes {w : WordRec} (hw : w.cycle = none) (hid : id ≠ 0) :
    feedSent ws b id 16 w = ({ w with lastCycle := some id.toNat },
      if ws.debounce = false ∨ w.lastCycle = some id.toNat then some id.toNat else none) := by
  have value : idValue (leadingBits id 15 ++ [(sentWord b id 15).idBit]) = id.toNat :=
    (congrArg idValue (leadingBits_succ id 15)).symm.trans (idValue_leadingBits_all id)
  have nonzero : id.toNat ≠ 0 := fun h => hid (BitVec.eq_of_toNat_eq h)
  rw [feedSent_succ, feedSent_gathers ws b id hw (by decide),
    feedCycle_completes ws (by simp [sentWord]) rfl (by simp), value,
    completeCycle_of_ne_zero ws _ nonzero, ← hw]

end Sys2Proof.Machine

namespace Sys2Proof.Proofs

open Sys2Proof.Machine

/-- Settles O51: the completed cycle by its value (`completeCycle_zero`,
`completeCycle_of_ne_zero`), the round trip by `feedSent_completes`, whose first cycle leaves the ID as
the previous cycle value. -/
theorem cycleValidates : Obligations.CycleValidates := by
  refine ⟨fun ws v w => ⟨?zero, completeCycle_of_ne_zero ws w, fun s c => takeTool_held⟩,
    ?readBack⟩
  case zero =>
    rintro rfl
    exact completeCycle_zero ws w
  case readBack =>
    intro ws b id w hid hw
    have first := feedSent_completes ws b id hw hid
    refine ⟨first, ?_⟩
    change (feedSent ws b id 16 (feedSent ws b id 16 w).1).2 = some id.toNat
    rw [first, feedSent_completes ws b id (by exact hw) hid]
    simp

end Sys2Proof.Proofs
end

section
/-! PROOFS. O52: the offset of a panel-edge peak points inward and that of an interior peak is clamped
to half a pitch, so every raw coordinate lies on the panel within half a pitch of its coil. -/

namespace Sys2Proof.Machine

/-! ### The amplitudes around a local maximum (R57, R102) -/

theorem ampBelow_eq (a : List Nat) (k : Nat) :
    ampBelow a k = if k = 0 then 0 else a.getD (k - 1) 0 := by
  cases k <;> rfl

theorem ampBelow_le_of_localMax {a : List Nat} {k : Nat} (h : localMax a k = true) :
    ampBelow a k ≤ ampAt a k := by
  simp only [localMax, Bool.and_eq_true, decide_eq_true_eq] at h
  exact h.1

theorem ampAbove_lt_of_localMax {a : List Nat} {k : Nat} (h : localMax a k = true) :
    ampAt a (k + 1) < ampAt a k := ((localMax_iff a k).1 h).2

/-! ### The offset of a panel-edge peak (R104) -/

theorem edgeOffset_le {p a0 neighbour : Nat} (h : neighbour ≤ a0) :
    edgeOffset p a0 neighbour ≤ p / 2 := by
  rcases Nat.eq_zero_or_pos a0 with rfl | pos
  · simp [edgeOffset]
  · calc p * neighbour / (2 * a0) ≤ p * a0 / (2 * a0) :=
        Nat.div_le_div_right (Nat.mul_le_mul_left p h)
      _ = p / 2 := Nat.mul_div_mul_right p 2 pos

theorem edgeOffset_self (p : Nat) {a0 : Nat} (h : 0 < a0) : edgeOffset p a0 a0 = p / 2 :=
  Nat.mul_div_mul_right p 2 h

/-! ### The offset of an interior peak (R103) -/

theorem clampInt_eq {lo hi : Int} (v : Int) (h : lo ≤ hi) :
    clampInt v lo hi = max lo (min hi v) := by
  unfold clampInt
  split
  · omega
  · split <;> omega

theorem interiorOffset_eq (p below a0 above : Nat) :
    interiorOffset p below a0 above =
      if 2 * (2 * (a0 : Int) - below - above) = 0 then 0
      else max (-((p / 2 : Nat) : Int)) (min ((p / 2 : Nat) : Int)
        (((p : Int) * (above - below)).tdiv (2 * (2 * a0 - below - above)))) := by
  unfold interiorOffset
  dsimp only
  rw [clampInt_eq _ (by omega), Int.natCast_ediv]
  rfl

theorem interiorOffset_natAbs_le (p below a0 above : Nat) :
    (interiorOffset p below a0 above).natAbs ≤ p / 2 := by
  rw [interiorOffset_eq]
  split <;> omega

/-! ### The raw coordinate by the place of its peak (R102, R105) -/

section
variable {p n first k : Nat} {a : List Nat}

theorem rawCoord_first (h : first + k = 0) :
    rawCoord p n first a k = (edgeOffset p (ampAt a k) (ampAt a (k + 1)) : Int) := by
  simp [rawCoord, h]

theorem rawCoord_last (pos : 0 < first + k) (last : first + k + 1 = n) :
    rawCoord p n first a k
      = ((n - 1) * p : Nat) - (edgeOffset p (ampAt a k) (ampBelow a k) : Int) := by
  dsimp only [rawCoord]
  rw [if_neg pos.ne', if_pos last, ← last, Int.sub_eq_add_neg]
  simp

theorem rawCoord_interior (pos : 0 < first + k) (inside : first + k + 1 < n) :
    rawCoord p n first a k = ((first + k) * p : Nat)
      + interiorOffset p (ampBelow a k) (ampAt a k) (ampAt a (k + 1)) := by
  dsimp only [rawCoord]
  rw [if_neg pos.ne', if_neg inside.ne, Int.natCast_mul]

/-- A raw coordinate is at most half a pitch from its coil, and at a panel edge on the inner side. -/
theorem rawCoord_near (wide : 2 ≤ n) (on : first + k < n) (peak : localMax a k = true) :
    ∃ offset : Int, rawCoord p n first a k = ((first + k) * p : Nat) + offset
      ∧ offset.natAbs ≤ p / 2
      ∧ (first + k = 0 → 0 ≤ offset) ∧ (first + k + 1 = n → offset ≤ 0) := by
  rcases Nat.eq_zero_or_pos (first + k) with zero | pos
  · have le := edgeOffset_le (p := p) (ampAbove_lt_of_localMax peak).le
    exact ⟨edgeOffset p (ampAt a k) (ampAt a (k + 1)), by rw [rawCoord_first zero, zero]; simp,
      by omega, by omega, by omega⟩
  rcases Nat.lt_or_ge (first + k + 1) n with inside | last
  · exact ⟨_, rawCoord_interior pos inside, interiorOffset_natAbs_le .., by omega, by omega⟩
  · obtain rfl : first + k + 1 = n := by omega
    have le := edgeOffset_le (p := p) (ampBelow_le_of_localMax peak)
    exact ⟨_, by rw [rawCoord_last pos rfl, Int.sub_eq_add_neg]; rfl, by omega, by omega, by omega⟩

/-- Half a pitch from an inner coil, or inward from an edge coil, is still on the panel (R105). -/
theorem rawCoord_onPanel (wide : 2 ≤ n) (on : first + k < n) (peak : localMax a k = true) :
    0 ≤ rawCoord p n first a k ∧ rawCoord p n first a k ≤ ((n - 1) * p : Nat)
      ∧ (rawCoord p n first a k - ((first + k) * p : Nat)).natAbs ≤ p / 2 := by
  obtain ⟨offset, eq, near, atFirst, atLast⟩ := rawCoord_near (p := p) wide on peak
  have low : first + k = 0 ∨ p ≤ (first + k) * p :=
    (Nat.eq_zero_or_pos _).imp_right (Nat.le_mul_of_pos_left p)
  have high : first + k + 1 = n ∨ (first + k) * p + p ≤ (n - 1) * p := by
    rcases Nat.lt_or_ge (first + k + 1) n with inside | last
    · exact .inr (Nat.succ_mul (first + k) p ▸ Nat.mul_le_mul_right p (by omega))
    · exact .inl (by omega)
  have most : (first + k) * p ≤ (n - 1) * p := Nat.mul_le_mul_right p (by omega)
  rw [eq]
  omega

end

end Sys2Proof.Machine

namespace Sys2Proof.Proofs

open Sys2Proof.Machine

/-- Settles O52: the raw coordinate by the place of its peak (`rawCoord_first`, `rawCoord_last`,
`rawCoord_interior`), and its bounds by `rawCoord_onPanel`. -/
theorem rawCoordinatesOnPanel : Obligations.RawCoordinatesOnPanel := by
  intro p n first a k window hk peak
  refine ⟨?first, ?last, ?interior, rawCoord_onPanel (by omega) (by omega) peak⟩
  case first =>
    intro zero
    obtain rfl : k = 0 := by omega
    exact rawCoord_first zero
  case last =>
    rintro last j rfl
    have eq := rawCoord_last (p := p) (a := a) (by omega) last
    refine ⟨eq, fun same => ?_⟩
    have above := ampAbove_lt_of_localMax peak
    rw [eq, ampBelow, same, edgeOffset_self p (by omega)]
  case interior =>
    intro pos inside
    rw [rawCoord_interior pos inside, interiorOffset_eq, ampBelow_eq]
    rfl

end Sys2Proof.Proofs
end

section
/-! PROOFS. O53: the out value rises along its curve, held or computed from the raw pressure, and is
reported with the tip DOWN. -/

namespace Sys2Proof.Machine

/-! ### What a valid record gives (R121) -/

section
variable {pr : Profile}

theorem pFull_lt_pFree (h : profileValid pr = true) : pr.pFull < pr.pFree := by
  simp only [profileValid, Bool.and_eq_true, decide_eq_true_eq] at h; tauto

theorem off_lt_on (h : profileValid pr = true) : pr.off < pr.on := by
  simp only [profileValid, Bool.and_eq_true, decide_eq_true_eq] at h; tauto

theorem curveValid_of_profileValid (h : profileValid pr = true) {q : Curve}
    (hq : pr.curve = some q) : curveValid q = true := by
  simp only [profileValid, Bool.and_eq_true, hq, Option.all_some] at h; tauto

end

/-! ### Raw pressure (R107) -/

section
variable {pr : Profile} {c d : Nat}

theorem rawPressure_free (h : pr.pFree ≤ c) : rawPressure pr c = 0 := if_pos h

theorem rawPressure_full (valid : pr.pFull < pr.pFree) (h : c ≤ pr.pFull) :
    rawPressure pr c = 4095 := by
  rw [rawPressure, if_neg (by omega), if_pos h]

theorem rawPressure_between (full : pr.pFull < c) (free : c < pr.pFree) :
    rawPressure pr c = (pr.pFree - c) * 4095 / (pr.pFree - pr.pFull) := by
  rw [rawPressure, if_neg (by omega), if_neg (by omega)]

/-- From P_full up one formula gives the raw pressure, at P_free and above it as well. -/
theorem rawPressure_of_full_le (valid : pr.pFull < pr.pFree) (h : pr.pFull ≤ c) :
    rawPressure pr c = (pr.pFree - c) * 4095 / (pr.pFree - pr.pFull) := by
  rcases Nat.lt_or_ge c pr.pFree with free | free
  · rcases Nat.eq_or_lt_of_le h with rfl | full
    · rw [rawPressure_full valid le_rfl, Nat.mul_div_cancel_left _ (by omega)]
    · exact rawPressure_between full free
  · rw [rawPressure_free free, Nat.sub_eq_zero_of_le free]; simp

theorem rawPressure_le (valid : pr.pFull < pr.pFree) (c : Nat) : rawPressure pr c ≤ 4095 := by
  rcases Nat.le_total c pr.pFull with full | full
  · exact (rawPressure_full valid full).le
  · rw [rawPressure_of_full_le valid full]
    exact Nat.div_le_of_le_mul (Nat.mul_le_mul_right _ (by omega))

theorem rawPressure_antitone (valid : pr.pFull < pr.pFree) (h : c ≤ d) :
    rawPressure pr d ≤ rawPressure pr c := by
  rcases Nat.le_total c pr.pFull with full | full
  · rw [rawPressure_full valid full]; exact rawPressure_le valid d
  · rw [rawPressure_of_full_le valid full, rawPressure_of_full_le valid (full.trans h)]
    exact Nat.div_le_div_right (Nat.mul_le_mul_right _ (by omega))

end

/-! ### One segment of a curve (R108) -/

theorem segment_start (x y x' y' : Nat) : segment x y x' y' x = y := by simp [segment]

theorem segment_end {x y x' y' : Nat} (hx : x < x') (hy : y ≤ y') :
    segment x y x' y' x' = y' := by
  rw [segment, Nat.mul_div_cancel _ (by omega)]; omega

theorem segment_mono (x y x' y' : Nat) {r r' : Nat} (h : r ≤ r') :
    segment x y x' y' r ≤ segment x y x' y' r' :=
  Nat.add_le_add_left (Nat.div_le_div_right (Nat.mul_le_mul_left _ (by omega))) y

/-! ### The curve by its six points (R108, R121) -/

/-- The input x_k of a curve's point. -/
def Curve.inputAt (q : Curve) (k : Nat) : Nat := [0, q.x1, q.x2, q.x3, q.x4, 4095].getD k 0

/-- The output y_k of a curve's point. -/
def Curve.outputAt (q : Curve) (k : Nat) : Nat := [q.y0, q.y1, q.y2, q.y3, q.y4, q.y5].getD k 0

/-- The segment of a curve from its point `k` to the next. -/
def Curve.segmentFrom (q : Curve) (k x : Nat) : Nat :=
  segment (q.inputAt k) (q.outputAt k) (q.inputAt (k + 1)) (q.outputAt (k + 1)) x

section
variable {q : Curve} {k x y : Nat}

/-- The inputs of a valid curve rise strictly from 0 to 4095. -/
theorem inputs_rise (valid : curveValid q = true) :
    0 < q.x1 ∧ q.x1 < q.x2 ∧ q.x2 < q.x3 ∧ q.x3 < q.x4 ∧ q.x4 < 4095 := by
  simp only [curveValid, within, Bool.and_eq_true, decide_eq_true_eq] at valid
  omega

/-- The outputs of a valid curve do not fall, and stay within 4095. -/
theorem outputs_rise (valid : curveValid q = true) : q.y0 ≤ q.y1 ∧ q.y1 ≤ q.y2 ∧ q.y2 ≤ q.y3
    ∧ q.y3 ≤ q.y4 ∧ q.y4 ≤ q.y5 ∧ q.y5 ≤ 4095 := by
  simp only [curveValid, Bool.and_eq_true, decide_eq_true_eq] at valid
  tauto

theorem inputAt_lt_succ (valid : curveValid q = true) (hk : k < 5) :
    q.inputAt k < q.inputAt (k + 1) := by
  have rise := inputs_rise valid
  interval_cases k <;> simp [Curve.inputAt, rise]

theorem outputAt_le_succ (valid : curveValid q = true) (hk : k < 5) :
    q.outputAt k ≤ q.outputAt (k + 1) := by
  have rise := outputs_rise valid
  interval_cases k <;> simp [Curve.outputAt, rise]

/-- Every raw pressure below 4095 lies in a segment. -/
theorem exists_segment (q : Curve) (h : x < 4095) :
    ∃ k < 5, q.inputAt k ≤ x ∧ x < q.inputAt (k + 1) := by
  by_contra outside
  have climb : ∀ k ≤ 5, q.inputAt k ≤ x := by
    intro k hk
    induction k with
    | zero => exact Nat.zero_le x
    | succ k ih => exact Nat.le_of_not_lt fun lt => outside ⟨k, by omega, ih (by omega), lt⟩
  exact absurd (climb 5 le_rfl) (Nat.not_le.2 h)

theorem outValue_full (q : Curve) : outValue (some q) 4095 = q.y5 := rfl

theorem outValue_in_segment (valid : curveValid q = true) (hk : k < 5) (low : q.inputAt k ≤ x)
    (high : x < q.inputAt (k + 1)) : outValue (some q) x = q.segmentFrom k x := by
  have rise := inputs_rise valid
  dsimp only [outValue]
  interval_cases k <;> simp only [Curve.inputAt, List.getD_cons_zero, List.getD_cons_succ] at low high
  · rw [if_neg (by omega), if_pos high]; rfl
  · rw [if_neg (by omega), if_neg (by omega), if_pos high]; rfl
  · rw [if_neg (by omega), if_neg (by omega), if_neg (by omega), if_pos high]; rfl
  · rw [if_neg (by omega), if_neg (by omega), if_neg (by omega), if_neg (by omega), if_pos high]; rfl
  · rw [if_neg (by omega), if_neg (by omega), if_neg (by omega), if_neg (by omega),
      if_neg (by omega)]; rfl

/-- A segment gives the out value at both its ends. -/
theorem outValue_on_segment (valid : curveValid q = true) (hk : k < 5) (low : q.inputAt k ≤ x)
    (high : x ≤ q.inputAt (k + 1)) : outValue (some q) x = q.segmentFrom k x := by
  rcases Nat.lt_or_eq_of_le high with lt | rfl
  · exact outValue_in_segment valid hk low lt
  · rw [Curve.segmentFrom, segment_end (inputAt_lt_succ valid hk) (outputAt_le_succ valid hk)]
    rcases Nat.lt_or_eq_of_le (Nat.le_of_lt_succ hk) with inner | rfl
    · rw [outValue_in_segment valid (Nat.succ_lt_succ inner) le_rfl
        (inputAt_lt_succ valid (by omega)), Curve.segmentFrom, segment_start]
    · exact outValue_full q

theorem outValue_zero (valid : curveValid q = true) : outValue (some q) 0 = q.y0 := by
  have first := outValue_in_segment valid (k := 0) (by decide) le_rfl
    (inputAt_lt_succ valid (by decide))
  exact first.trans (segment_start ..)

/-- The curve rises: a raw pressure and its successor lie on one segment. -/
theorem outValue_curve_mono (valid : curveValid q = true) (h : x ≤ y) (hy : y ≤ 4095) :
    outValue (some q) x ≤ outValue (some q) y := by
  induction y, h using Nat.le_induction with
  | base => exact le_rfl
  | succ y _ ih =>
    obtain ⟨k, hk, low, high⟩ := exists_segment q hy
    refine (ih (by omega)).trans ?_
    rw [outValue_on_segment valid hk low high.le, outValue_on_segment valid hk (by omega) high]
    exact segment_mono _ _ _ _ (Nat.le_succ y)

theorem outValue_curve_bounds (valid : curveValid q = true) (h : x ≤ 4095) :
    q.y0 ≤ outValue (some q) x ∧ outValue (some q) x ≤ q.y5 := by
  rw [← outValue_zero valid, ← outValue_full q]
  exact ⟨outValue_curve_mono valid (Nat.zero_le x) h, outValue_curve_mono valid h le_rfl⟩

end

/-! ### The out value of a valid record (R108, R110, R111) -/

section
variable {pr : Profile}

theorem outValue_mono (valid : profileValid pr = true) {x y : Nat} (h : x ≤ y) (hy : y ≤ 4095) :
    outValue pr.curve x ≤ outValue pr.curve y := by
  cases hq : pr.curve with
  | none => exact h
  | some q => exact outValue_curve_mono (curveValid_of_profileValid valid hq) h hy

theorem outValue_le (valid : profileValid pr = true) {x : Nat} (h : x ≤ 4095) :
    outValue pr.curve x ≤ 4095 := by
  cases hq : pr.curve with
  | none => exact h
  | some q =>
    have cv := curveValid_of_profileValid valid hq
    have top := outputs_rise cv
    have bounds := outValue_curve_bounds cv h
    omega

theorem sampleOut_of_count {sl : Slot} {period : Option Nat} {n : Nat} (h : period = some n) :
    sampleOut pr sl period = outValue pr.curve (rawPressure pr n) := by
  rw [h]; rfl

theorem sampleOut_of_held {sl : Slot} {period : Option Nat} {h : Nat} (uncounted : period = none)
    (held : sl.heldPressure = some h) : sampleOut pr sl period = h := by
  rw [uncounted]; simp [sampleOut, held]

theorem sampleOut_of_none_held {sl : Slot} {period : Option Nat} (uncounted : period = none)
    (held : sl.heldPressure = none) : sampleOut pr sl period = outValue pr.curve 0 := by
  rw [uncounted]; simp [sampleOut, held]

theorem sampleOut_le (valid : profileValid pr = true) {sl : Slot}
    (held : ∀ h, sl.heldPressure = some h → h ≤ 4095) (period : Option Nat) :
    sampleOut pr sl period ≤ 4095 := by
  cases hp : period with
  | some n =>
    rw [sampleOut_of_count rfl]
    exact outValue_le valid (rawPressure_le (pFull_lt_pFree valid) n)
  | none =>
    cases hh : sl.heldPressure with
    | some h => rw [sampleOut_of_held rfl hh]; exact held h hh
    | none => rw [sampleOut_of_none_held rfl hh]; exact outValue_le valid (Nat.zero_le _)

end

/-! ### The tip state (R109) -/

section
variable {pr : Profile} {out : Nat} (t : TipState)

theorem nextTip_down (h : pr.on ≤ out) : nextTip pr t out = .down := if_pos h

theorem nextTip_up (thresholds : pr.off < pr.on) (h : out < pr.off) : nextTip pr t out = .up := by
  rw [nextTip, if_neg (by omega), if_pos h]

theorem nextTip_kept (off : pr.off ≤ out) (on : out < pr.on) : nextTip pr t out = t := by
  rw [nextTip, if_neg (by omega), if_neg (by omega)]

end

/-! ### A slot's sample (R110 to R112) -/

theorem fullSample_tip (layout : Layout) (panel : Panel) (pr : Profile) (sl : Slot)
    (v : HitView) : (fullSample layout panel pr sl v).tip
      = nextTip pr sl.tip (sampleOut pr sl v.period) := rfl

theorem fullSample_pressure (layout : Layout) (panel : Panel) (pr : Profile) (sl : Slot)
    (v : HitView) : (fullSample layout panel pr sl v).pressure
      = if (fullSample layout panel pr sl v).tip = .down then sampleOut pr sl v.period else 0 := rfl

/-- Tip state and pressure follow the out value, and the slot keeps the tip state. -/
theorem sampleSlot_follows_out {c : Channel} {v : HitView} {s : State} {out : Nat}
    (h : sampleOut (slotProfile s c) (s.slot c) v.period = out) :
    (sampleSlot c v s).2.tip = nextTip (slotProfile s c) (s.slot c).tip out
      ∧ ((sampleSlot c v s).1.slot c).tip = (sampleSlot c v s).2.tip
      ∧ (sampleSlot c v s).2.pressure = if (sampleSlot c v s).2.tip = .down then out else 0 := by
  subst h
  exact ⟨fullSample_tip .., by rw [sampleSlot_slot, if_pos rfl]; rfl, fullSample_pressure ..⟩

theorem sampleSlot_heldPressure (c : Channel) (v : HitView) (s : State) :
    ((sampleSlot c v s).1.slot c).heldPressure = if v.period.isSome
      then some (sampleOut (slotProfile s c) (s.slot c) v.period)
      else (s.slot c).heldPressure := by
  simp [holdSample]

theorem sampleSlot_pressureHeld (c : Channel) (v : HitView) (s : State) :
    (sampleSlot c v s).2.pressureHeld = v.period.isNone := rfl

end Sys2Proof.Machine

namespace Sys2Proof.Proofs

open Sys2Proof.Machine

/-- Settles O53: the sample follows its out value (`sampleSlot_follows_out`), which is held, or rises
with the raw pressure (`outValue_mono`), which falls as the count rises (`rawPressure_antitone`). -/
theorem pressureFollowsTip : Obligations.PressureFollowsTip := by
  refine ⟨?reported, ?slot, fun _ => rfl, ?record⟩
  case reported =>
    intro layout panel pr sl v
    refine ⟨fun down => ?_, fun up => ?_, fun valid held => ?_⟩
    · rw [fullSample_pressure, if_pos down]
    · rw [fullSample_pressure, if_neg (by rw [up]; decide)]
    · have le := sampleOut_le valid held v.period
      rw [fullSample_pressure]
      split <;> omega
  case slot =>
    intro c v s
    refine ⟨fun n hp => ⟨?_, ?_, ?_⟩, fun hp => ⟨?_, ?_⟩, fun h hp hh => ?_, fun hp hh => ?_⟩
    · rw [sampleSlot_pressureHeld, hp]; rfl
    · exact sampleSlot_follows_out (sampleOut_of_count hp)
    · rw [sampleSlot_heldPressure, sampleOut_of_count hp, hp]; rfl
    · rw [sampleSlot_pressureHeld, hp]; rfl
    · rw [sampleSlot_heldPressure, hp]; rfl
    · exact sampleSlot_follows_out (sampleOut_of_held hp hh)
    · exact sampleSlot_follows_out (sampleOut_of_none_held hp hh)
  case record =>
    intro pr valid
    have range := pFull_lt_pFree valid
    have curve := fun q => curveValid_of_profileValid valid (q := q)
    refine ⟨rawPressure_le range, fun c d => rawPressure_antitone range,
      fun x y => outValue_mono valid, ?bounds, ?atZero,
      fun c => ⟨rawPressure_free, rawPressure_full range, rawPressure_between⟩, ?segments,
      fun t out => ⟨nextTip_down t, nextTip_up t (off_lt_on valid), nextTip_kept t⟩⟩
    case bounds =>
      intro q x hq hx
      rw [hq]
      exact outValue_curve_bounds (curve q hq) hx
    case atZero =>
      intro q hq
      rw [hq]
      exact outValue_zero (curve q hq)
    case segments =>
      intro q x hq
      rw [hq]
      exact ⟨outValue_full q, fun k hk => outValue_in_segment (curve q hq) hk⟩

end Sys2Proof.Proofs
end

section
/-! PROOFS. O40: a MOTION handed is placed below the limit, and at it merged into the newest unsent
entry of its channel or dropped. -/

namespace Sys2Proof.Machine

/-! ### The newest entry of a channel (R137) -/

section
variable {m : Motion} {gap : Bool}

theorem mergeNewest_cons {e : Entry} (other : e.channel ≠ some m.ch) (rest : List Entry) :
    mergeNewest m gap (e :: rest) = (mergeNewest m gap rest).map (e :: ·) := if_neg other

/-- The search for an entry to merge into passes what belongs to no channel or to another one. -/
theorem mergeNewest_append {l : List Entry} (other : ∀ e ∈ l, e.channel ≠ some m.ch)
    (rest : List Entry) :
    mergeNewest m gap (l ++ rest) = (mergeNewest m gap rest).map (l ++ ·) := by
  induction l with
  | nil => simp
  | cons e l ih =>
    rw [List.cons_append, mergeNewest_cons (other e (by simp)),
      ih fun e he => other e (List.mem_cons_of_mem _ he), Option.map_map]
    rfl

/-- Only the newest entry of its channel decides what becomes of a MOTION. -/
theorem mergeNewest_newest {q before after : List Entry} {e : Entry}
    (shape : q = before ++ e :: after) (newest : ∀ e ∈ after, e.channel ≠ some m.ch) :
    mergeNewest m gap q.reverse
      = (mergeNewest m gap (e :: before.reverse)).map (after.reverse ++ ·) := by
  subst shape
  rw [List.reverse_append, List.reverse_cons, List.append_assoc,
    mergeNewest_append fun e he => newest e (List.mem_reverse.1 he)]
  rfl

theorem mergeNewest_other {q : List Entry} (other : ∀ e ∈ q, e.channel ≠ some m.ch) :
    mergeNewest m gap q.reverse = none := by
  rw [← List.append_nil q.reverse,
    mergeNewest_append fun e he => other e (List.mem_reverse.1 he)]
  rfl

theorem mergeNewest_motion {held : Motion} (same : held.ch = m.ch) (rest : List Entry) :
    mergeNewest m gap (.motion held :: rest) = if mergeable held m
      then some (.motion (mergeMotion held m gap) :: rest) else none :=
  if_pos (congrArg some same)

theorem mergeNewest_notice {e : Entry} (own : e.channel = some m.ch) (notice : e.isMotion = false)
    (rest : List Entry) : mergeNewest m gap (e :: rest) = none := by
  cases e with
  | motion => cases notice
  | _ => exact if_pos own

theorem mergeable_iff (held handed : Motion) :
    mergeable held handed = true ↔ held.tip = handed.tip ∧ held.buttons = handed.buttons := by
  simp [mergeable]

end

/-! ### A MOTION at the limit (R137, R138) -/

section
variable {r : Rqu} {m : Motion} (full : Config.motionLimit ≤ motionCount r.queue)
include full

theorem Rqu.handMotion_merged {q : List Entry}
    (merged : mergeNewest m (r.gap.get m.ch) r.queue.reverse = some q) :
    r.handMotion m = ({ r with gap := r.gap.set m.ch false, queue := q.reverse }, false) := by
  unfold Rqu.handMotion
  dsimp only
  rw [if_neg (Nat.not_lt.2 full), merged]

theorem Rqu.handMotion_dropped (unmerged : mergeNewest m (r.gap.get m.ch) r.queue.reverse = none) :
    r.handMotion m = ({ r with gap := r.gap.set m.ch true }, true) := by
  unfold Rqu.handMotion
  dsimp only
  rw [if_neg (Nat.not_lt.2 full), unmerged]

section
variable {before after : List Entry} (newest : ∀ e ∈ after, e.channel ≠ some m.ch)
include newest

theorem Rqu.handMotion_drops_notice {e : Entry} (shape : r.queue = before ++ e :: after)
    (own : e.channel = some m.ch) (notice : e.isMotion = false) :
    r.handMotion m = ({ r with gap := r.gap.set m.ch true }, true) := by
  refine Rqu.handMotion_dropped full ?_
  rw [mergeNewest_newest shape newest, mergeNewest_notice own notice, Option.map_none]

section
variable {held : Motion} (shape : r.queue = before ++ .motion held :: after)
  (same : held.ch = m.ch)
include shape same

theorem Rqu.handMotion_merges_newest (equal : held.tip = m.tip ∧ held.buttons = m.buttons) :
    r.handMotion m = ({ r with
      gap := r.gap.set m.ch false
      queue := before ++ .motion (mergeMotion held m (r.gap.get m.ch)) :: after }, false) := by
  have merged := mergeNewest_newest (gap := r.gap.get m.ch) shape newest
  rw [mergeNewest_motion same, if_pos ((mergeable_iff held m).2 equal), Option.map_some] at merged
  rw [Rqu.handMotion_merged full merged]
  simp

theorem Rqu.handMotion_drops_unequal
    (unequal : ¬ (held.tip = m.tip ∧ held.buttons = m.buttons)) :
    r.handMotion m = ({ r with gap := r.gap.set m.ch true }, true) := by
  refine Rqu.handMotion_dropped full ?_
  rw [mergeNewest_newest shape newest, mergeNewest_motion same,
    if_neg (mt (mergeable_iff held m).1 unequal), Option.map_none]

end

end

end

/-! ### The drop told to the Fault Monitor (R138, R154) -/

section
variable {m : Motion} {s : State}

theorem handMotion_of_not_dropped (kept : (s.rqu.handMotion m).2 = false) :
    handMotion m s = s.setRqu (s.rqu.handMotion m).1 := by
  simp [handMotion, kept]

theorem handMotion_of_dropped (lost : (s.rqu.handMotion m).2 = true) :
    handMotion m s = recordFault .queueDrop (s.setRqu (s.rqu.handMotion m).1) := by
  simp [handMotion, lost]

end

end Sys2Proof.Machine

namespace Sys2Proof.Proofs

open Sys2Proof.Machine

/-- Settles O40: below the limit by `handMotion_below`; at it by what the newest entry of the channel
is (`Rqu.handMotion_merges_newest`, `Rqu.handMotion_drops_unequal`, `Rqu.handMotion_drops_notice`),
or that there is none (`mergeNewest_other`). -/
theorem motionHanded : Obligations.MotionHanded := by
  refine ⟨fun r m => ⟨?below, fun full => ⟨?merged, ?unequal, ?notice, ?other⟩⟩, ?fault, ?position⟩
  case below =>
    intro room
    rw [handMotion_below r m room]
    exact ⟨rfl, rfl⟩
  case merged =>
    intro before held after shape same newest tip buttons
    exact Rqu.handMotion_merges_newest full newest shape same ⟨tip, buttons⟩
  case unequal =>
    intro before held after shape same newest
    exact Rqu.handMotion_drops_unequal full newest shape same
  case notice =>
    intro before e after shape own notice newest
    exact Rqu.handMotion_drops_notice full newest shape own notice
  case other =>
    intro other
    exact Rqu.handMotion_dropped full (mergeNewest_other other)
  case fault =>
    intro m s
    refine ⟨handMotion_of_not_dropped, fun lost => ⟨handMotion_of_dropped lost, ?_⟩⟩
    rw [handMotion_of_dropped lost, recordFault_recs]
    rfl
  case position =>
    intro c sm twin relocated s
    simp [reportedSlot]

end Sys2Proof.Proofs
end

section
/-! PROOFS. O41: an OUT handed cancels the unsent IN of its channel, and a TOOL handed is placed,
replaces the unsent one of its proximity, or supersedes the one of an ended proximity. -/

namespace Sys2Proof.Machine

/-! ### OUT (R140) -/

/-- The followers of an IN are the MOTION and TOOL entries of its channel. -/
theorem Entry.isFollowerOf_eq (c : Channel) (e : Entry) :
    e.isFollowerOf c = (decide (e.channel = some c) && (e.isMotion || e.isToolOf c)) := by
  cases e <;> simp [Entry.isFollowerOf, Entry.channel, Entry.isMotion, Entry.isToolOf]

/-- The oldest IN of the channel is the one cancelled. -/
theorem cancelIn_split {c : Channel} {before : List Entry} (oldest : .penIn c ∉ before)
    (after : List Entry) : cancelIn c (before ++ .penIn c :: after)
      = some (before ++ after.filter fun e => !e.isFollowerOf c) := by
  induction before with
  | nil => exact if_pos rfl
  | cons e before ih =>
    obtain ⟨hne, hrest⟩ := not_or.1 (mt List.mem_cons.2 oldest)
    rw [List.cons_append, cancelIn, if_neg (Ne.symm hne), ih hrest]
    rfl

section
variable {r : Rqu} {c : Channel}

theorem Rqu.handOut_of_cancelIn {q : List Entry} (h : cancelIn c r.queue = some q) :
    r.handOut c = { r with queue := q } := by
  simp [Rqu.handOut, h]

theorem Rqu.handOut_of_no_in (h : .penIn c ∉ r.queue) : r.handOut c = r.place (.penOut c) := by
  simp [Rqu.handOut, (cancelIn_none c r.queue).2 h]

@[simp] theorem Rqu.handOut_gap (r : Rqu) (c : Channel) : (r.handOut c).gap = r.gap := by
  unfold Rqu.handOut; split <;> rfl

@[simp] theorem Rqu.handOut_hold (r : Rqu) (c : Channel) : (r.handOut c).hold = r.hold := by
  unfold Rqu.handOut; split <;> rfl

end

/-! ### TOOL (R142) -/

section
variable {c : Channel} {l before after : List Entry} {i : Nat} {b : Option Nat}

theorem Entry.isToolOf_tool (c : Channel) (i : Nat) (b : Option Nat) :
    (Entry.tool c i b).isToolOf c = true := decide_eq_true rfl

theorem outAfterTool_split (first : ∀ e ∈ before, e.isToolOf c = false) :
    outAfterTool c (before ++ .tool c i b :: after) = decide (.penOut c ∈ after) := by
  induction before with
  | nil => exact if_pos (Entry.isToolOf_tool c i b)
  | cons e before ih =>
    rw [List.cons_append, outAfterTool, if_neg (by simp [first e]),
      ih fun e he => first e (List.mem_cons_of_mem _ he)]

theorem filter_not_tool (noTool : ∀ e ∈ l, e.isToolOf c = false) :
    l.filter (fun e => !e.isToolOf c) = l :=
  List.filter_eq_self.2 fun e he => by rw [noTool e he]; rfl

theorem map_replace_tool (new : Entry) (noTool : ∀ e ∈ l, e.isToolOf c = false) :
    l.map (fun e => if e.isToolOf c then new else e) = l :=
  (List.map_congr_left fun e he => if_neg (by simp [noTool e he])).trans (List.map_id' l)

end

section
variable {r : Rqu} {c : Channel} {id : Nat} {bound : Option Nat}

theorem Rqu.handTool_places (noTool : ∀ e ∈ r.queue, e.isToolOf c = false) :
    (r.handTool c id bound).queue = r.queue ++ [.tool c id bound] := by
  have absent : ¬ (r.queue.any (·.isToolOf c) = true) := by
    simpa using noTool
  rw [Rqu.handTool, if_neg absent, Rqu.place_queue]

section
variable {before after : List Entry} {i : Nat} {b : Option Nat}
  (shape : r.queue = before ++ .tool c i b :: after)
  (only : ∀ e ∈ before ++ after, e.isToolOf c = false)
include shape only

/-- With one unsent TOOL of the channel, an OUT after it decides between superseding and replacing. -/
theorem Rqu.handTool_of_one : (r.handTool c id bound).queue = if .penOut c ∈ after
    then before ++ after ++ [.tool c id bound] else before ++ .tool c id bound :: after := by
  have first := fun e he => only e (List.mem_append_left after he)
  have last := fun e he => only e (List.mem_append_right before he)
  have held : r.queue.any (·.isToolOf c) = true := by
    simp [shape, Entry.isToolOf_tool]
  rw [Rqu.handTool, if_pos held, shape, outAfterTool_split first]
  simp only [decide_eq_true_eq]
  split
  · rw [Rqu.place_queue, List.filter_append, List.filter_cons_of_neg (by simp [Entry.isToolOf_tool]),
      filter_not_tool first, filter_not_tool last]
  · rw [List.map_append, List.map_cons, if_pos (Entry.isToolOf_tool c i b), map_replace_tool _ first,
      map_replace_tool _ last]

end

end

end Sys2Proof.Machine

namespace Sys2Proof.Proofs

open Sys2Proof.Machine

/-- Settles O41: an OUT by whether an IN is unsent (`cancelIn_split`, `Rqu.handOut_of_no_in`), a TOOL
by whether one is unsent and an OUT stands after it (`Rqu.handTool_places`, `Rqu.handTool_of_one`). -/
theorem noticesHanded : Obligations.NoticesHanded := by
  refine ⟨fun r c => ⟨?cancelled, ?placed, r.handOut_gap c, r.handOut_hold c⟩,
    fun r c id bound => ⟨Rqu.handTool_places, ?replaced, ?superseded⟩⟩
  case cancelled =>
    intro before after shape oldest
    have cancel : cancelIn c r.queue = _ := shape ▸ cancelIn_split oldest after
    rw [Rqu.handOut_of_cancelIn cancel]
    simp only [Entry.isFollowerOf_eq]
  case placed =>
    intro noIn
    rw [Rqu.handOut_of_no_in noIn, Rqu.place_queue]
  case replaced =>
    intro before i b after shape only noOut
    rw [Rqu.handTool_of_one shape only, if_neg noOut]
  case superseded =>
    intro before i b after shape only out
    rw [Rqu.handTool_of_one shape only, if_pos out]

end Sys2Proof.Proofs
end

section
/-! PROOFS. O27: what each timer and a sent frame do at their end. -/

namespace Sys2Proof.Machine

/-! ### The framer gap, the transmitter and the hold (R148, R173, R177, R183) -/

section
variable {n : Nat} {s : State} (high : s.pins.resetLow = false)
include high

theorem exec_framerGapExpiry (gap : s.lnk.framer.gap = some n) (due : Config.framerGap ≤ n) :
    exec .framerGapExpiry s
      = .next (arbitrate (raiseFault .linkFraming (s.setFramer idleFramer))) :=
  if_pos (by simp [State.framerGapDue, high, gap, due])

theorem exec_transmitComplete {x : Transmission} (sending : s.lnk.tx = some x)
    (sent : x.left = 0) : exec .transmitComplete s = .next (arbitrate (freeTransmitter s)) :=
  if_pos (by simp [State.sendDue, high, sending, sent])

theorem exec_holdTimerExpiry (ended : s.rqu.hold = some 0) :
    exec .holdTimerExpiry s = .next (arbitrate (s.modRqu fun r => { r with hold := none })) :=
  if_pos (by simp [State.holdDue, high, ended])

end

theorem bitTime_le_idleTime (s : State) : bitTime s.pins.linkFast ≤ idleTime s :=
  Nat.le_add_right _ _

/-- A freed transmitter: the command reset falls due with the RESET's reply, and only then. -/
theorem freeTransmitter_eq {s : State} {x : Transmission} (sending : s.lnk.tx = some x) :
    freeTransmitter s = { s with
      lnk := { s.lnk with tx := none, quiet := idleTime s }
      cpr := if x.ofReset = true ∧ s.cpr = .resetWaits then .resetDue else s.cpr
      free := s.free + 1 } := by
  by_cases ofReset : x.ofReset = true ∧ s.cpr = .resetWaits
  · rw [freeTransmitter, if_pos (by simpa [sending] using ofReset), if_pos ofReset]
    rfl
  · rw [freeTransmitter, if_neg (by simpa [sending] using ofReset), if_neg ofReset]
    rfl

/-! ### The timers of the lock monitor (R29, R31, R32) -/

section
variable {n : Nat} {s : State} (high : s.pins.resetLow = false)
include high

theorem gapDue_of_le (gap : s.fts.gap = some n) (due : 2 * s.fts.display.period ≤ n) :
    s.gapDue = true := by
  simp [State.gapDue, high, gap, due]

theorem exec_syncGapTimerExpiry (gap : s.fts.gap = some n)
    (due : 2 * s.fts.display.period ≤ n) (acquiring : s.fts.lock = .acquiring) :
    exec .syncGapTimerExpiry s = .next (arbitrate
      (s.setFts { s.fts with consec := 0, capture := none, gap := none })) :=
  if_pos (by simp [gapDue_of_le high gap due, acquiring])

theorem exec_lockTimerExpiry (gap : s.fts.gap = some n)
    (due : 2 * s.fts.display.period ≤ n) (locked : s.fts.lock = .locked) :
    exec .lockTimerExpiry s
      = .next (arbitrate (raiseFault .syncLost (s.setFts (unlockSync s.fts)))) :=
  if_pos (by simp [gapDue_of_le high gap due, locked])

theorem exec_acquisitionTimeout (acq : s.fts.acq = some n)
    (due : 64 * s.fts.display.period ≤ n) (acquiring : s.fts.lock = .acquiring)
    (first : s.fts.timeoutRaised = false) :
    exec .acquisitionTimeout s = .next (arbitrate
      (raiseFault .syncTimeout (s.setFts { s.fts with timeoutRaised := true }))) :=
  if_pos (by simp [State.acquisitionDue, high, acq, due, acquiring, first])

end

theorem exec_acquisitionTimeout_again {s : State} (raised : s.fts.timeoutRaised = true) :
    exec .acquisitionTimeout s = .next s :=
  if_neg (by simp [State.acquisitionDue, raised])

end Sys2Proof.Machine

namespace Sys2Proof.Proofs

open Sys2Proof.Machine

/-- Settles O27: each expiry by the lemma on its row; the idle time owed after a frame is
`idleTime`, at least one bit (`bitTime_le_idleTime`). -/
theorem timersExpire : Obligations.TimersExpire := by
  intro n s high
  refine ⟨exec_framerGapExpiry high, ?sent, exec_holdTimerExpiry high,
    exec_syncGapTimerExpiry high, exec_lockTimerExpiry high, exec_acquisitionTimeout high,
    exec_acquisitionTimeout_again⟩
  case sent =>
    intro x sending sent
    refine ⟨idleTime s, bitTime_le_idleTime s, ?_⟩
    rw [exec_transmitComplete high sending sent, freeTransmitter_eq sending]

end Sys2Proof.Proofs
end

section
/-! PROOFS. O23: a setting event marks its fault and, unmasked, loads the pointer, leaves an ALERT
unsent and may halt the part. -/

namespace Sys2Proof.Machine

/-! ### The ALERT handed (R143) -/

theorem Rqu.handAlert_eq (r : Rqu) : r.handAlert = { r with
    queue := if .alert ∈ r.queue then r.queue else r.queue ++ [.alert] } := by
  unfold Rqu.handAlert; split <;> rfl

/-- HALTED entry takes no ALERT from the queue: it hands OUTs alone (R78, R140). -/
theorem enterHalt_keeps_alert {s : State} (h : .alert ∈ s.rqu.queue) :
    .alert ∈ (enterHalt s).rqu.queue := by
  have kept : .alert ∈ (clearSlots (discardFrame s)).rqu.queue := clearSlots_keeps_alert h
  unfold enterHalt
  split <;> exact kept

theorem haltIfHeld_keeps_alert {s : State} (h : .alert ∈ s.rqu.queue) :
    .alert ∈ (haltIfHeld s).rqu.queue := by
  unfold haltIfHeld
  split
  · exact enterHalt_keeps_alert h
  · exact h

/-! ### A setting event by the mask (R154) -/

section
variable {f : FaultId} {s : State}

section
variable (masked : (s.fmo.recs.get f).masked = true)
include masked

theorem recordFault_masked : recordFault f s = { s with fmo := (recordFault f s).fmo } := by
  rw [recordFault, if_pos masked]; rfl

theorem raiseFault_masked : raiseFault f s = recordFault f s := if_pos masked

end

section
variable (unmasked : (s.fmo.recs.get f).masked = false)
include unmasked

theorem recordFault_unmasked : recordFault f s
    = { s with fmo := (recordFault f s).fmo, rqu := s.rqu.handAlert } := by
  rw [recordFault, if_neg (by simp [unmasked])]; rfl

theorem raiseFault_unmasked : raiseFault f s = haltIfHeld (recordFault f s) :=
  if_neg (by simp [unmasked])

theorem alert_mem_raiseFault : .alert ∈ (raiseFault f s).rqu.queue := by
  rw [raiseFault_unmasked unmasked]
  exact haltIfHeld_keeps_alert (by simp [recordFault_rqu, unmasked])

end
end

end Sys2Proof.Machine

namespace Sys2Proof.Proofs

open Sys2Proof.Machine

/-- Settles O23: what is recorded by the mask (`recordFault_masked`, `recordFault_unmasked`), and an
unmasked event is that followed by the look at the halting condition (`raiseFault_unmasked`). -/
theorem raiseRecords : Obligations.RaiseRecords := by
  intro f s
  simp only [raiseFault_fmo, ← Rqu.handAlert_eq]
  refine ⟨recordFault_recs f s, recordFault_fmo_snapshot f s, recordFault_fmo_armed f s,
    recordFault_pointer f s, ?doesNoMore, alert_mem_raiseFault, ?recorded, ?goesOn, ?halts⟩
  case doesNoMore =>
    intro masked
    exact (raiseFault_masked masked).trans (recordFault_masked masked)
  case recorded =>
    cases masked : (s.fmo.recs.get f).masked with
    | true => simpa using recordFault_masked masked
    | false => simpa [Rqu.handAlert] using recordFault_unmasked masked
  case goesOn =>
    intro unmasked idle
    rw [raiseFault_unmasked unmasked, ← recordFault_unmasked unmasked]
    rcases idle with none | still
    · exact haltIfHeld_of_not _ none
    · exact haltIfHeld_of_scan _ (by simpa using still)
  case halts =>
    intro unmasked held running
    rw [raiseFault_unmasked unmasked, ← recordFault_unmasked unmasked]
    exact haltIfHeld_of_held _ held (by simpa using running)

end Sys2Proof.Proofs
end

section
/-! PROOFS. O19: READ_FAULTS opens a snapshot and answers the fault state. O20: CLEAR_FAULTS clears
the named faults that stand as the snapshot showed them. -/

namespace Sys2Proof.Machine

/-! ### Fault sets on the link (R191, R193) -/

theorem ofBits_lt (l : List Bool) : ofBits l < 2 ^ l.length := by
  induction l with
  | nil => simp [ofBits]
  | cons b l ih =>
    have hb := b.toNat_le
    simp only [ofBits, List.length_cons, pow_succ]
    omega

/-- A number has the bits it was made of. -/
theorem bitOf_ofBits (l : List Bool) (k : Nat) : bitOf (ofBits l) k = l.getD k false := by
  induction l generalizing k with
  | nil => simp [bitOf, ofBits]
  | cons b l ih =>
    cases k with
    | zero => cases b <;> simp [bitOf, ofBits]
    | succ k =>
      have half : ofBits (b :: l) / 2 ^ (k + 1) = ofBits l / 2 ^ k := by
        have hb := b.toNat_lt
        rw [pow_succ', ← Nat.div_div_eq_div_mul]
        congr 1
        simp only [ofBits]
        omega
      simpa [bitOf, half] using ih k

theorem faultWord_lt (v : PerFault Bool) : faultWord v < 1024 := by
  simpa [faultWord, FaultId.all] using ofBits_lt (FaultId.all.map v.get)

/-- A fault set is read back from its word. -/
theorem faultSetOf_faultWord (v : PerFault Bool) : faultSetOf (faultWord v) = some v := by
  rw [faultSetOf, if_pos (faultWord_lt v), Option.some_inj]
  refine PerFault.ext_get fun f => ?_
  rw [perFault_get, faultWord, bitOf_ofBits]
  cases f <;> rfl

theorem pointerCode_eq (p : Option FaultId) : pointerCode p = (p.map FaultId.num).getD 255 := by
  cases p <;> rfl

/-! ### The statuses cleared (R155, R163) -/

@[simp] theorem clearable_get (m : Fmo) (set : PerFault Bool) (f : FaultId) :
    (clearable m set).get f = (set.get f && (m.recs.get f).status && !(m.recs.get f).marker) :=
  perFault_get _ f

/-- The statuses a CLEAR_FAULTS leaves: a status is kept where it is unnamed or marked. -/
theorem clearStatuses_clearable_get (m : Fmo) (set : PerFault Bool) (f : FaultId) :
    (clearStatuses (clearable m set) m).recs.get f = { m.recs.get f with
      status := (m.recs.get f).status && !(set.get f && !(m.recs.get f).marker) } := by
  simp only [clearStatuses, perFault_get, clearable_get]
  cases (m.recs.get f).status <;> simp

/-- Clearing statuses brings no halting condition (R157). -/
theorem clearStatuses_not_halting {m : Fmo} (cleared : PerFault Bool) (h : m.halting = false) :
    (clearStatuses cleared m).halting = false := by
  rw [Bool.eq_false_iff, Ne, Fmo.halting_iff] at h ⊢
  rintro ⟨f, halts⟩
  obtain ⟨⟨⟨set, -⟩, unmasked⟩, severe⟩ :
      (((m.recs.get f).status = true ∧ cleared.get f = false) ∧ (m.recs.get f).masked = false)
        ∧ (m.recs.get f).halt = true := by
    simpa [clearStatuses, FaultRec.halts] using halts
  exact h ⟨f, by simp [FaultRec.halts, set, unmasked, severe]⟩

theorem clearStatuses_of_none {m : Fmo} {cleared : PerFault Bool}
    (h : ∀ f, cleared.get f = false) : clearStatuses cleared m = m := by
  have recs : (clearStatuses cleared m).recs = m.recs :=
    PerFault.ext_get fun f => by simp [clearStatuses, h]
  have pointer : (clearStatuses cleared m).pointer = m.pointer := by
    cases held : m.pointer <;> simp [clearStatuses, held, h]
  calc clearStatuses cleared m
      = { m with recs := (clearStatuses cleared m).recs
                 pointer := (clearStatuses cleared m).pointer } := rfl
    _ = m := by rw [recs, pointer]

/-! ### The part running again (R157, R160) -/

/-- The scan state with a halt ended where no halting condition remains. -/
def resumedScan (m : Fmo) (scan : ScanState) : ScanState :=
  if scan = .halted ∧ m.halting = false then .running else scan

/-- Where no halting condition is new to a RUNNING part, an evaluation can only end a halt. -/
theorem evaluateHalt_of_settled {s : State} (h : s.fts.scan = .running → s.fmo.halting = false) :
    evaluateHalt s = s.setFts { s.fts with scan := resumedScan s.fmo s.fts.scan } := by
  have stays : haltIfHeld s = s := by
    by_cases running : s.fts.scan = .running
    · exact haltIfHeld_of_not s (h running)
    · exact haltIfHeld_of_scan s running
  rw [evaluateHalt, stays, resumeIfEnded, resumedScan]
  by_cases ended : s.fts.scan = .halted ∧ s.fmo.halting = false
  · rw [if_pos ended, if_pos (by simp [ended])]
  · rw [if_neg ended, if_neg (by simpa [and_comm] using ended)]
    rfl

/-- CLEAR_FAULTS accepted, for a part that is halted just where a halting condition holds. -/
theorem applyClear_eq {s : State} (cleared : PerFault Bool)
    (run : s.fts.scan = .running → s.fmo.halting = false)
    (halt : s.fts.scan = .halted → s.fmo.halting = true) :
    applyClear cleared s = (s.setFmo (clearStatuses cleared s.fmo)).setFts { s.fts with
      scan := resumedScan (clearStatuses cleared s.fmo) s.fts.scan } := by
  unfold applyClear
  split
  next =>
    exact evaluateHalt_of_settled fun running => clearStatuses_not_halting cleared (run running)
  next clearsNone =>
    have all : ∀ f, cleared.get f = false := by
      have mem : ∀ f, f ∈ FaultId.all := by intro f; cases f <;> decide
      simpa [mem] using clearsNone
    have stays : resumedScan s.fmo s.fts.scan = s.fts.scan :=
      if_neg fun ⟨halted, ended⟩ => by simp [halt halted] at ended
    rw [clearStatuses_of_none all, stays]
    rfl

/-! ### The rules of the two commands (R161 to R163) -/

/-- The body of READ_FAULTS shows the fault state with the new snapshot number. -/
theorem readFaultsRule_eq (p : List Byte) (s : State) : readFaultsRule p s
    = accept (s.setFmo (openSnapshot s.fmo))
      (u16 (faultWord (statusSet s.fmo)) ++ u16 (faultWord (maskSet s.fmo))
        ++ u16 (faultWord (haltSet s.fmo)) ++ u8 ((s.fmo.pointer.map FaultId.num).getD 255)
        ++ [s.fmo.snapshot + 1]) := by
  simp [readFaultsRule, readFaultsBody, openSnapshot, statusSet, maskSet, haltSet, pointerCode_eq]

/-- CLEAR_FAULTS by its snapshot number, its set one that a word carries (R162, R163). -/
theorem clearFaultsRule_word (b : Byte) (named : PerFault Bool) (s : State) :
    clearFaultsRule (b :: u16 (faultWord named)) s = if b = s.fmo.snapshot then
        accept (applyClear (clearable s.fmo named) s)
          (clearFaultsBody (clearable s.fmo named) (applyClear (clearable s.fmo named) s))
      else ⟨s, [0x07, s.fmo.snapshot]⟩ := by
  have word : u16At (b :: u16 (faultWord named)) 1 = faultWord named := by
    simpa [u16At, u8At] using
      u16At_u16 (faultWord named) [] ((faultWord_lt named).trans (by decide))
  have number : u8At (b :: u16 (faultWord named)) 0 = b.toNat := rfl
  simp only [clearFaultsRule, word, faultSetOf_faultWord, number, BitVec.toNat_inj]
  rfl

end Sys2Proof.Machine

namespace Sys2Proof.Proofs

open Sys2Proof.Machine

/-- Settles O19: the command's own rule (`readFaultsRule_eq`) between its taking and its reply. -/
theorem readFaultsOpensSnapshot : Obligations.ReadFaultsOpensSnapshot := by
  intro s c rest takes empty
  change runCommand .readFaults readFaultsRule s = _
  rw [runCommand_takes _ takes (by rw [empty]; rfl), readFaultsRule_eq]
  rfl

/-- Settles O20: the word names its set (`clearFaultsRule_word`), and the clearing can only end a
halt (`applyClear_eq`). -/
theorem clearFaultsClears : Obligations.ClearFaultsClears := by
  intro s c rest b named takes payload run halt
  have ran := runCommand_takes clearFaultsRule takes (by rw [payload]; rfl)
  rw [payload, clearFaultsRule_word, taken_fmo] at ran
  refine ⟨fun current => ?accepted, fun stale => ?refused⟩
  case accepted =>
    rw [if_pos current] at ran
    have cleared := applyClear_eq (s := taken rest s) (clearable s.fmo named) run halt
    refine ⟨applyClear (clearable s.fmo named) (taken rest s), ?records, ?pointer, ?frame, ?reply⟩
    case records =>
      intro f
      rw [cleared]
      exact clearStatuses_clearable_get s.fmo named f
    case pointer =>
      rw [cleared]
      simp [clearStatuses]
    case frame =>
      rw [cleared]
      rfl
    case reply =>
      refine ran.trans ?_
      rw [clearFaultsBody, pointerCode_eq]
      rfl
  case refused =>
    rw [if_neg stale] at ran
    exact ran

end Sys2Proof.Proofs
end

section
/-! PROOFS. O3: the two resets and the part held in pin reset. O10: QUERY_ID answers the
identification. -/

namespace Sys2Proof.Machine

/-! ### The codes a reply or a report shows (R192) -/

@[simp] theorem u8_layoutCode (l : Layout) : u8 l.code = [if l = .dual then 1 else 0] := by
  cases l <;> rfl

@[simp] theorem u8_causeCode (c : ResetCause) : u8 c.code = [if c = .command then 1 else 0] := by
  cases c <;> rfl

@[simp] theorem u8_scanCode (st : ScanState) :
    u8 st.code = [if st = .stopped then 0 else if st = .running then 1 else 2] := by
  cases st <;> rfl

@[simp] theorem u8_flag (b : Bool) : u8 b.toNat = [if b then 1 else 0] := by cases b <;> rfl

theorem u16_familyCode : u16 Config.familyCode = [0x40, 0x22] := rfl

theorem u8_revision : u8 Config.revision = [1] := rfl

/-- The body of QUERY_ID, byte by byte (R184, R194). -/
theorem queryIdBody_eq (s : State) : queryIdBody s =
    [0x40, 0x22, 1, if s.cfe.layout = .dual then 1 else 0, if s.cfe.fixed then 1 else 0,
      if s.pins.strapLayout = .dual then 1 else 0, if s.pins.linkFast then 1 else 0,
      if s.pins.cause = .command then 1 else 0,
      if s.fts.scan = .stopped then 0 else if s.fts.scan = .running then 1 else 2,
      if s.fts.stopReq then 1 else 0] := by
  simp [queryIdBody, u16_familyCode, u8_revision]

/-! ### Held in pin reset (R189)

While RESETN is low no row's occasion is there, RESETN_RELEASE excepted. -/

section
variable {s : State} (low : s.pins.resetLow = true)
include low

theorem canTake_of_low : s.canTake = false := by simp [State.canTake, low]

theorem txReady_of_low : s.txReady = false := by simp [State.txReady, low]

theorem sendDue_of_low : s.sendDue = false := by simp [State.sendDue, low]

theorem holdDue_of_low : s.holdDue = false := by simp [State.holdDue, low]

theorem framerGapDue_of_low : s.framerGapDue = false := by simp [State.framerGapDue, low]

theorem frameDue_of_low : s.frameDue = false := by simp [State.frameDue, low]

theorem gapDue_of_low : s.gapDue = false := by simp [State.gapDue, low]

theorem acquisitionDue_of_low : s.acquisitionDue = false := by simp [State.acquisitionDue, low]

theorem engineIn_of_low (sh : Sheet) (st : EngineState) : s.engineIn sh st = false := by
  simp [State.engineIn, low]

theorem guardDue_of_low (sh : Sheet) : s.guardDue sh = false := by
  simp [State.guardDue, engineIn_of_low low]

theorem alignDue_of_low (sh : Sheet) : s.alignDue sh = false := by
  simp [State.alignDue, engineIn_of_low low]

theorem dueEvents_of_low : dueEvents s = [] := by
  simp [dueEvents, takeDue, dueIf, low, canTake_of_low, sendDue_of_low, holdDue_of_low,
    framerGapDue_of_low, frameDue_of_low, gapDue_of_low, acquisitionDue_of_low, guardDue_of_low,
    alignDue_of_low]

/-- The clockwork stands still. -/
theorem step_of_low (empty : s.pending = []) : step s = .next s := by
  simp [step, empty, idleStep, dueEvents_of_low low, passTime, low]

/-- No row but the release acts. -/
theorem exec_of_low (i : Instr) (held : ∀ l k, i ≠ .resetnRelease l k) : exec i s = .next s := by
  have noneTaken (kind : Option CommandKind) : takeCommand kind s = none :=
    takeCommand_of_not kind s (canTake_of_low low)
  cases i
  case resetnRelease l k => exact absurd rfl (held l k)
  case resetnAssert | receiveByte => exact if_pos low
  case commandReset | lsyncEdge | fsyncEdge => exact if_neg (by simp [low])
  case unknownCommand => simp [exec, execUnknownCommand, noneTaken, noEffect]
  case reset => simp [exec, execReset, noneTaken, noEffect]
  case framerGapExpiry => exact if_neg (by simp [framerGapDue_of_low low])
  case transmitComplete => exact if_neg (by simp [sendDue_of_low low])
  case holdTimerExpiry => exact if_neg (by simp [holdDue_of_low low])
  case frameTimerExpiry => exact if_neg (by simp [frameDue_of_low low])
  case syncGapTimerExpiry | lockTimerExpiry => exact if_neg (by simp [gapDue_of_low low])
  case acquisitionTimeout => exact if_neg (by simp [acquisitionDue_of_low low])
  case listenGuardEnd => exact if_neg (by simp [guardDue_of_low low])
  case alignTimeout => exact if_neg (by simp [alignDue_of_low low])
  case excitationEnd | burstComplete | driverOvercurrent =>
    exact if_neg (by simp [engineIn_of_low low])
  all_goals exact runCommand_of_not _ _ s (canTake_of_low low)

end

/-! ### The ANNOUNCE that follows a reset (R144, R145) -/

/-- A free transmitter with no reply pending and no hold is given the head of the queue. -/
theorem arbitrate_report {s : State} {e : Entry} {rest : List Entry} (ready : s.txReady = true)
    (noReply : s.lnk.replies = []) (noHold : s.rqu.hold = none) (head : s.rqu.queue = e :: rest) :
    arbitrate s = { s with
      rqu := { s.rqu with queue := rest }
      lnk := { s.lnk with
        tx := some (startFrame s (reportFrame (alertContent s.fmo s.fts.scan) e) false)
        quiet := 0 } } := by
  simp [arbitrate, ready, noReply, noHold, head, State.setRqu, State.setLnk]

/-- The frame of an ANNOUNCE, byte by byte (R174, R184, R196). -/
theorem reportFrame_announce (a : AlertContent) (l : Layout) (c : ResetCause) :
    reportFrame a (announceEntry l c) = frameBytes 0x45 0
      [0x40, 0x22, 1, if l = .dual then 1 else 0, if c = .command then 1 else 0] := by
  simp [reportFrame, announceEntry, reportOf, u16_familyCode, u8_revision]

theorem frameBytes_length (kind tag : Byte) (payload : List Byte) :
    (frameBytes kind tag payload).length = payload.length + 6 := by
  simp [frameBytes, coveredBytes]

/-- An ANNOUNCE is eleven bytes on the line (R173). -/
theorem sendTime_announce (fast : Bool) (a : AlertContent) (l : Layout) (c : ResetCause) :
    sendTime fast (reportFrame a (announceEntry l c)) = if fast then 110 else 330 := by
  rw [reportFrame_announce, sendTime, frameBytes_length]
  cases fast <;> simp

/-- A reset that leaves RESETN high, the line owing `owed` of idle time: every block at its reset
value, and the arbiter gives the ANNOUNCE the transmitter (R173, R188). -/
theorem arbitrate_resetBlocks_announce {pins : Pins} (high : pins.resetLow = false) (l : Layout)
    (c : ResetCause) (owed : Nat) (s : State) :
    arbitrate ((s.resetBlocks pins l [announceEntry l c]).setLnk { resetLnk with quiet := owed })
      = (s.resetBlocks pins l []).setLnk { resetLnk with
          tx := some ⟨frameBytes 0x45 0
              [0x40, 0x22, 1, if l = .dual then 1 else 0, if c = .command then 1 else 0],
            owed + if pins.linkFast then 110 else 330, false⟩ } := by
  have ready : ((s.resetBlocks pins l [announceEntry l c]).setLnk
      { resetLnk with quiet := owed }).txReady = true := by
    simp [State.txReady, State.resetBlocks, State.setLnk, resetLnk, high]
  rw [arbitrate_report ready rfl rfl rfl, startFrame, sendTime_announce, reportFrame_announce]
  rfl

/-! ### The resets (R187 to R189) -/

theorem exec_resetnAssert {s : State} (high : s.pins.resetLow = false) :
    exec .resetnAssert s
      = .next (s.resetBlocks { s.pins with resetLow := true } s.cfe.layout []) := by
  have resets : exec .resetnAssert s
      = done (s.resetBlocks { s.pins with resetLow := true } s.cfe.layout []) :=
    if_neg (by simp [high])
  rw [resets, done, arbitrate_of_not_ready _ (txReady_of_low rfl)]

theorem exec_resetnRelease {s : State} (low : s.pins.resetLow = true) (l k : Level) :
    exec (.resetnRelease l k) s = .next
      ((s.resetBlocks ⟨false, layoutOfStrap l, fastOfStrap k, .pin⟩ (layoutOfStrap l) []).setLnk
        { resetLnk with
          tx := some ⟨frameBytes 0x45 0
              [0x40, 0x22, 1, if layoutOfStrap l = .dual then 1 else 0, 0],
            if fastOfStrap k then 110 else 330, false⟩ }) := by
  have resets : exec (.resetnRelease l k) s = done ((s.resetBlocks
      ⟨false, layoutOfStrap l, fastOfStrap k, .pin⟩ (layoutOfStrap l)
      [announceEntry (layoutOfStrap l) .pin]).setLnk { resetLnk with quiet := 0 }) := if_pos low
  rw [resets, done, arbitrate_resetBlocks_announce rfl, Nat.zero_add]
  rfl

theorem exec_commandReset {s : State} (high : s.pins.resetLow = false)
    (due : s.cpr = .resetDue) :
    exec .commandReset s = .next
      ((s.resetBlocks { s.pins with cause := .command } s.cfe.layout []).setLnk
        { resetLnk with
          tx := some ⟨frameBytes 0x45 0 [0x40, 0x22, 1, if s.cfe.layout = .dual then 1 else 0, 1],
            s.lnk.quiet + if s.pins.linkFast then 110 else 330, false⟩ }) := by
  have resets : exec .commandReset s = done ((s.resetBlocks { s.pins with cause := .command }
      s.cfe.layout [announceEntry s.cfe.layout .command]).setLnk
      { resetLnk with quiet := s.lnk.quiet }) := if_pos (by simp [high, due])
  rw [resets, done, arbitrate_resetBlocks_announce (pins := { s.pins with cause := .command }) high]
  rfl

/-! ### The Fault Monitor after a reset (R172) -/

theorem resetFmo_recs (f : FaultId) :
    resetFmo.recs.get f = ⟨false, false, false, decide (f = .driverTrip)⟩ := perFault_get _ f

theorem resetFmo_not_halting : resetFmo.halting = false := by decide

theorem nothingArmed_has (i : Injection) : nothingArmed.has i = false := by
  cases i <;> simp [nothingArmed, Armed.has]

end Sys2Proof.Machine

namespace Sys2Proof.Proofs

open Sys2Proof.Machine

/-- Settles O3: the Fault Monitor's reset values, the part held in pin reset (`exec_of_low`,
`step_of_low`), and the three rows of a reset; what an ANNOUNCE after one leaves is
`arbitrate_resetBlocks_announce`. -/
theorem resetsStartAnew : Obligations.ResetsStartAnew := by
  refine ⟨⟨resetFmo_recs, rfl, rfl, resetFmo_not_halting, nothingArmed_has⟩,
    fun s => ⟨exec_resetnAssert, exec_of_low, step_of_low, ?release, ?command⟩⟩
  case release =>
    intro low l k
    rw [exec_resetnRelease low]
    cases l <;> cases k <;> rfl
  case command =>
    intro high due
    have byte : (if s.cfe.layout = .dual then 1 else 0 : Byte)
        = if s.cfe.layout = .single then 0 else 1 := by cases s.cfe.layout <;> rfl
    rw [exec_commandReset high due, byte]
    rfl

/-- Settles O10: QUERY_ID's own rule, whose body is `queryIdBody_eq`, between its taking and its
reply. -/
theorem queryIdReplies : Obligations.QueryIdReplies := by
  intro s c rest takes empty
  change runCommand .queryId queryIdRule s = _
  rw [runCommand_takes _ takes (by rw [empty]; rfl), queryIdRule, queryIdBody_eq]
  rfl

end Sys2Proof.Proofs
end

section
/-! PROOFS. What a step can do, said once for every statement about all steps: the change each row
makes (`Effect`), and of a row the CPR takes the change the command's own rule makes (`Ruled`). -/

namespace Sys2Proof.Machine

/-! ### What a command's own rule can do (R181) -/

/-- The changes the own rules of the commands make, with what each has checked; a refusal and a reading
make none. -/
inductive Ruled (s : State) : State → Prop
  | kept : Ruled s s
  | layout (l : Layout) (unfixed : s.cfe.fixed = false) : Ruled s (applyLayout l s)
  | panel (g : Panel) (stopped : s.fts.scan = .stopped) (fits : panelFits s.cfe.layout g = true) :
      Ruled s (restartAll (s.setCfe { s.cfe with panel := g }))
  | scan (p : List Byte) (fits : scanFits p = true) :
      Ruled s ((s.setFts { s.fts with latch := u16At p 0 }).setBpl
        { s.bpl with staged := { s.bpl.staged with scan := some (scanOf p) } })
  | display (p : List Byte) (fits : displayFits p = true) :
      Ruled s (s.setFts { unlockSync s.fts with display := displayOf p })
  | word (r : WordSettings) (legal : r.legal = true) :
      Ruled s (s.setBpl { s.bpl with staged := { s.bpl.staged with word := some r } })
  | enable (set : PerChannel Bool) :
      Ruled s (s.setBpl { s.bpl with staged := { s.bpl.staged with enable := some set } })
  | release (c : Channel) :
      Ruled s (s.setBpl { s.bpl with
        staged := { s.bpl.staged with releases := s.bpl.staged.releases.set c true } })
  | start : Ruled s (applyStart s)
  | stop : Ruled s (applyStop s)
  | tool (id : Nat) (r : Profile) (valid : profileValid r = true) (named : 1 ≤ id ∧ id ≤ 65535)
      (room : holdsTool s.ptb id = true ∨ s.ptb.tools.length < Config.toolLimit) :
      Ruled s (loadTool id r s)
  | default (c : Channel) (r : Profile) (valid : profileValid r = true) :
      Ruled s (loadDefault c r s)
  | drop (id : Nat) : Ruled s (dropTool id s)
  | hold (time : Option Nat) : Ruled s (s.modRqu fun r => { r with hold := time })
  | snapshot : Ruled s (s.setFmo (openSnapshot s.fmo))
  | clear (cleared : PerFault Bool) : Ruled s (applyClear cleared s)
  | policy (mask halt : PerFault Bool) : Ruled s (applyPolicy mask halt s)
  | arm (i : Injection) : Ruled s (s.setFmo { s.fmo with armed := s.fmo.armed.arm i })

section
variable (p : List Byte) (s : State)

theorem setLayoutRule_ruled : Ruled s (setLayoutRule p s).state := by
  unfold setLayoutRule
  split
  next => exact .kept
  next unfixed =>
    split
    next => exact .kept
    next l _ => exact .layout l (by simpa using unfixed)

theorem setPanelRule_ruled : Ruled s (setPanelRule p s).state := by
  unfold setPanelRule
  split
  next stopped =>
    split
    next fits => exact .panel _ stopped fits
    next => exact .kept
  next => exact .kept

theorem setScanRule_ruled : Ruled s (setScanRule p s).state := by
  unfold setScanRule
  split
  next fits => exact .scan p fits
  next => exact .kept

theorem setDisplayRule_ruled : Ruled s (setDisplayRule p s).state := by
  unfold setDisplayRule
  split
  next fits => exact .display p fits
  next => exact .kept

theorem wordSettingsOf_legal {p : List Byte} {r : WordSettings} (h : wordSettingsOf p = some r) :
    r.legal = true := by
  unfold wordSettingsOf at h
  split at h
  next =>
    obtain ⟨fits, same⟩ := Option.ite_none_right_eq_some.mp h
    rw [← Option.some_inj.mp same]
    exact fits
  next => exact absurd h (by simp)

theorem setWordRule_ruled : Ruled s (setWordRule p s).state := by
  unfold setWordRule
  split
  next => exact .kept
  next r fits => exact .word r (wordSettingsOf_legal fits)

theorem channelsRule_ruled : Ruled s (channelsRule p s).state := by
  unfold channelsRule
  split
  next => exact .kept
  next set _ => exact .enable set

theorem releaseRule_ruled : Ruled s (releaseRule p s).state := by
  unfold releaseRule
  split
  next => exact .kept
  next c _ =>
    split
    next => exact .kept
    next => exact .release c

theorem u16At_lt (k : Nat) : u16At p k < 65536 := by
  have low := (p.getD k 0).isLt
  have high := (p.getD (k + 1) 0).isLt
  simp only [u16At, u8At]
  omega

/-- A TOOL target names an ID other than 0 (R122). -/
theorem targetOf_tool {kind value id : Nat} (h : targetOf kind value = some (.tool id)) :
    value = id ∧ id ≠ 0 := by
  unfold targetOf at h
  split at h
  case h_2 =>
    obtain ⟨nonzero, same⟩ := Option.ite_none_left_eq_some.mp h
    obtain rfl : value = id := by simpa using same
    exact ⟨rfl, nonzero⟩
  all_goals simp at h

theorem loadProfileRule_ruled : Ruled s (loadProfileRule p s).state := by
  unfold loadProfileRule
  split
  next c r _ valid => exact .default c r (Option.filter_eq_some_iff.mp valid).2
  next id r target valid =>
    split
    next => exact .kept
    next room =>
      obtain ⟨rfl, nonzero⟩ := targetOf_tool target
      have fits := u16At_lt p 1
      refine .tool _ r (Option.filter_eq_some_iff.mp valid).2 ⟨by omega, by omega⟩ ?_
      simpa [Decidable.imp_iff_not_or] using room
  next => exact .kept

theorem dropProfileRule_ruled : Ruled s (dropProfileRule p s).state := by
  unfold dropProfileRule
  split
  next id _ =>
    split
    next => exact .drop id
    next => exact .kept
  next => exact .kept

theorem readProfileRule_state : (readProfileRule p s).state = s := by
  unfold readProfileRule
  split
  case h_4 => split <;> rfl
  all_goals rfl

theorem clearFaultsRule_ruled : Ruled s (clearFaultsRule p s).state := by
  unfold clearFaultsRule
  split
  next => exact .kept
  next set _ =>
    split
    next => exact .clear _
    next => exact .kept

theorem setFaultPolicyRule_ruled : Ruled s (setFaultPolicyRule p s).state := by
  unfold setFaultPolicyRule
  split
  next mask halt _ _ => exact .policy mask halt
  next => exact .kept

theorem injectRule_ruled : Ruled s (injectRule p s).state := by
  unfold injectRule
  split
  next => exact .kept
  next i _ =>
    split
    next => exact .kept
    next => exact .arm i

end

/-! ### What a row can do -/

/-- The state `s` and what a row makes of it before the arbiter's choice that ends the row, with what
the row has looked at. -/
inductive Effect (s : State) : State → Prop
  | resetAsserted (high : s.pins.resetLow = false) :
      Effect s (s.resetBlocks { s.pins with resetLow := true } s.cfe.layout [])
  | resetReleased (low : s.pins.resetLow = true) (l : Layout) (fast : Bool) :
      Effect s (s.resetBlocks ⟨false, l, fast, .pin⟩ l [announceEntry l .pin])
  | commandReset (high : s.pins.resetLow = false) (due : s.cpr = .resetDue) :
      Effect s ((s.resetBlocks { s.pins with cause := .command } s.cfe.layout
        [announceEntry s.cfe.layout .command]).setLnk { resetLnk with quiet := s.lnk.quiet })
  | received (high : s.pins.resetLow = false) (b : Byte) : Effect s (receive b s)
  | framerGap (due : s.framerGapDue = true) :
      Effect s (raiseFault .linkFraming (s.setFramer idleFramer))
  | answered {c : Command} {rest : List Command} {u : State} (r : Reply)
      (free : s.canTake = true) (head : s.lnk.buffer = c :: rest) (ruled : Ruled (taken rest s) u)
      (kind : 0x80 ≤ r.kind.toNat) (plain : r.ofReset = false) : Effect s (replied r u)
  | resetTaken {c : Command} {rest : List Command} (free : s.canTake = true)
      (head : s.lnk.buffer = c :: rest) :
      Effect s ((replied ⟨CommandKind.replyCode .reset, c.tag, u8 Status.ok.code, true⟩
        (taken rest s)).setCpr .resetWaits)
  | transmitted (due : s.sendDue = true) : Effect s (freeTransmitter s)
  | holdEnded (due : s.holdDue = true) : Effect s (s.modRqu fun r => { r with hold := none })
  | bounded (due : s.frameDue = true) : Effect s (boundary s)
  | edgeDropped (armed : s.fmo.armed.edgeDrop = true) : Effect s (disarmEdge s)
  | edgeCaptured (high : s.pins.resetLow = false) (kept : s.fmo.armed.edgeDrop = false) :
      Effect s (captureFsync s)
  | syncGapEnded (due : s.gapDue = true) (lock : s.fts.lock = .acquiring) :
      Effect s (s.setFts { s.fts with consec := 0, capture := none, gap := none })
  | lockEnded (due : s.gapDue = true) (lock : s.fts.lock = .locked) :
      Effect s (raiseFault .syncLost (s.setFts (unlockSync s.fts)))
  | acquisitionEnded (due : s.acquisitionDue = true) :
      Effect s (raiseFault .syncTimeout (s.setFts { s.fts with timeoutRaised := true }))
  | excited (sh : Sheet) (at' : s.engineIn sh .excite = true) :
      Effect s ((s.involved sh).foldl placeListening s)
  | lineSeen (high : s.pins.resetLow = false) :
      Effect s (s.setCfe { s.cfe with
        engine := ⟨seeLine s.cfe.engine.s0, seeLine s.cfe.engine.s1⟩ })
  | listened (sh : Sheet) (mark : Bool) (at' : s.engineIn sh .align = true) :
      Effect s ((s.involved sh).foldl (setEngineState .listen mark) s)
  | completed (sh : Sheet) (b : Burst) (r : Reading) (at' : s.engineIn sh .listen = true)
      (burst : s.burstAt sh = some b) : Effect s (completeBurst sh b r s)
  | overcurrent (sh : Sheet) (at' : s.engineIn sh .excite = true) : Effect s (overcurrent sh s)

theorem takeCommand_some {kind : Option CommandKind} {s u : State} {c : Command}
    (h : takeCommand kind s = some (c, u)) :
    s.canTake = true ∧ ∃ rest, s.lnk.buffer = c :: rest ∧ u = taken rest s := by
  unfold takeCommand at h
  split at h
  next => exact absurd h (by simp)
  next d rest head =>
    obtain ⟨asked, same⟩ := Option.ite_none_right_eq_some.mp h
    obtain ⟨rfl, rfl⟩ := Prod.mk.inj (Option.some_inj.mp same)
    simp only [Bool.and_eq_true] at asked
    exact ⟨asked.1, rest, head, rfl⟩

theorem replyCode_high (k : CommandKind) : 0x80 ≤ k.replyCode.toNat := by cases k <;> decide

/-- What a row makes of a state: nothing, or an effect and then the arbiter's choice. -/
def Acts (s : State) (o : Host.Outcome State Fault Refusal) : Prop :=
  o = .next s ∨ ∃ u, Effect s u ∧ o = .next (arbitrate u)

theorem Acts.none {s : State} : Acts s (noEffect s) := .inl rfl

theorem Acts.done {s u : State} (h : Effect s u) : Acts s (done u) := .inr ⟨u, h, rfl⟩

theorem runCommand_acts (k : CommandKind) {rule : List Byte → State → Answer}
    (ruled : ∀ p s, Ruled s (rule p s).state) (s : State) : Acts s (runCommand k rule s) := by
  unfold runCommand
  split
  next => exact .none
  next c u took =>
    obtain ⟨free, rest, head, rfl⟩ := takeCommand_some took
    refine .done (.answered _ free head ?_ (replyCode_high k) rfl)
    split
    next => exact ruled _ _
    next => exact .kept

theorem execUnknownCommand_acts (s : State) : Acts s (execUnknownCommand s) := by
  unfold execUnknownCommand
  split
  next => exact .none
  next c u took =>
    obtain ⟨free, rest, head, rfl⟩ := takeCommand_some took
    exact .done (.answered _ free head .kept (show 0x80 ≤ unknownReplyCode.toNat by decide) rfl)

theorem execReset_acts (s : State) : Acts s (execReset s) := by
  unfold execReset
  split
  next => exact .none
  next c u took =>
    obtain ⟨free, rest, head, rfl⟩ := takeCommand_some took
    split
    next => exact .done (.resetTaken free head)
    next => exact .done (.answered _ free head .kept (replyCode_high .reset) rfl)

theorem execBurstComplete_acts (sh : Sheet) (r : Reading) (s : State) :
    Acts s (execBurstComplete sh r s) := by
  unfold execBurstComplete
  split
  next at' =>
    split
    next => exact .none
    next b burst => exact .done (.completed sh b r at' burst)
  next => exact .none

theorem execFsyncEdge_acts (p : Polarity) (s : State) : Acts s (execFsyncEdge p s) := by
  unfold execFsyncEdge
  split
  next active =>
    simp only [Bool.and_eq_true, Bool.not_eq_true'] at active
    split
    next armed => exact .done (.edgeDropped armed)
    next kept => exact .done (.edgeCaptured active.1 (by simpa using kept))
  next => exact .none

/-- A row that acts where its occasion is there. -/
theorem Acts.ite {s u : State} {occasion : Bool} (h : occasion = true → Effect s u) :
    Acts s (if occasion then Machine.done u else noEffect s) := by
  split
  next there => exact .done (h there)
  next => exact .none

/-- Every row does nothing, or has one of the effects. -/
theorem exec_acts (i : Instr) (s : State) : Acts s (exec i s) := by
  cases i
  case resetnAssert =>
    change Acts s (if s.pins.resetLow then _ else _)
    split
    next => exact .none
    next high => exact .done (.resetAsserted (by simpa using high))
  case resetnRelease l k => exact .ite fun low => .resetReleased low _ _
  case commandReset =>
    refine .ite fun due => ?_
    simp only [Bool.and_eq_true, Bool.not_eq_true', decide_eq_true_eq] at due
    exact .commandReset due.1 due.2
  case receiveByte b =>
    change Acts s (if s.pins.resetLow then _ else _)
    split
    next => exact .none
    next high => exact .done (.received (by simpa using high) b)
  case framerGapExpiry => exact .ite .framerGap
  case unknownCommand => exact execUnknownCommand_acts s
  case reset => exact execReset_acts s
  case queryId => exact runCommand_acts _ (fun _ _ => .kept) s
  case setLayout => exact runCommand_acts _ setLayoutRule_ruled s
  case setPanel => exact runCommand_acts _ setPanelRule_ruled s
  case setScan => exact runCommand_acts _ setScanRule_ruled s
  case setDisplay => exact runCommand_acts _ setDisplayRule_ruled s
  case setWord => exact runCommand_acts _ setWordRule_ruled s
  case channels => exact runCommand_acts _ channelsRule_ruled s
  case start => exact runCommand_acts _ (fun _ _ => .start) s
  case stop => exact runCommand_acts _ (fun _ _ => .stop) s
  case release => exact runCommand_acts _ releaseRule_ruled s
  case loadProfile => exact runCommand_acts _ loadProfileRule_ruled s
  case dropProfile => exact runCommand_acts _ dropProfileRule_ruled s
  case readProfile =>
    exact runCommand_acts _ (fun p s => (readProfileRule_state p s).symm ▸ .kept) s
  case readTrack => exact runCommand_acts _ (fun _ _ => .kept) s
  case hold => exact runCommand_acts _ (fun _ _ => .hold _) s
  case readFaults => exact runCommand_acts _ (fun _ _ => .snapshot) s
  case clearFaults => exact runCommand_acts _ clearFaultsRule_ruled s
  case setFaultPolicy => exact runCommand_acts _ setFaultPolicyRule_ruled s
  case inject => exact runCommand_acts _ injectRule_ruled s
  case transmitComplete => exact .ite .transmitted
  case holdTimerExpiry => exact .ite .holdEnded
  case frameTimerExpiry => exact .ite .bounded
  case fsyncEdge p => exact execFsyncEdge_acts p s
  case syncGapTimerExpiry =>
    refine .ite fun due => ?_
    simp only [Bool.and_eq_true, decide_eq_true_eq] at due
    exact .syncGapEnded due.1 due.2
  case lockTimerExpiry =>
    refine .ite fun due => ?_
    simp only [Bool.and_eq_true, decide_eq_true_eq] at due
    exact .lockEnded due.1 due.2
  case acquisitionTimeout => exact .ite .acquisitionEnded
  case excitationEnd sh => exact .ite (.excited sh)
  case lsyncEdge p =>
    refine .ite fun seen => ?_
    simp only [Bool.and_eq_true, Bool.not_eq_true'] at seen
    exact .lineSeen seen.1
  case listenGuardEnd sh =>
    refine .ite fun due => .listened sh false ?_
    simp only [State.guardDue, Bool.and_eq_true] at due
    exact due.1
  case alignTimeout sh =>
    refine .ite fun due => .listened sh true ?_
    simp only [State.alignDue, Bool.and_eq_true] at due
    exact due.1.1
  case burstComplete sh r => exact execBurstComplete_acts sh r s
  case driverOvercurrent sh => exact .ite (.overcurrent sh)

/-! ### What the operations of several ends keep

A property that each of an operation's ends keeps, the operation keeps. -/

section
variable {P : State → Prop} {s : State}

theorem evaluateHalt_keeps (halts : P (haltIfHeld s))
    (resumes : ∀ t, P t → P (t.setFts { t.fts with scan := .running })) : P (evaluateHalt s) := by
  unfold evaluateHalt resumeIfEnded
  split
  · exact resumes _ halts
  · exact halts

theorem applyClear_keeps (cleared : PerFault Bool)
    (clears : P (s.setFmo (clearStatuses cleared s.fmo)))
    (evaluates : ∀ t, P t → P (evaluateHalt t)) : P (applyClear cleared s) := by
  unfold applyClear
  dsimp only
  split
  · exact evaluates _ clears
  · exact clears

theorem receive_keeps
    (links : ∀ t f q, P t → P (t.setLnk { t.lnk with framer := f, buffer := q }))
    (raises : ∀ f t, P t → P (raiseFault f t)) (b : Byte) (h : P s) : P (receive b s) := by
  have framed (f : Framer) : P (s.setFramer f) := links s f s.lnk.buffer h
  unfold receive
  dsimp only
  split
  case h_2 =>
    unfold lengthByte
    split
    · exact framed _
    · exact raises _ _ (framed _)
  case h_7 =>
    unfold completeFrame bufferCommand
    dsimp only
    split
    · split
      · exact raises _ _ (framed _)
      · split
        · exact raises _ _ (links _ idleFramer _ (framed _))
        · exact links _ idleFramer _ (framed _)
    · exact raises _ _ (framed _)
  all_goals exact framed _

theorem freeTransmitter_keeps
    (freed : P (s.drawFree.setLnk { s.lnk with tx := none, quiet := idleTime s }))
    (dues : ∀ t, P t → P (t.setCpr .resetDue)) : P (freeTransmitter s) := by
  unfold freeTransmitter
  dsimp only
  split
  · exact dues _ freed
  · exact freed

theorem captureFsync_keeps (judged : P (s.setFts (judgeEdge s.fts)))
    (raises : ∀ t, P t → P (raiseFault .syncLost t))
    (reloads : ∀ t, t.fts.scan ≠ .stopped → P t → P (reloadTimer t))
    (bounds : ∀ t, P t → P (boundary t)) : P (captureFsync s) := by
  unfold captureFsync edgeReload
  dsimp only
  split
  · exact raises _ judged
  · split
    next reload =>
      simp only [Bool.and_eq_true, bne_iff_ne] at reload
      split
      · exact bounds _ judged
      · exact reloads _ reload.1.2 judged
    next => exact judged

theorem boundary_keeps (closed : P (closeFrame s))
    (opens : (closeFrame s).fts.scan ≠ .stopped → P (openFrame (reloadTimer (closeFrame s)))) :
    P (boundary s) := by
  unfold boundary
  dsimp only
  split
  next => exact closed
  next going => exact opens going

theorem openFrame_keeps (h : P s)
    (planless : s.fts.scan = .halted → P (s.setFts { s.fts with frame := .planless, age := 0 }))
    (planned : s.fts.scan = .running → P (startFirst (buildPlans (openedFrame s)))) :
    P (openFrame s) := by
  unfold openFrame
  split
  next => exact h
  next halted => exact planless halted
  next running => exact planned running

theorem settleClose_keeps (h : P s) (draws : ∀ t, P t → P t.drawFree)
    (halts : ∀ t, P t → P (haltIfHeld t)) (stops : ∀ t, P t → P (carryOutStop t)) :
    P (settleClose s) := by
  unfold settleClose
  split
  · dsimp only
    split
    · exact stops _ (draws _ h)
    · exact halts _ (draws _ h)
  · exact stops _ (halts _ h)

theorem closeFrame_keeps (abandons : P (abandonBursts s))
    (raises : ∀ t, P t → P (raiseFault .frameCut t))
    (processes : ∀ t, handedOver t = true → P t →
      P (discardFrame (processClose (s.rqu.queue.contains .alert) t)))
    (discards : ∀ t, P t → P (discardFrame t)) (settles : ∀ t, P t → P (settleClose t))
    (stops : ∀ t, P t → P (carryOutStop t)) : P (closeFrame s) := by
  have raised : P (if frameCut s then raiseFault .frameCut (abandonBursts s)
      else abandonBursts s) := by
    split
    · exact raises _ abandons
    · exact abandons
  unfold closeFrame
  dsimp only
  generalize (if frameCut s then raiseFault .frameCut (abandonBursts s) else abandonBursts s) = u
    at raised
  split
  next handed => exact settles _ (processes _ handed raised)
  next => exact stops _ (discards _ raised)

theorem injectTrip_keeps (l : List Sheet) (h : P s) (disarms : P (disarmTrip s.drawFree))
    (trips : ∀ l t, P t → P (tripBurst l t)) (goes : ∀ l t, P t → P (goOn l t)) :
    P (injectTrip l s) := by
  unfold injectTrip
  split
  · exact goes _ _ (trips _ _ disarms)
  · exact h

theorem overcurrent_keeps (sh : Sheet) (trips : P (tripBurst (s.involved sh) s))
    (starts : ∀ l t, t.fts.frame = .planned → P t → P (startBursts l t)) :
    P (overcurrent sh s) := by
  unfold overcurrent
  dsimp only
  split
  next planned => exact starts _ _ planned trips
  next => exact trips

end

/-! ### The blocks that frames and bursts leave alone -/

/-- The pins, the Profile Table, the Link Interface, the Command Processor and the queue of commands. -/
def State.unscanned (s : State) : Pins × Ptb × Lnk × CprPhase × List Instr :=
  (s.pins, s.ptb, s.lnk, s.cpr, s.pending)

section
variable (s : State)

theorem evaluateHalt_unscanned : (evaluateHalt s).unscanned = s.unscanned :=
  evaluateHalt_keeps (P := fun t => t.unscanned = s.unscanned) (by simp [State.unscanned])
    fun _ h => h

theorem applyClear_unscanned (cleared : PerFault Bool) :
    (applyClear cleared s).unscanned = s.unscanned :=
  applyClear_keeps (P := fun t => t.unscanned = s.unscanned) cleared rfl
    fun t h => (evaluateHalt_unscanned t).trans h

theorem openFrame_unscanned : (openFrame s).unscanned = s.unscanned :=
  openFrame_keeps (P := fun t => t.unscanned = s.unscanned) rfl (fun _ => rfl) fun _ => by
    simp [State.unscanned, openedFrame]

theorem boundary_unscanned : (boundary s).unscanned = s.unscanned :=
  boundary_keeps (P := fun t => t.unscanned = s.unscanned) (by simp [State.unscanned])
    fun _ => (openFrame_unscanned _).trans (by simp [State.unscanned, reloadTimer])

theorem captureFsync_unscanned : (captureFsync s).unscanned = s.unscanned :=
  captureFsync_keeps (P := fun t => t.unscanned = s.unscanned) rfl
    (fun t h => Eq.trans (by simp [State.unscanned]) h) (fun _ _ h => h)
    fun t h => (boundary_unscanned t).trans h

theorem completeBurst_unscanned (sh : Sheet) (b : Burst) (r : Reading) :
    (completeBurst sh b r s).unscanned = s.unscanned := by
  simp [State.unscanned, completeBurst]

theorem overcurrent_unscanned (sh : Sheet) : (overcurrent sh s).unscanned = s.unscanned :=
  overcurrent_keeps (P := fun t => t.unscanned = s.unscanned) sh (by simp [State.unscanned])
    fun _ t _ h => Eq.trans (by simp [State.unscanned]) h

theorem applyStart_unscanned : (applyStart s).unscanned = s.unscanned := by
  unfold applyStart
  split
  · exact openFrame_unscanned _
  · rfl
  · rfl

theorem applyStop_unscanned : (applyStop s).unscanned = s.unscanned := by
  unfold applyStop
  dsimp only
  split <;> rfl

end

theorem Ruled.lnk {s u : State} (r : Ruled s u) :
    u.lnk = s.lnk ∧ u.pins = s.pins ∧ u.cpr = s.cpr := by
  have of_unscanned {u : State} (same : u.unscanned = s.unscanned) :
      u.lnk = s.lnk ∧ u.pins = s.pins ∧ u.cpr = s.cpr := by
    simp only [State.unscanned, Prod.mk.injEq] at same
    obtain ⟨pins, _, lnk, cpr, _⟩ := same
    exact ⟨lnk, pins, cpr⟩
  cases r
  case start => exact of_unscanned (applyStart_unscanned s)
  case stop => exact of_unscanned (applyStop_unscanned s)
  case tool => simp [loadTool]
  case drop => simp [dropTool]
  case clear cleared => exact of_unscanned (applyClear_unscanned s cleared)
  case policy => exact of_unscanned (evaluateHalt_unscanned _)
  all_goals exact ⟨rfl, rfl, rfl⟩

/-! ### What a step can do -/

/-- A step from `s` lets time pass, or is a row's action on `s` with its queue of commands or its count
of free values moved on. -/
theorem step_cases {s t : State} (h : step s = .next t) :
    t = passTime s ∨ ∃ n l, t = (s.setFree n).setPending l
      ∨ ∃ u, Effect ((s.setFree n).setPending l) u ∧ t = arbitrate u := by
  have acted (i : Instr) (n : Nat) (l : List Instr)
      (run : exec i ((s.setFree n).setPending l) = .next t) :
      t = (s.setFree n).setPending l
        ∨ ∃ u, Effect ((s.setFree n).setPending l) u ∧ t = arbitrate u := by
    obtain same | ⟨u, effect, same⟩ := exec_acts i ((s.setFree n).setPending l)
    · exact .inl (Host.Outcome.next.inj (run.symm.trans same))
    · exact .inr ⟨u, effect, Host.Outcome.next.inj (run.symm.trans same)⟩
  unfold step at h
  split at h
  next =>
    unfold idleStep at h
    split at h
    next => exact .inl (Host.Outcome.next.inj h).symm
    next i _ => exact .inr ⟨s.free, s.pending, acted i _ _ h⟩
    next i j rest _ => exact .inr ⟨s.free + 1, s.pending, acted _ _ _ h⟩
  next c rest _ => exact .inr ⟨s.free, rest, acted c _ _ h⟩

/-- What holds before a step holds after it, where one microsecond, the arbiter's choice and every
row's effect keep it and it does not look at the queue of commands or the count of free values. -/
theorem step_keeps {P : State → Prop} (moved : ∀ s n l, P s → P ((s.setFree n).setPending l))
    (passes : ∀ s, P s → P (tick s)) (chooses : ∀ s, P s → P (arbitrate s))
    (acts : ∀ s u, Effect s u → P s → P u) {s t : State} (holds : P s) (h : step s = .next t) :
    P t := by
  obtain rfl | ⟨n, l, rfl | ⟨u, effect, rfl⟩⟩ := step_cases h
  · unfold passTime
    split
    · exact holds
    · exact passes _ (chooses _ holds)
  · exact moved s n l holds
  · exact chooses u (acts _ u effect (moved s n l holds))

end Sys2Proof.Machine
end

section
/-! PROOFS. O55: every step keeps scan state, frame, timer and engines in agreement. -/

namespace Sys2Proof.Machine

/-! ### What the invariant looks at -/

/-- The pieces of a state that `ScanConsistent` speaks of. -/
structure ScanView where
  scan : ScanState
  stopReq : Bool
  timerOn : Bool
  frame : FrameKind
  halting : Bool
  fixed : Bool
  engine : PerSheet Engine
  plan : PerSheet (List PlanEntry)
  budget : Nat
  records : List BurstRecord

def State.scanView (s : State) : ScanView :=
  ⟨s.fts.scan, s.fts.stopReq, s.fts.timerOn, s.fts.frame, s.fmo.halting, s.cfe.fixed, s.cfe.engine,
    s.bpl.plan, s.bpl.budget, s.ptr.records⟩

/-- `ScanConsistent` less its two clauses on the halting condition, which a fault or a policy moves
before the scan state follows. -/
structure ScanShape (s : State) : Prop where
  halted : s.fts.scan = .halted → s.fts.stopReq = false
  stopped : s.fts.scan = .stopped → s.fts.stopReq = false ∧ s.fts.timerOn = false
    ∧ s.fts.frame = .noFrame
  going : s.fts.scan ≠ .stopped → s.fts.timerOn = true ∧ s.fts.frame ≠ .noFrame
    ∧ s.cfe.fixed = true
  planned : s.fts.frame = .planned → s.fts.scan = .running
  planless : s.fts.frame ≠ .planned → s.cfe.engine = everySheet idleEngine
    ∧ s.bpl.plan = everySheet [] ∧ s.bpl.budget = 0 ∧ s.ptr.records = []

theorem ScanConsistent.shape {s : State} (h : ScanConsistent s) : ScanShape s :=
  ⟨fun e => (h.halted e).2, h.stopped, h.going, h.planned, h.planless⟩

theorem ScanShape.consistent {s : State} (h : ScanShape s)
    (running : s.fts.scan = .running → s.fmo.halting = false)
    (halted : s.fts.scan = .halted → s.fmo.halting = true) : ScanConsistent s :=
  ⟨running, fun e => ⟨halted e, h.halted e⟩, h.stopped, h.going, h.planned, h.planless⟩

theorem ScanShape.of_view {s t : State} (h : ScanShape s)
    (fts : t.fts.scan = s.fts.scan ∧ t.fts.stopReq = s.fts.stopReq
      ∧ t.fts.timerOn = s.fts.timerOn ∧ t.fts.frame = s.fts.frame)
    (fixed : t.cfe.fixed = s.cfe.fixed) (engine : t.cfe.engine = s.cfe.engine)
    (plan : t.bpl.plan = s.bpl.plan) (budget : t.bpl.budget = s.bpl.budget)
    (records : t.ptr.records = s.ptr.records) : ScanShape t := by
  obtain ⟨scan, stopReq, timerOn, frame⟩ := fts
  obtain ⟨h1, h2, h3, h4, h5⟩ := h
  constructor <;> simpa only [scan, stopReq, timerOn, frame, fixed, engine, plan, budget, records]

theorem ScanConsistent.of_view {s t : State} (h : ScanConsistent s)
    (same : t.scanView = s.scanView) : ScanConsistent t := by
  simp only [State.scanView, ScanView.mk.injEq] at same
  obtain ⟨scan, stopReq, timerOn, frame, halting, fixed, engine, plan, budget, records⟩ := same
  refine (h.shape.of_view ⟨scan, stopReq, timerOn, frame⟩ fixed engine plan budget
    records).consistent ?_ ?_
  · rw [scan, halting]; exact h.running
  · rw [scan, halting]; exact fun e => (h.halted e).1

/-- In a planned frame engines, plans, budget and records are free to move. -/
theorem ScanConsistent.of_planned {s t : State} (h : ScanConsistent s)
    (planned : s.fts.frame = .planned) (fts : t.fts = s.fts) (halting : t.fmo = s.fmo)
    (fixed : t.cfe.fixed = s.cfe.fixed) : ScanConsistent t := by
  constructor
  case planless => exact fun e => absurd (fts ▸ planned) e
  case running => rw [fts, halting]; exact h.running
  case halted => rw [fts, halting]; exact h.halted
  case stopped => rw [fts]; exact h.stopped
  case going => rw [fts, fixed]; exact h.going
  case planned => rw [fts]; exact h.planned

/-- Plans, engines, budget and records are those of no frame (R9, R48). -/
def Discarded (s : State) : Prop :=
  s.cfe.engine = everySheet idleEngine ∧ s.bpl.plan = everySheet [] ∧ s.bpl.budget = 0
    ∧ s.ptr.records = []

theorem discardFrame_discarded (s : State) : Discarded (discardFrame s) := by simp [Discarded]

/-- The part STOPPED with nothing of a frame left, whatever the halting condition. -/
theorem ScanConsistent.of_stopped {s : State} (scan : s.fts.scan = .stopped)
    (stopReq : s.fts.stopReq = false) (timerOn : s.fts.timerOn = false)
    (frame : s.fts.frame = .noFrame) (gone : Discarded s) : ScanConsistent s := by
  refine ⟨?_, ?_, fun _ => ⟨stopReq, timerOn, frame⟩, fun e => absurd scan e, ?_, fun _ => gone⟩
  all_goals simp [scan, frame]

/-- An engine away from IDLE stands in a planned frame. -/
theorem ScanConsistent.planned_of_engine {s : State} (h : ScanConsistent s) {sh : Sheet}
    {st : EngineState} (at' : s.engineIn sh st = true) (busy : st ≠ .idle) :
    s.fts.frame = .planned := by
  by_contra other
  simp only [State.engineIn, Bool.and_eq_true, decide_eq_true_eq] at at'
  have idle : (s.engine sh).st = .idle := by
    simp [State.engine, (h.planless other).1, idleEngine]
  exact busy (at'.2.symm.trans idle)

/-! ### Entering and leaving HALTED (R38, R157, R158, R160) -/

theorem enterHalt_shape {s : State} (h : ScanShape s) (run : s.fts.scan = .running) :
    ScanShape (enterHalt s) := by
  obtain ⟨engine, plan, budget, records⟩ := enterHalt_discards s
  have fts := enterHalt_fts s
  have going := h.going (by simp [run])
  constructor
  case planless => exact fun _ => ⟨engine, plan, budget, records⟩
  all_goals
    rw [fts]
    split
    · simp
    · simp_all

theorem haltIfHeld_shape {s : State} (h : ScanShape s) : ScanShape (haltIfHeld s) := by
  unfold haltIfHeld
  split
  next held =>
    simp only [Bool.and_eq_true, decide_eq_true_eq] at held
    exact enterHalt_shape h held.2
  next => exact h

theorem haltIfHeld_halted {s : State} (h : s.fts.scan = .halted → s.fmo.halting = true) :
    (haltIfHeld s).fts.scan = .halted → (haltIfHeld s).fmo.halting = true := by
  unfold haltIfHeld
  split
  next held =>
    simp only [Bool.and_eq_true] at held
    exact fun _ => by simp [held.1]
  next => exact h

theorem haltIfHeld_consistent {s : State} (h : ScanShape s)
    (halted : s.fts.scan = .halted → s.fmo.halting = true) : ScanConsistent (haltIfHeld s) :=
  (haltIfHeld_shape h).consistent (haltIfHeld_settled s) (haltIfHeld_halted halted)

theorem evaluateHalt_consistent {s : State} (h : ScanShape s) :
    ScanConsistent (evaluateHalt s) := by
  have shape := haltIfHeld_shape h
  have settled := haltIfHeld_settled s
  unfold evaluateHalt resumeIfEnded
  generalize haltIfHeld s = t at shape settled
  obtain ⟨halted, stopped, going, planned, planless⟩ := shape
  split
  next ended =>
    simp only [Bool.and_eq_true, Bool.not_eq_true', decide_eq_true_eq] at ended
    constructor <;> simp_all
  next held =>
    simp only [Bool.and_eq_true, Bool.not_eq_true', decide_eq_true_eq] at held
    refine ScanShape.consistent ⟨halted, stopped, going, planned, planless⟩ settled fun e => ?_
    simpa [e] using held

/-! ### Raising a fault -/

/-- A fault recorded ends no halting condition. -/
theorem recordFault_halting_mono (f : FaultId) {s : State} (h : s.fmo.halting = true) :
    (recordFault f s).fmo.halting = true := by
  obtain ⟨g, hg⟩ := s.fmo.halting_iff.mp h
  refine (Fmo.halting_iff _).mpr ⟨g, ?_⟩
  rw [recordFault_recs, PerFault.get_set]
  split
  next same =>
    subst same
    simp only [FaultRec.halts, Bool.and_eq_true] at hg ⊢
    exact ⟨⟨trivial, hg.1.2⟩, hg.2⟩
  next => exact hg

theorem recordFault_shape (f : FaultId) {s : State} (h : ScanShape s) :
    ScanShape (recordFault f s) :=
  h.of_view (by simp) (by simp) (by simp) (by simp) (by simp) (by simp)

theorem raiseFault_eq (f : FaultId) (s : State) : raiseFault f s
    = if (s.fmo.recs.get f).masked then recordFault f s else haltIfHeld (recordFault f s) := rfl

/-- A masked fault, recorded, moves no halting condition. -/
theorem recordFault_masked_halting {f : FaultId} {s : State}
    (h : (s.fmo.recs.get f).masked = true) :
    (recordFault f s).fmo.halting = s.fmo.halting := by
  rw [Bool.eq_iff_iff, Fmo.halting_iff, Fmo.halting_iff]
  refine exists_congr fun g => ?_
  rw [recordFault_recs, PerFault.get_set]
  split
  next same => subst same; simp [FaultRec.halts, h]
  next => rfl

theorem raiseFault_consistent (f : FaultId) {s : State} (h : ScanConsistent s) :
    ScanConsistent (raiseFault f s) := by
  have shape := recordFault_shape f h.shape
  have halted : (recordFault f s).fts.scan = .halted → (recordFault f s).fmo.halting = true :=
    fun e => recordFault_halting_mono f (h.halted (by simpa using e)).1
  rw [raiseFault_eq]
  split
  next masked =>
    refine shape.consistent ?_ halted
    rw [recordFault_fts, recordFault_masked_halting masked]
    exact h.running
  next => exact haltIfHeld_consistent shape halted

/-! ### Bursts that begin (R7, R19, R20) -/

theorem goOn_consistent (l : List Sheet) {s : State} (h : ScanConsistent s) :
    ScanConsistent (goOn l s) := by
  unfold goOn
  split
  next planned => exact h.of_planned planned (by simp) (by simp) (by simp)
  next => exact h

theorem tripBurst_consistent (l : List Sheet) {s : State} (h : ScanConsistent s)
    (planned : s.fts.frame = .planned) : ScanConsistent (tripBurst l s) :=
  raiseFault_consistent _ (h.of_planned planned (by simp) (by simp) (by simp))

theorem injectTrip_consistent (l : List Sheet) {s : State} (h : ScanConsistent s)
    (planned : s.fts.frame = .planned) : ScanConsistent (injectTrip l s) := by
  unfold injectTrip
  split
  next => exact goOn_consistent _ (tripBurst_consistent _ (h.of_view rfl) planned)
  next => exact h

theorem startBursts_consistent (l : List Sheet) {s : State} (h : ScanConsistent s)
    (planned : s.fts.frame = .planned) : ScanConsistent (startBursts l s) :=
  injectTrip_consistent _ (h.of_planned planned (by simp) (by simp) (by simp)) (by simpa)

theorem startFirst_consistent {s : State} (h : ScanConsistent s)
    (planned : s.fts.frame = .planned) : ScanConsistent (startFirst s) :=
  injectTrip_consistent _ (h.of_planned planned (by simp) (by simp) (by simp)) (by simpa)

/-! ### Frame boundaries (R23, R24, R37) -/

theorem ScanShape.discarded {s t : State} (h : ScanShape s) (fts : t.fts = s.fts)
    (fixed : t.cfe.fixed = s.cfe.fixed) (gone : Discarded t) : ScanShape t := by
  constructor
  case planless => exact fun _ => gone
  case halted => rw [fts]; exact h.halted
  case stopped => rw [fts]; exact h.stopped
  case going => rw [fts, fixed]; exact h.going
  case planned => rw [fts]; exact h.planned

theorem carryOutStop_discarded {s : State} (gone : Discarded s) : Discarded (carryOutStop s) := by
  unfold carryOutStop
  split
  next => simpa [Discarded] using gone
  next => exact gone

/-- A stop carried out leaves the part STOPPED, whatever the halting condition. -/
theorem carryOutStop_consistent {s : State} (h : ScanShape s) (gone : Discarded s)
    (running : s.fts.scan = .running → s.fts.stopReq = true ∨ s.fmo.halting = false)
    (halted : s.fts.scan = .halted → s.fmo.halting = true) : ScanConsistent (carryOutStop s) := by
  unfold carryOutStop
  split
  next requested =>
    have idle : Discarded (clearForStop (stopScanning s)) := by simpa [Discarded] using gone
    refine .of_stopped ?_ ?_ ?_ ?_ idle <;> simp [stopScanning_fts]
  next none =>
    refine h.consistent (fun run => ?_) halted
    exact (running run).resolve_left fun req => none (by simp [run, req])

theorem haltIfHeld_discarded {s : State} (gone : Discarded s) : Discarded (haltIfHeld s) := by
  unfold haltIfHeld
  split
  next => exact enterHalt_discards s
  next => exact gone

theorem settleClose_discarded {s : State} (gone : Discarded s) : Discarded (settleClose s) := by
  unfold settleClose
  split
  next =>
    dsimp only
    split
    · exact carryOutStop_discarded gone
    · exact haltIfHeld_discarded gone
  next => exact carryOutStop_discarded (haltIfHeld_discarded gone)

theorem settleClose_consistent {s : State} (h : ScanShape s) (gone : Discarded s)
    (run : s.fts.scan = .running) : ScanConsistent (settleClose s) := by
  have unhalted : s.fts.scan = .halted → s.fmo.halting = true :=
    fun e => absurd (run.symm.trans e) (by decide)
  unfold settleClose
  split
  next both =>
    simp only [Bool.and_eq_true] at both
    have drawn : ScanShape s.drawFree := h.of_view ⟨rfl, rfl, rfl, rfl⟩ rfl rfl rfl rfl rfl
    dsimp only
    split
    · exact carryOutStop_consistent drawn gone (fun _ => .inl both.2) unhalted
    · exact haltIfHeld_consistent drawn unhalted
  next =>
    have kept := haltIfHeld_consistent h unhalted
    exact carryOutStop_consistent kept.shape (haltIfHeld_discarded gone)
      (fun r => .inr (kept.running r)) fun e => (kept.halted e).1

theorem abandonBursts_consistent {s : State} (h : ScanConsistent s) :
    ScanConsistent (abandonBursts s) := by
  refine (ScanShape.consistent ⟨h.shape.halted, h.stopped, h.going, h.planned, fun other => ?_⟩
    h.running fun e => (h.halted e).1)
  obtain ⟨_, plan, budget, records⟩ := h.planless other
  refine ⟨rfl, ?_, budget, records⟩
  simp [abandonBursts, State.setCfe, State.setBpl, plan, everySheet]

/-- Every close leaves nothing of its frame (R9, R48). -/
theorem closeFrame_discarded (s : State) : Discarded (closeFrame s) := by
  unfold closeFrame
  dsimp only
  generalize (if frameCut s then raiseFault .frameCut (abandonBursts s) else abandonBursts s) = u
  split
  · exact settleClose_discarded (discardFrame_discarded _)
  · exact carryOutStop_discarded (discardFrame_discarded _)

theorem closeFrame_consistent {s : State} (h : ScanConsistent s) :
    ScanConsistent (closeFrame s) := by
  have raised : ScanConsistent (if frameCut s then raiseFault .frameCut (abandonBursts s)
      else abandonBursts s) := by
    split
    · exact raiseFault_consistent _ (abandonBursts_consistent h)
    · exact abandonBursts_consistent h
  unfold closeFrame
  dsimp only
  generalize (if frameCut s then raiseFault .frameCut (abandonBursts s) else abandonBursts s) = u
    at raised
  split
  next handed =>
    simp only [handedOver, Bool.and_eq_true, decide_eq_true_eq] at handed
    exact settleClose_consistent
      (raised.shape.discarded (by simp) (by simp) (discardFrame_discarded _))
      (discardFrame_discarded _) (by simpa using handed.2)
  next =>
    have kept : ScanConsistent (discardFrame u) :=
      (raised.shape.discarded (by simp) (by simp) (discardFrame_discarded u)).consistent
        raised.running fun e => (raised.halted e).1
    exact carryOutStop_consistent kept.shape (discardFrame_discarded _)
      (fun r => .inr (kept.running r)) fun e => (kept.halted e).1

/-- A frame opens, planned in RUNNING and planless in HALTED, wherever the timer runs and nothing of an
earlier frame is left. -/
theorem openFrame_consistent {s : State} (on : s.fts.timerOn = true) (fixed : s.cfe.fixed = true)
    (gone : Discarded s) (going : s.fts.scan ≠ .stopped)
    (running : s.fts.scan = .running → s.fmo.halting = false)
    (halted : s.fts.scan = .halted → s.fmo.halting = true ∧ s.fts.stopReq = false) :
    ScanConsistent (openFrame s) := by
  unfold openFrame
  split
  next e => exact absurd e going
  next e =>
    refine ⟨?_, ?_, ?_, ?_, ?_, fun _ => gone⟩ <;> simp_all
  next e =>
    refine startFirst_consistent ?_ (by simp)
    constructor <;> simp_all

theorem boundary_consistent {s : State} (h : ScanConsistent s) :
    ScanConsistent (boundary s) := by
  have kept := closeFrame_consistent h
  exact boundary_keeps kept fun going => openFrame_consistent rfl (kept.going going).2.2
    (closeFrame_discarded s) going kept.running kept.halted

/-! ### Display sync -/

/-- The judgements known in LOCKED once an edge is judged, at most four (R32). -/
def judgements (f : Fts) : List Bool :=
  match f.capture with
  | none => f.history
  | some earlier => newest 4 (f.history ++ [inTolerance f earlier])

theorem judgeLocked_eq (f : Fts) : judgeLocked f = if 2 ≤ (judgements f).count false then
    unlockSync f else { captureEdge f with history := judgements f } := rfl

theorem judgeEdge_keeps (f : Fts) : (judgeEdge f).scan = f.scan
    ∧ (judgeEdge f).stopReq = f.stopReq ∧ (judgeEdge f).timerOn = f.timerOn
    ∧ (judgeEdge f).frame = f.frame := by
  unfold judgeEdge
  split
  · exact ⟨rfl, rfl, rfl, rfl⟩
  · unfold judgeAcquiring
    dsimp only
    repeat' split
    all_goals exact ⟨rfl, rfl, rfl, rfl⟩
  · rw [judgeLocked_eq]
    split <;> exact ⟨rfl, rfl, rfl, rfl⟩

theorem captureFsync_consistent {s : State} (h : ScanConsistent s) :
    ScanConsistent (captureFsync s) := by
  obtain ⟨scan, stopReq, timerOn, frame⟩ := judgeEdge_keeps s.fts
  refine captureFsync_keeps (h.of_view ?_) (fun _ => raiseFault_consistent _) ?_
    fun _ => boundary_consistent
  · simp [State.scanView, scan, stopReq, timerOn, frame]
  · intro t going kept
    refine kept.of_view ?_
    simp [State.scanView, reloadTimer, (kept.going going).1]

/-! ### The commands -/

theorem applyStart_consistent {s : State} (h : ScanConsistent s) :
    ScanConsistent (applyStart s) := by
  unfold applyStart
  split
  next stopped =>
    obtain ⟨stopReq, _, frame⟩ := h.stopped stopped
    have gone : Discarded s := h.planless (by simp [frame])
    unfold startScanning
    refine openFrame_consistent rfl rfl gone ?_ ?_ ?_
    all_goals cases held : s.fmo.halting <;> simp [reloadTimer, held, stopReq]
  next running =>
    obtain ⟨run, halted, stopped, going, planned, planless⟩ := h
    constructor <;> simp_all
  next => exact h

theorem applyStop_consistent {s : State} (h : ScanConsistent s) :
    ScanConsistent (applyStop s) := by
  have disarmed : ScanConsistent (s.setFmo { s.fmo with armed := nothingArmed }) := h.of_view rfl
  unfold applyStop
  dsimp only
  generalize s.setFmo { s.fmo with armed := nothingArmed } = u at disarmed
  split
  next => exact disarmed
  next running =>
    obtain ⟨run, halted, stopped, going, planned, planless⟩ := disarmed
    constructor <;> simp_all
  next halted =>
    have other : u.fts.frame ≠ .planned := fun e => by simpa [halted] using disarmed.planned e
    exact .of_stopped rfl rfl rfl rfl (disarmed.planless other)

/-- Clearing no status moves no halting condition. -/
theorem clearStatuses_none {cleared : PerFault Bool} (none : FaultId.all.any cleared.get = false)
    (m : Fmo) : (clearStatuses cleared m).halting = m.halting := by
  have kept (f : FaultId) : cleared.get f = false := by
    simp only [List.any_eq_false, Bool.not_eq_true] at none
    exact none f (by cases f <;> decide)
  simp [Fmo.halting, clearStatuses, kept]

theorem applyClear_consistent (cleared : PerFault Bool) {s : State} (h : ScanConsistent s) :
    ScanConsistent (applyClear cleared s) := by
  unfold applyClear
  dsimp only
  split
  next => exact evaluateHalt_consistent (h.shape.of_view ⟨rfl, rfl, rfl, rfl⟩ rfl rfl rfl rfl rfl)
  next none =>
    refine h.of_view ?_
    simp [State.scanView, clearStatuses_none (by simpa using none)]

theorem Ruled.consistent {s u : State} (r : Ruled s u) (h : ScanConsistent s) :
    ScanConsistent u := by
  cases r
  case kept => exact h
  case layout l unfixed =>
    obtain ⟨run, halted, stopped, going, planned, planless⟩ := h
    constructor <;> simp_all [applyLayout, restartAll]
  case start => exact applyStart_consistent h
  case stop => exact applyStop_consistent h
  case tool id r _ _ _ => exact h.of_view (by simp [State.scanView, loadTool])
  case drop id => exact h.of_view (by simp [State.scanView, dropTool])
  case snapshot =>
    refine h.of_view ?_
    simp [State.scanView, Fmo.halting, openSnapshot, FaultRec.halts]
  case clear cleared => exact applyClear_consistent cleared h
  case policy mask halt =>
    exact evaluateHalt_consistent (h.shape.of_view ⟨rfl, rfl, rfl, rfl⟩ rfl rfl rfl rfl rfl)
  all_goals exact h.of_view rfl

/-! ### Every step -/

theorem resetBlocks_consistent (pins : Pins) (l : Layout) (q : List Entry) (s : State) :
    ScanConsistent (s.resetBlocks pins l q) :=
  .of_stopped rfl rfl rfl rfl ⟨rfl, rfl, rfl, rfl⟩

theorem completeBurst_consistent (sh : Sheet) (b : Burst) (r : Reading) {s : State}
    (h : ScanConsistent s) (planned : s.fts.frame = .planned) :
    ScanConsistent (completeBurst sh b r s) :=
  startBursts_consistent _ (h.of_planned planned (by simp) (by simp) (by simp)) (by simpa)

theorem overcurrent_consistent (sh : Sheet) {s : State} (h : ScanConsistent s)
    (planned : s.fts.frame = .planned) : ScanConsistent (overcurrent sh s) := by
  have tripped := tripBurst_consistent (s.involved sh) h planned
  unfold overcurrent
  dsimp only
  split
  next still => exact startBursts_consistent _ tripped still
  next => exact tripped

theorem Effect.consistent {s u : State} (e : Effect s u) (h : ScanConsistent s) :
    ScanConsistent u := by
  cases e
  case resetAsserted | resetReleased => exact resetBlocks_consistent _ _ _ s
  case commandReset =>
    exact (resetBlocks_consistent { s.pins with cause := .command } s.cfe.layout
      [announceEntry s.cfe.layout .command] s).of_view rfl
  case received b =>
    exact receive_keeps (fun _ _ _ h => h.of_view rfl) (fun f _ => raiseFault_consistent f) b h
  case answered ruled _ _ => exact (ruled.consistent (h.of_view rfl)).of_view rfl
  case transmitted => exact freeTransmitter_keeps (h.of_view rfl) fun _ h => h.of_view rfl
  case bounded => exact boundary_consistent h
  case edgeCaptured => exact captureFsync_consistent h
  case framerGap | lockEnded | acquisitionEnded => exact raiseFault_consistent _ (h.of_view rfl)
  case excited sh at' =>
    exact h.of_planned (h.planned_of_engine at' (by decide))
      (foldl_keeps State.fts _ placeListening_fts _ _)
      (foldl_keeps State.fmo _ placeListening_fmo _ _)
      (foldl_keeps (·.cfe.fixed) _ placeListening_cfe_fixed _ _)
  case lineSeen =>
    by_cases planned : s.fts.frame = .planned
    · exact h.of_planned planned rfl rfl rfl
    · refine h.of_view ?_
      simp [State.scanView, (h.planless planned).1, seeLine, everySheet, idleEngine]
  case listened sh mark at' =>
    exact h.of_planned (h.planned_of_engine at' (by decide))
      (foldl_keeps State.fts _ (fun s sh => setEngineState_fts _ _ s sh) _ _)
      (foldl_keeps State.fmo _ (fun s sh => setEngineState_fmo _ _ s sh) _ _)
      (foldl_keeps (·.cfe.fixed) _ (fun s sh => setEngineState_cfe_fixed _ _ s sh) _ _)
  case completed sh b r at' _ =>
    exact completeBurst_consistent sh b r h (h.planned_of_engine at' (by decide))
  case overcurrent sh at' =>
    exact overcurrent_consistent sh h (h.planned_of_engine at' (by decide))
  all_goals exact h.of_view rfl

theorem tick_consistent {s : State} (h : ScanConsistent s) : ScanConsistent (tick s) := by
  by_cases planned : s.fts.frame = .planned
  · exact ⟨h.running, h.halted, h.stopped, h.going, h.planned, fun e => absurd planned e⟩
  · refine h.of_view ?_
    simp [State.scanView, tick, tickFts, (h.planless planned).1, tickEngine, everySheet, idleEngine]

theorem arbitrate_scanView (s : State) : (arbitrate s).scanView = s.scanView := by
  simp [State.scanView]

/-- Under a halting condition no burst is in flight (R38, R48). -/
theorem ScanConsistent.idle_of_halting {s : State} (h : ScanConsistent s)
    (halting : s.fmo.halting = true) (sh : Sheet) :
    (s.engine sh).st = .idle ∧ s.burstAt sh = none := by
  have other : s.fts.frame ≠ .planned := fun e => by
    simpa [halting] using h.running (h.planned e)
  obtain ⟨engine, plan, _, _⟩ := h.planless other
  simp [State.engine, State.burstAt, engine, plan, idleEngine]

end Sys2Proof.Machine

namespace Sys2Proof.Proofs

open Sys2Proof.Machine

/-- Settles O55, by the effects of a step (`step_keeps`). -/
theorem stepKeepsScanConsistent : Obligations.StepKeepsScanConsistent := by
  intro s t holds run
  have kept : ScanConsistent t := step_keeps (P := ScanConsistent)
    (fun _ _ _ h => h.of_view rfl) (fun _ => tick_consistent)
    (fun s h => h.of_view (arbitrate_scanView s)) (fun _ _ e => e.consistent) holds run
  exact ⟨kept, kept.idle_of_halting⟩

end Sys2Proof.Proofs
end

section
/-! PROOFS. O56: every step keeps settings and panel in range, thresholds on their floors and plans
within the budget. -/

namespace Sys2Proof.Machine

/-! ### The settings, and what leaves them as they are -/

/-- The settings, staged and active, the panel and the levels of a state. -/
structure SettingsView where
  latch : Nat
  period : Nat
  display : Display
  active : ScanSettings
  staged : Staged
  word : WordSettings
  layout : Layout
  panel : Panel
  floor : PerSheet Nat
  threshold : PerSheet Nat

def State.settings (s : State) : SettingsView :=
  ⟨s.fts.latch, s.fts.period, s.fts.display, s.bpl.active, s.bpl.staged, s.wdc, s.cfe.layout,
    s.cfe.panel, s.cfe.floor, s.cfe.threshold⟩

theorem SettingsLegal.of_settings {s t : State} (h : SettingsLegal s)
    (same : t.settings = s.settings) : SettingsLegal t := by
  simp only [State.settings, SettingsView.mk.injEq] at same
  obtain ⟨latch, period, display, active, staged, word, layout, panel, _, _⟩ := same
  obtain ⟨h1, h2, h3, h4, h5, h6, h7, h8⟩ := h
  constructor <;> simpa only [latch, period, display, active, staged, word, layout, panel]

theorem LevelsFollow.of_settings {s t : State} (h : LevelsFollow s)
    (same : t.settings = s.settings) : LevelsFollow t := by
  simp only [State.settings, SettingsView.mk.injEq] at same
  obtain ⟨_, _, _, active, _, _, _, _, floor, threshold⟩ := same
  intro sh
  rw [threshold, active, floor]
  exact h sh

theorem enterHalt_settings (s : State) : (enterHalt s).settings = s.settings := by
  have fts := enterHalt_fts s
  split at fts <;> simp [State.settings, fts]

theorem haltIfHeld_settings (s : State) : (haltIfHeld s).settings = s.settings := by
  unfold haltIfHeld
  split
  · exact enterHalt_settings s
  · rfl

theorem evaluateHalt_settings (s : State) : (evaluateHalt s).settings = s.settings :=
  evaluateHalt_keeps (P := fun t => t.settings = s.settings) (haltIfHeld_settings s) fun _ h => h

theorem raiseFault_settings (f : FaultId) (s : State) : (raiseFault f s).settings = s.settings := by
  have recorded : (recordFault f s).settings = s.settings := by simp [State.settings]
  rw [raiseFault_eq]
  split
  · exact recorded
  · exact (haltIfHeld_settings _).trans recorded

theorem tripBurst_settings (l : List Sheet) (s : State) :
    (tripBurst l s).settings = s.settings :=
  (raiseFault_settings _ _).trans (by simp [State.settings])

theorem injectTrip_settings (l : List Sheet) (s : State) :
    (injectTrip l s).settings = s.settings :=
  injectTrip_keeps (P := fun t => t.settings = s.settings) l rfl rfl
    (fun l t h => (tripBurst_settings l t).trans h)
    fun l t h => Eq.trans (by simp [State.settings]) h

theorem startBursts_settings (l : List Sheet) (s : State) :
    (startBursts l s).settings = s.settings :=
  (injectTrip_settings _ _).trans (by simp [State.settings])

theorem startFirst_settings (s : State) : (startFirst s).settings = s.settings :=
  (injectTrip_settings _ _).trans (by simp [State.settings])

theorem buildPlans_settings (s : State) : (buildPlans s).settings = s.settings := by
  simp [State.settings]

theorem carryOutStop_settings (s : State) : (carryOutStop s).settings = s.settings := by
  unfold carryOutStop
  split
  · simp [State.settings, stopScanning_fts]
  · rfl

theorem settleClose_settings (s : State) : (settleClose s).settings = s.settings :=
  settleClose_keeps (P := fun t => t.settings = s.settings) rfl (fun _ h => h)
    (fun t h => (haltIfHeld_settings t).trans h) fun t h => (carryOutStop_settings t).trans h

theorem closeFrame_settings (s : State) : (closeFrame s).settings = s.settings :=
  closeFrame_keeps (P := fun t => t.settings = s.settings) (by simp [State.settings])
    (fun t h => (raiseFault_settings _ t).trans h)
    (fun t _ h => Eq.trans (by simp [State.settings]) h)
    (fun t h => Eq.trans (by simp [State.settings]) h)
    (fun t h => (settleClose_settings t).trans h) fun t h => (carryOutStop_settings t).trans h

theorem judgeEdge_clock (f : Fts) : (judgeEdge f).latch = f.latch ∧ (judgeEdge f).period = f.period
    ∧ (judgeEdge f).display = f.display := by
  unfold judgeEdge
  split
  · exact ⟨rfl, rfl, rfl⟩
  · unfold judgeAcquiring
    dsimp only
    repeat' split
    all_goals exact ⟨rfl, rfl, rfl⟩
  · rw [judgeLocked_eq]
    split <;> exact ⟨rfl, rfl, rfl⟩

theorem receive_settings (b : Byte) (s : State) : (receive b s).settings = s.settings :=
  receive_keeps (P := fun t => t.settings = s.settings) (fun _ _ _ h => h)
    (fun f t h => (raiseFault_settings f t).trans h) b rfl

theorem applyStop_settings (s : State) : (applyStop s).settings = s.settings := by
  unfold applyStop
  dsimp only
  split <;> rfl

theorem applyClear_settings (cleared : PerFault Bool) (s : State) :
    (applyClear cleared s).settings = s.settings :=
  applyClear_keeps (P := fun t => t.settings = s.settings) cleared rfl
    fun t h => (evaluateHalt_settings t).trans h

theorem freeTransmitter_settings (s : State) : (freeTransmitter s).settings = s.settings :=
  freeTransmitter_keeps (P := fun t => t.settings = s.settings) rfl fun _ h => h

/-! ### What moves the settings -/

theorem reloadTimer_legal {s : State} (h : SettingsLegal s) : SettingsLegal (reloadTimer s) :=
  ⟨h.latch, h.latch, h.display, h.active, h.stagedScan, h.word, h.stagedWord, h.panel⟩

theorem takeUp_legal {s : State} (h : SettingsLegal s) : SettingsLegal (takeUp s) := by
  obtain ⟨active, word, _, staged⟩ := takeUp_takes s
  constructor
  case active =>
    rw [active]
    have stagedScan := h.stagedScan
    cases scan : s.bpl.staged.scan with
    | none => exact h.active
    | some r => simpa [scan] using stagedScan
  case word =>
    rw [word]
    have stagedWord := h.stagedWord
    cases word' : s.bpl.staged.word with
    | none => exact h.word
    | some r => simpa [word'] using stagedWord
  case stagedScan => rw [staged]; rfl
  case stagedWord => rw [staged]; rfl
  case latch => simpa using h.latch
  case period => simpa using h.period
  case display => simpa using h.display
  case panel => simpa using h.panel

theorem takeUp_threshold (s : State) (sh : Sheet) :
    sheetGet (takeUp s).cfe.threshold sh = match s.bpl.staged.scan with
      | none => sheetGet s.cfe.threshold sh
      | some r => thresholdOf r.detectMin (sheetGet s.cfe.floor sh) := by
  have cfe : (takeUp s).cfe = (takeScan s).cfe := by simp [takeUp]
  rw [cfe]
  exact (takeScan_takes s).2.2 sh

theorem takeUp_levels {s : State} (h : LevelsFollow s) : LevelsFollow (takeUp s) := by
  intro sh
  rw [takeUp_threshold, (takeUp_takes s).1, takeUp_cfe_floor]
  cases s.bpl.staged.scan with
  | none => exact h sh
  | some r => rfl

theorem startPlanned_settings (s : State) :
    (startFirst (buildPlans (openedFrame s))).settings = (openedFrame s).settings :=
  (startFirst_settings _).trans (buildPlans_settings _)

theorem openedFrame_legal {s : State} (h : SettingsLegal s) : SettingsLegal (openedFrame s) :=
  takeUp_legal (h.of_settings rfl)

theorem openedFrame_levels {s : State} (h : LevelsFollow s) : LevelsFollow (openedFrame s) :=
  takeUp_levels (h.of_settings rfl)

theorem openFrame_legal {s : State} (h : SettingsLegal s) : SettingsLegal (openFrame s) :=
  openFrame_keeps h (fun _ => h.of_settings rfl) fun _ =>
    (openedFrame_legal h).of_settings (startPlanned_settings s)

theorem openFrame_levels {s : State} (h : LevelsFollow s) : LevelsFollow (openFrame s) :=
  openFrame_keeps h (fun _ => h) fun _ =>
    (openedFrame_levels h).of_settings (startPlanned_settings s)

theorem boundary_legal {s : State} (h : SettingsLegal s) : SettingsLegal (boundary s) := by
  have closed := h.of_settings (closeFrame_settings s)
  exact boundary_keeps closed fun _ => openFrame_legal (reloadTimer_legal closed)

theorem boundary_levels {s : State} (h : LevelsFollow s) : LevelsFollow (boundary s) := by
  have closed := h.of_settings (closeFrame_settings s)
  exact boundary_keeps closed fun _ => openFrame_levels closed

theorem captureFsync_legal {s : State} (h : SettingsLegal s) : SettingsLegal (captureFsync s) := by
  obtain ⟨latch, period, display⟩ := judgeEdge_clock s.fts
  refine captureFsync_keeps (h.of_settings ?_) (fun t h => h.of_settings (raiseFault_settings _ t))
    (fun _ _ => reloadTimer_legal) fun _ => boundary_legal
  simp [State.settings, latch, period, display]

theorem captureFsync_levels {s : State} (h : LevelsFollow s) : LevelsFollow (captureFsync s) :=
  captureFsync_keeps (P := LevelsFollow) h (fun t h => h.of_settings (raiseFault_settings _ t))
    (fun _ _ h => h) fun _ => boundary_levels

theorem applyStart_legal {s : State} (h : SettingsLegal s) : SettingsLegal (applyStart s) := by
  unfold applyStart
  split
  · exact openFrame_legal (s := (reloadTimer (s.setCfe _)).setFts _)
      ((reloadTimer_legal (s := s.setCfe _) (h.of_settings rfl)).of_settings rfl)
  · exact h.of_settings rfl
  · exact h

theorem applyStart_levels {s : State} (h : LevelsFollow s) : LevelsFollow (applyStart s) := by
  unfold applyStart
  split
  · exact openFrame_levels (s := (reloadTimer (s.setCfe _)).setFts _) h
  · exact h
  · exact h

theorem defaultPanel_fits (l : Layout) : panelFits l (defaultPanel l) = true := by
  cases l <;> decide

theorem Ruled.legal {s u : State} (r : Ruled s u) (h : SettingsLegal s) : SettingsLegal u := by
  cases r
  case kept => exact h
  case layout l _ =>
    exact ⟨h.latch, h.period, h.display, h.active, h.stagedScan, h.word, h.stagedWord,
      defaultPanel_fits l⟩
  case panel g _ fits =>
    exact ⟨h.latch, h.period, h.display, h.active, h.stagedScan, h.word, h.stagedWord, fits⟩
  case scan p fits =>
    simp only [scanFits, Bool.and_eq_true] at fits
    obtain ⟨⟨⟨⟨⟨⟨latch, detectMin⟩, confirm⟩, missWindow⟩, missLimit⟩, jump⟩, _⟩ := fits
    refine ⟨latch, h.period, h.display, h.active, ?_, h.word, h.stagedWord, h.panel⟩
    simp [ScanSettings.legal, detectMin, confirm, missWindow, missLimit, jump]
  case display p fits =>
    simp only [displayFits, Bool.and_eq_true] at fits
    refine ⟨h.latch, h.period, ?_, h.active, h.stagedScan, h.word, h.stagedWord, h.panel⟩
    exact Bool.and_eq_true_iff.mpr fits.1
  case word r legal =>
    exact ⟨h.latch, h.period, h.display, h.active, h.stagedScan, h.word, legal, h.panel⟩
  case enable | release =>
    exact ⟨h.latch, h.period, h.display, h.active, h.stagedScan, h.word, h.stagedWord, h.panel⟩
  case start => exact applyStart_legal h
  case stop => exact h.of_settings (applyStop_settings s)
  case tool => exact h.of_settings (by simp [State.settings, loadTool])
  case drop => exact h.of_settings (by simp [State.settings, dropTool])
  case clear cleared => exact h.of_settings (applyClear_settings cleared s)
  case policy => exact h.of_settings (evaluateHalt_settings _)
  all_goals exact h.of_settings rfl

theorem Ruled.levels {s u : State} (r : Ruled s u) (h : LevelsFollow s) : LevelsFollow u := by
  cases r
  case layout l _ => intro sh; cases sh <;> rfl
  case start => exact applyStart_levels h
  case stop => exact h.of_settings (applyStop_settings s)
  case tool => exact h.of_settings (by simp [State.settings, loadTool])
  case drop => exact h.of_settings (by simp [State.settings, dropTool])
  case clear cleared => exact h.of_settings (applyClear_settings cleared s)
  case policy => exact h.of_settings (evaluateHalt_settings _)
  all_goals exact h

/-- A delivered record moves no setting, and the levels of its own sheet alone (R17). -/
theorem deliver_legal (r : BurstRecord) {s : State} (h : SettingsLegal s) :
    SettingsLegal (deliver r s) := by
  obtain ⟨h1, h2, h3, h4, h5, h6, h7, h8⟩ := h
  constructor <;> simpa

theorem deliver_levels (r : BurstRecord) {s : State} (h : LevelsFollow s) :
    LevelsFollow (deliver r s) := by
  cases r with
  | probe sh mark amp =>
    intro t
    have moved : deliver (.probe sh mark amp) s = updateFloor sh amp
        (s.setPtr { s.ptr with records := s.ptr.records ++ [.probe sh mark amp] }) := rfl
    rw [moved, updateFloor_threshold, updateFloor_floor, updateFloor_bpl]
    split
    · rfl
    · exact h t
  | tip w p => exact h
  | collar w => exact h
  | search sh c mark band px py amp =>
    have moved : deliver (.search sh c mark band px py amp) s = advanceCursor sh c band
      (s.setPtr { s.ptr with records := s.ptr.records ++ [.search sh c mark band px py amp] }) := rfl
    rw [moved]
    exact h.of_settings (by simp [State.settings])

theorem overcurrent_settings (sh : Sheet) (s : State) :
    (overcurrent sh s).settings = s.settings :=
  overcurrent_keeps (P := fun t => t.settings = s.settings) sh (tripBurst_settings _ s)
    fun l t _ h => (startBursts_settings l t).trans h

theorem resetBlocks_legal (pins : Pins) (l : Layout) (q : List Entry) (s : State) :
    SettingsLegal (s.resetBlocks pins l q) :=
  ⟨rfl, rfl, rfl, rfl, rfl, rfl, rfl, defaultPanel_fits l⟩

theorem resetBlocks_levels (pins : Pins) (l : Layout) (q : List Entry) (s : State) :
    LevelsFollow (s.resetBlocks pins l q) := by
  intro sh
  cases sh <;> rfl

theorem foldl_setRun_settings (run : RunState) (l : List Sheet) (s : State) :
    (l.foldl (setRun run) s).settings = s.settings := by simp [State.settings]

theorem foldl_placeListening_settings (l : List Sheet) (s : State) :
    (l.foldl placeListening s).settings = s.settings :=
  foldl_keeps State.settings _ (fun s sh => by simp [State.settings]) l s

theorem foldl_setEngineState_settings (st : EngineState) (mark : Bool) (l : List Sheet)
    (s : State) : (l.foldl (setEngineState st mark) s).settings = s.settings :=
  foldl_keeps State.settings _ (fun s sh => by simp [State.settings]) l s

theorem Effect.legal {s u : State} (e : Effect s u) (h : SettingsLegal s) : SettingsLegal u := by
  cases e
  case resetAsserted | resetReleased => exact resetBlocks_legal _ _ _ s
  case commandReset =>
    exact (resetBlocks_legal { s.pins with cause := .command } s.cfe.layout
      [announceEntry s.cfe.layout .command] s).of_settings rfl
  case received b => exact h.of_settings (receive_settings b s)
  case answered ruled _ _ => exact (ruled.legal (h.of_settings rfl)).of_settings rfl
  case transmitted => exact h.of_settings (freeTransmitter_settings s)
  case bounded => exact boundary_legal h
  case edgeCaptured => exact captureFsync_legal h
  case framerGap | lockEnded | acquisitionEnded => exact h.of_settings (raiseFault_settings _ _)
  case excited => exact h.of_settings (foldl_placeListening_settings _ s)
  case listened => exact h.of_settings (foldl_setEngineState_settings _ _ _ s)
  case completed =>
    exact (deliver_legal _ (h.of_settings (foldl_setRun_settings _ _ s))).of_settings
      (startBursts_settings _ _)
  case overcurrent sh _ => exact h.of_settings (overcurrent_settings sh s)
  all_goals exact h.of_settings rfl

theorem Effect.levels {s u : State} (e : Effect s u) (h : LevelsFollow s) : LevelsFollow u := by
  cases e
  case resetAsserted | resetReleased => exact resetBlocks_levels _ _ _ s
  case commandReset =>
    exact resetBlocks_levels { s.pins with cause := .command } s.cfe.layout
      [announceEntry s.cfe.layout .command] s
  case received b => exact h.of_settings (receive_settings b s)
  case answered ruled _ _ => exact ruled.levels (s := taken _ s) h
  case transmitted => exact h.of_settings (freeTransmitter_settings s)
  case bounded => exact boundary_levels h
  case edgeCaptured => exact captureFsync_levels h
  case framerGap | lockEnded | acquisitionEnded => exact h.of_settings (raiseFault_settings _ _)
  case excited => exact h.of_settings (foldl_placeListening_settings _ s)
  case listened => exact h.of_settings (foldl_setEngineState_settings _ _ _ s)
  case completed =>
    exact (deliver_levels _ (h.of_settings (foldl_setRun_settings _ _ s))).of_settings
      (startBursts_settings _ _)
  case overcurrent sh _ => exact h.of_settings (overcurrent_settings sh s)
  all_goals exact h

theorem arbitrate_settings (s : State) : (arbitrate s).settings = s.settings := by
  simp [State.settings]

/-! ### Plans within the budget (R40, R41) -/

theorem PlansFit.of_lengths {s t : State} (h : PlansFit s) (latch : t.fts.latch = s.fts.latch)
    (budget : t.bpl.budget = s.bpl.budget)
    (plan : ∀ sh, (sheetGet t.bpl.plan sh).length = (sheetGet s.bpl.plan sh).length) :
    PlansFit t := by
  have plan0 : t.bpl.plan.s0.length = s.bpl.plan.s0.length := plan .s0
  have plan1 : t.bpl.plan.s1.length = s.bpl.plan.s1.length := plan .s1
  obtain ⟨h1, h2, h3, h4⟩ := h
  constructor <;> simpa only [latch, budget, plan0, plan1]

theorem PlansFit.of_discarded {t : State} (latch : within t.fts.latch 2400 10000 = true)
    (gone : Discarded t) : PlansFit t := by
  obtain ⟨_, plan, budget, _⟩ := gone
  constructor <;> simp [plan, budget, latch, everySheet]

theorem latch_of_settings {s t : State} (same : t.settings = s.settings) :
    t.fts.latch = s.fts.latch := congrArg SettingsView.latch same

theorem haltIfHeld_plansFit {s : State} (h : PlansFit s) : PlansFit (haltIfHeld s) := by
  have latch := latch_of_settings (haltIfHeld_settings s)
  unfold haltIfHeld at latch ⊢
  split at latch
  next held => rw [if_pos held]; exact .of_discarded (latch ▸ h.latch) (enterHalt_discards s)
  next held => rw [if_neg held]; exact h

theorem raiseFault_plansFit (f : FaultId) {s : State} (h : PlansFit s) :
    PlansFit (raiseFault f s) := by
  have recorded : PlansFit (recordFault f s) := h.of_lengths (by simp) (by simp) (by simp)
  rw [raiseFault_eq]
  split
  · exact recorded
  · exact haltIfHeld_plansFit recorded

theorem tripBurst_plansFit (l : List Sheet) {s : State} (h : PlansFit s) :
    PlansFit (tripBurst l s) :=
  raiseFault_plansFit _ (h.of_lengths (by simp) (by simp) (by simp))

theorem goOn_plansFit (l : List Sheet) {s : State} (h : PlansFit s) : PlansFit (goOn l s) := by
  unfold goOn
  split
  · exact h.of_lengths (by simp) (by simp) (by simp [startNext])
  · exact h

theorem injectTrip_plansFit (l : List Sheet) {s : State} (h : PlansFit s) :
    PlansFit (injectTrip l s) :=
  injectTrip_keeps l h (h.of_lengths rfl rfl fun _ => rfl) (fun l _ => tripBurst_plansFit l)
    fun l _ => goOn_plansFit l

theorem startBursts_plansFit (l : List Sheet) {s : State} (h : PlansFit s) :
    PlansFit (startBursts l s) :=
  injectTrip_plansFit _ (h.of_lengths (by simp) (by simp) (by simp))

theorem startFirst_plansFit {s : State} (h : PlansFit s) : PlansFit (startFirst s) :=
  injectTrip_plansFit _ (h.of_lengths (by simp) (by simp) (by simp))

theorem buildPlans_plansFit {s : State} (latch : within s.fts.latch 2400 10000 = true)
    (period : within s.fts.period 2400 10000 = true) : PlansFit (buildPlans s) := by
  have roomy : 9 ≤ slotBudget s.fts.period := by
    simp only [within, Bool.and_eq_true, decide_eq_true_eq] at period
    simp only [slotBudget]
    omega
  have fits (sh : Sheet) :
      (sheetGet (buildPlans s).bpl.plan sh).length ≤ (buildPlans s).bpl.budget := by
    rw [buildPlans_plan, buildPlans_budget]
    split
    · exact sheetPlan_length _ _ _ _ _ _ _ roomy
    · exact Nat.zero_le _
  exact ⟨by simpa using latch, fits .s0, fits .s1, by simp [slotBudget]⟩

theorem openFrame_plansFit {s : State} (h : PlansFit s)
    (period : s.fts.period = s.fts.latch) : PlansFit (openFrame s) :=
  openFrame_keeps h (fun _ => h.of_lengths rfl rfl fun _ => rfl) fun _ =>
    startFirst_plansFit (buildPlans_plansFit (by simpa [openedFrame] using h.latch)
      (by simpa [openedFrame, period] using h.latch))

theorem boundary_plansFit {s : State} (h : PlansFit s) : PlansFit (boundary s) := by
  have closed : PlansFit (closeFrame s) :=
    .of_discarded (latch_of_settings (closeFrame_settings s) ▸ h.latch) (closeFrame_discarded s)
  exact boundary_keeps closed fun _ =>
    openFrame_plansFit (closed.of_lengths (t := reloadTimer _) rfl rfl fun _ => rfl) rfl

theorem captureFsync_plansFit {s : State} (h : PlansFit s) : PlansFit (captureFsync s) :=
  captureFsync_keeps (h.of_lengths (judgeEdge_clock s.fts).1 rfl fun _ => rfl)
    (fun _ => raiseFault_plansFit _) (fun _ _ h => h.of_lengths rfl rfl fun _ => rfl)
    fun _ => boundary_plansFit

theorem evaluateHalt_plansFit {s : State} (h : PlansFit s) : PlansFit (evaluateHalt s) :=
  evaluateHalt_keeps (haltIfHeld_plansFit h) fun _ h => h.of_lengths rfl rfl fun _ => rfl

theorem Ruled.plansFit {s u : State} (r : Ruled s u) (h : PlansFit s) : PlansFit u := by
  cases r
  case scan p fits =>
    simp only [scanFits, Bool.and_eq_true] at fits
    exact ⟨fits.1.1.1.1.1.1, h.sheet0, h.sheet1, h.budget⟩
  case start =>
    unfold applyStart
    split
    · exact openFrame_plansFit (s := (reloadTimer (s.setCfe _)).setFts _)
        (h.of_lengths rfl rfl fun _ => rfl) rfl
    · exact h.of_lengths rfl rfl fun _ => rfl
    · exact h
  case stop =>
    unfold applyStop
    dsimp only
    split <;> exact h.of_lengths rfl rfl fun _ => rfl
  case tool => exact h.of_lengths (by simp [loadTool]) (by simp [loadTool]) (by simp [loadTool])
  case drop => exact h.of_lengths (by simp [dropTool]) (by simp [dropTool]) (by simp [dropTool])
  case clear cleared =>
    exact applyClear_keeps cleared (h.of_lengths rfl rfl fun _ => rfl)
      fun _ => evaluateHalt_plansFit
  case policy => exact evaluateHalt_plansFit (h.of_lengths rfl rfl fun _ => rfl)
  all_goals exact h.of_lengths rfl rfl fun _ => rfl

theorem overcurrent_plansFit (sh : Sheet) {s : State} (h : PlansFit s) :
    PlansFit (overcurrent sh s) :=
  overcurrent_keeps sh (tripBurst_plansFit _ h) fun _ _ _ => startBursts_plansFit _

theorem Effect.plansFit {s u : State} (e : Effect s u) (h : PlansFit s) : PlansFit u := by
  cases e
  case resetAsserted | resetReleased | commandReset =>
    exact .of_discarded rfl ⟨rfl, rfl, rfl, rfl⟩
  case received b =>
    exact receive_keeps (fun _ _ _ h => h.of_lengths rfl rfl fun _ => rfl)
      (fun f _ => raiseFault_plansFit f) b h
  case answered ruled _ _ =>
    exact (ruled.plansFit (h.of_lengths rfl rfl fun _ => rfl)).of_lengths rfl rfl fun _ => rfl
  case transmitted =>
    exact freeTransmitter_keeps (h.of_lengths rfl rfl fun _ => rfl)
      fun _ h => h.of_lengths rfl rfl fun _ => rfl
  case bounded => exact boundary_plansFit h
  case edgeCaptured => exact captureFsync_plansFit h
  case framerGap | lockEnded | acquisitionEnded =>
    exact raiseFault_plansFit _ (h.of_lengths rfl rfl fun _ => rfl)
  case excited =>
    exact h.of_lengths (latch_of_settings (foldl_placeListening_settings _ s))
      (foldl_keeps (·.bpl.budget) _ (fun s sh => by simp) _ s)
      fun t => foldl_keeps (fun s => (sheetGet s.bpl.plan t).length) _ (fun s sh => by simp) _ s
  case listened =>
    exact h.of_lengths (latch_of_settings (foldl_setEngineState_settings _ _ _ s))
      (foldl_keeps (·.bpl.budget) _ (fun s sh => by simp) _ s)
      fun t => foldl_keeps (fun s => (sheetGet s.bpl.plan t).length) _ (fun s sh => by simp) _ s
  case completed =>
    exact startBursts_plansFit _ (h.of_lengths (by simp) (by simp) (by simp))
  case overcurrent sh _ => exact overcurrent_plansFit sh h
  all_goals exact h.of_lengths rfl rfl fun _ => rfl

end Sys2Proof.Machine

namespace Sys2Proof.Proofs

open Sys2Proof.Machine

/-- Settles O56, each of its three invariants by the effects of a step (`step_keeps`). -/
theorem stepKeepsSettingsLegal : Obligations.StepKeepsSettingsLegal := by
  intro s t run
  refine ⟨fun h => ?legal, fun h => ?levels, fun h => ?plans⟩
  case legal =>
    exact step_keeps (P := SettingsLegal) (fun _ _ _ h => h.of_settings rfl)
      (fun _ h => h.of_settings rfl) (fun s h => h.of_settings (arbitrate_settings s))
      (fun _ _ e => e.legal) h run
  case levels =>
    exact step_keeps (P := LevelsFollow) (fun _ _ _ h => h) (fun _ h => h)
      (fun s h => h.of_settings (arbitrate_settings s)) (fun _ _ e => e.levels) h run
  case plans =>
    exact step_keeps (P := PlansFit) (fun _ _ _ h => h.of_lengths rfl rfl fun _ => rfl)
      (fun _ h => h.of_lengths rfl rfl fun _ => rfl)
      (fun s h => h.of_lengths (by simp) (by simp) (by simp)) (fun _ _ e => e.plansFit) h run

end Sys2Proof.Proofs
end

section
/-! PROOFS. O57: every step keeps the profile records valid, the pointer at a set fault and the link's
lists bounded. -/

namespace Sys2Proof.Machine

/-! ### The Profile Table (R120 to R125) -/

theorem mem_putTool {id : Nat} {r : Profile} {l : List (Nat × Profile)} {p : Nat × Profile}
    (h : p ∈ putTool id r l) : p = (id, r) ∨ p ∈ l := by
  induction l with
  | nil => simpa [putTool] using h
  | cons q l ih =>
    obtain ⟨k, q⟩ := q
    unfold putTool at h
    split at h
    · simpa using h
    · split at h
      · simp only [List.mem_cons] at h ⊢
        tauto
      · simp only [List.mem_cons] at h ⊢
        obtain rfl | h := h
        · exact .inr (.inl rfl)
        · exact (ih h).imp_right .inr

/-- A record put under an ID held replaces it, and else makes the table one longer. -/
theorem putTool_length {id : Nat} {r : Profile} {l : List (Nat × Profile)}
    (rising : (l.map (·.1)).Pairwise (· < ·)) : (putTool id r l).length
      = if l.any (·.1 = id) then l.length else l.length + 1 := by
  induction l with
  | nil => rfl
  | cons q l ih =>
    obtain ⟨k, q⟩ := q
    obtain ⟨above, rising⟩ := List.pairwise_cons.mp rising
    unfold putTool
    split
    next before =>
      have absent : ¬ ((k, q) :: l).any (·.1 = id) = true := by
        simp only [List.any_cons, List.any_eq_true, Bool.or_eq_true, decide_eq_true_eq, not_or,
          not_exists, not_and]
        refine ⟨by omega, fun p mem same => ?_⟩
        have later : k < p.1 := above p.1 (List.mem_map_of_mem mem)
        omega
      rw [if_neg absent]
      rfl
    next =>
      split
      next same => simp [same]
      next other =>
        have skip : ((k, q) :: l).any (·.1 = id) = l.any (·.1 = id) := by
          simp [Ne.symm other]
        rw [List.length_cons, ih rising, skip]
        split <;> rfl

theorem putTool_rising {id : Nat} {r : Profile} {l : List (Nat × Profile)}
    (rising : (l.map (·.1)).Pairwise (· < ·)) :
    ((putTool id r l).map (·.1)).Pairwise (· < ·) := by
  induction l with
  | nil => simp [putTool]
  | cons q l ih =>
    obtain ⟨k, q⟩ := q
    obtain ⟨above, rising'⟩ := List.pairwise_cons.mp rising
    unfold putTool
    split
    next before =>
      refine List.pairwise_cons.mpr ⟨fun j mem => ?_, rising⟩
      obtain rfl | mem := List.mem_cons.mp mem
      · exact before
      · exact before.trans (above j mem)
    next after =>
      split
      next same => subst same; exact List.pairwise_cons.mpr ⟨above, rising'⟩
      next other =>
        refine List.pairwise_cons.mpr ⟨fun j mem => ?_, ih rising'⟩
        obtain ⟨p, held, rfl⟩ := List.mem_map.mp mem
        obtain rfl | held := mem_putTool held
        · change k < id; omega
        · exact above _ (List.mem_map_of_mem held)

theorem TableLegal.putTool {t : Ptb} (h : TableLegal t) {id : Nat} {r : Profile}
    (valid : profileValid r = true) (named : 1 ≤ id ∧ id ≤ 65535)
    (room : holdsTool t id = true ∨ t.tools.length < Config.toolLimit) :
    TableLegal { t with tools := Machine.putTool id r t.tools } := by
  refine ⟨h.defaults, fun p mem => ?_, ?_, putTool_rising h.rising⟩
  · obtain rfl | mem := mem_putTool mem
    · exact ⟨valid, named⟩
    · exact h.tools p mem
  · change (Machine.putTool id r t.tools).length ≤ 16
    rw [putTool_length h.rising]
    split
    next => exact h.room
    next absent => exact room.resolve_left absent

theorem TableLegal.filterTools {t : Ptb} (h : TableLegal t) (keep : Nat × Profile → Bool) :
    TableLegal { t with tools := t.tools.filter keep } :=
  ⟨h.defaults, fun p mem => h.tools p (List.mem_of_mem_filter mem),
    (List.length_filter_le _ _).trans h.room,
    h.rising.sublist (List.filter_sublist.map _)⟩

theorem TableLegal.setDefault {t : Ptb} (h : TableLegal t) (c : Channel) {r : Profile}
    (valid : profileValid r = true) :
    TableLegal { t with defaults := t.defaults.set c r } := by
  refine ⟨fun d => ?_, h.tools, h.room, h.rising⟩
  change profileValid ((t.defaults.set c r).get d) = true
  rw [PerChannel.get_set]
  split
  · exact valid
  · exact h.defaults d

theorem resetPtb_legal : TableLegal resetPtb := by
  refine ⟨fun c => ?_, by simp [resetPtb], by decide, .nil⟩
  cases c <;> decide

theorem ptb_of_unscanned {s t : State} (same : t.unscanned = s.unscanned) : t.ptb = s.ptb :=
  congrArg (·.2.1) same

theorem lnk_of_unscanned {s t : State} (same : t.unscanned = s.unscanned) : t.lnk = s.lnk :=
  congrArg (·.2.2.1) same

theorem Ruled.tableLegal {s u : State} (r : Ruled s u) (h : TableLegal s.ptb) :
    TableLegal u.ptb := by
  cases r
  case start => exact ptb_of_unscanned (applyStart_unscanned s) ▸ h
  case stop => exact ptb_of_unscanned (applyStop_unscanned s) ▸ h
  case tool id r valid named room => simpa [loadTool] using h.putTool valid named room
  case default c r valid => exact h.setDefault c valid
  case drop id => simpa [dropTool] using h.filterTools _
  case clear cleared => exact ptb_of_unscanned (applyClear_unscanned s cleared) ▸ h
  case policy mask halt =>
    exact (ptb_of_unscanned (evaluateHalt_unscanned (s.setFmo (setPolicy mask halt s.fmo)))).symm
      ▸ h
  all_goals exact h

theorem Effect.tableLegal {s u : State} (e : Effect s u) (h : TableLegal s.ptb) :
    TableLegal u.ptb := by
  cases e
  case resetAsserted | resetReleased | commandReset => exact resetPtb_legal
  case received b =>
    exact receive_keeps (P := fun t => TableLegal t.ptb) (fun _ _ _ h => h)
      (fun _ _ h => by simpa using h) b h
  case framerGap | lockEnded | acquisitionEnded => rw [raiseFault_ptb]; exact h
  case answered ruled _ _ => exact ruled.tableLegal h
  case transmitted =>
    exact freeTransmitter_keeps (P := fun t => TableLegal t.ptb) h fun _ h => h
  case bounded => exact ptb_of_unscanned (boundary_unscanned s) ▸ h
  case edgeCaptured => exact ptb_of_unscanned (captureFsync_unscanned s) ▸ h
  case excited => exact foldl_keeps State.ptb _ placeListening_ptb _ s ▸ h
  case listened => exact foldl_keeps State.ptb _ (setEngineState_ptb _ _) _ s ▸ h
  case completed sh b r _ _ => exact ptb_of_unscanned (completeBurst_unscanned s sh b r) ▸ h
  case overcurrent sh _ => exact ptb_of_unscanned (overcurrent_unscanned s sh) ▸ h
  all_goals exact h

/-! ### The first-fault pointer (R155) -/

/-- The pointer is empty or at a set fault. -/
def Fmo.PointsAtSet (m : Fmo) : Prop :=
  ∀ f, m.pointer = some f → (m.recs.get f).status = true

theorem recordFault_points (f : FaultId) {s : State} (h : s.fmo.PointsAtSet) :
    (recordFault f s).fmo.PointsAtSet := by
  intro g named
  rw [recordFault_recs, PerFault.get_set]
  split
  next => rfl
  next other =>
    refine h g ?_
    rw [recordFault_pointer] at named
    split at named
    · exact named
    · cases held : s.fmo.pointer with
      | none => simp [held, Ne.symm other] at named
      | some k => simpa [held] using named

theorem raiseFault_points (f : FaultId) {s : State} (h : s.fmo.PointsAtSet) :
    (raiseFault f s).fmo.PointsAtSet := by
  rw [raiseFault_fmo]
  exact recordFault_points f h

theorem openSnapshot_points {m : Fmo} (h : m.PointsAtSet) : (openSnapshot m).PointsAtSet := by
  intro f named
  rw [openSnapshot, perFault_get]
  exact h f named

theorem clearStatuses_points (cleared : PerFault Bool) {m : Fmo} (h : m.PointsAtSet) :
    (clearStatuses cleared m).PointsAtSet := by
  intro f named
  obtain ⟨named, kept⟩ := Option.filter_eq_some_iff.mp named
  simp only [clearStatuses, perFault_get, h f named, Bool.true_and]
  exact kept

theorem setPolicy_points (mask halt : PerFault Bool) {m : Fmo} (h : m.PointsAtSet) :
    (setPolicy mask halt m).PointsAtSet := by
  intro f named
  rw [setPolicy, perFault_get]
  exact h f named

/-! What every change of a slot, of the queue, of the armed set and every fault recorded keeps, the close
of the slots keeps. -/

section
variable {P : State → Prop} (records : ∀ f s, P s → P (recordFault f s))
  (arms : ∀ a s, P s → P (s.setFmo { s.fmo with armed := a }))
  (slots : ∀ c sl s, P s → P (s.setSlot c sl)) (queues : ∀ r s, P s → P (s.setRqu r))
include records arms slots queues

theorem takeTool_keeps (c : Channel) (v : Option Nat) {s : State} (h : P s) :
    P (takeTool c v s).1 := by
  unfold takeTool
  dsimp only
  split
  · exact h
  · split
    · exact h
    · dsimp only
      split
      · exact records _ _ (slots _ _ _ h)
      · exact slots _ _ _ h

theorem handBit_keeps (c : Channel) (bit : Option Bool) {s : State} (h : P s) :
    P (handBit c bit s).1 := by
  unfold handBit
  dsimp only
  split
  · exact h
  · dsimp only
    split
    · exact slots _ _ _ (arms _ _ h)
    · exact slots _ _ _ h

theorem reportSample_keeps (c : Channel) (sm : Sample) (twin relocated : Bool) {s : State}
    (h : P s) : P (reportSample c sm twin relocated s) := by
  unfold reportSample handMotion
  dsimp only
  split
  · exact records _ _ (queues _ _ (slots _ _ _ h))
  · exact queues _ _ (slots _ _ _ h)

theorem handDueTool_keeps (due : Bool) (c : Channel) {s : State} (h : P s) :
    P (handDueTool due c s) := by
  unfold handDueTool
  split
  · exact queues _ _ h
  · exact h

theorem endProximity_keeps (c : Channel) (st : SlotState) {s : State} (h : P s) :
    P (endProximity c st s) := by
  unfold endProximity
  dsimp only
  split
  · exact slots _ _ _ (queues _ _ h)
  · exact slots _ _ _ h

theorem closeTrack_keeps (c : Channel) (sm : Option Sample) (twin due : Bool) {s : State}
    (h : P s) : P (closeTrack c sm twin due s) := by
  unfold closeTrack
  dsimp only
  split
  · exact endProximity_keeps records arms slots queues _ _ (slots _ _ _ h)
  · split
    · exact reportSample_keeps records arms slots queues _ _ _ _
        (handDueTool_keeps records arms slots queues _ _ (slots _ _ _ h))
    · exact handDueTool_keeps records arms slots queues _ _ (slots _ _ _ h)

theorem closeHit_keeps (c : Channel) (v : HitView) (twin due : Bool) {s : State} (h : P s) :
    P (closeHit c v twin due s) := by
  unfold closeHit closeConfirm enterTrack sampleSlot
  dsimp only
  split
  · exact closeTrack_keeps records arms slots queues _ _ _ _ (slots _ _ _ (slots _ _ _ h))
  · split
    · split
      · refine reportSample_keeps records arms slots queues _ _ _ _
          (handDueTool_keeps records arms slots queues _ _ (queues _ _ ?_))
        exact slots _ _ _ (slots _ _ _ (slots _ _ _ (slots _ _ _ (slots _ _ _ h))))
      · exact slots _ _ _ (slots _ _ _ h)
    · exact slots _ _ _ (slots _ _ _ h)
  · exact slots _ _ _ h

theorem closeMiss_keeps (c : Channel) (due : Bool) {s : State} (h : P s) :
    P (closeMiss c due s) := by
  unfold closeMiss
  split
  · exact closeTrack_keeps records arms slots queues _ _ _ _ h
  · exact slots _ _ _ h
  · exact h

theorem closePen_keeps (c : Channel) (w : WindowRec) (p : Option Nat) {s : State} (h : P s) :
    P (closePen c w p s) := by
  have twinned (twin : Bool) : P (if twin then recordFault .twin (disarmTipMiss c s)
      else disarmTipMiss c s) := by
    split
    · exact records _ _ (arms _ _ h)
    · exact arms _ _ h
  have taken (bit : Option Bool) (twin : Bool) :=
    takeTool_keeps records arms slots queues c
      (handBit c bit (if twin then recordFault .twin (disarmTipMiss c s)
        else disarmTipMiss c s)).2
      (handBit_keeps records arms slots queues c bit (twinned twin))
  unfold closePen
  dsimp only
  split
  · exact closeHit_keeps records arms slots queues _ _ _ _ (taken _ _)
  · exact closeMiss_keeps records arms slots queues _ _ (taken _ _)

theorem closeSlot_keeps (s : State) (c : Channel) (h : P s) : P (closeSlot s c) := by
  have active : P (closeActive c s) := by
    unfold closeActive
    split
    · exact h
    · exact closePen_keeps records arms slots queues _ _ _ h
  unfold closeSlot
  split
  · exact h
  · unfold closeSearch
    split
    · exact h
    · exact slots _ _ _ h
  · exact active
  · exact active

theorem closeSlots_keeps {s : State} (h : P s) : P (closeSlots s) :=
  List.foldlRecOn (motive := P) Channel.all closeSlot h fun t kept c _ =>
    closeSlot_keeps records arms slots queues t c kept

end

theorem processClose_points (had : Bool) {s : State} (h : s.fmo.PointsAtSet) :
    (processClose had s).fmo.PointsAtSet :=
  closeSlots_keeps (P := fun t => t.fmo.PointsAtSet) (fun f _ => recordFault_points f)
    (fun _ _ h => h) (fun _ _ _ h => h) (fun _ _ h => h) (s := s.modRqu _) h

theorem closeFrame_points {s : State} (h : s.fmo.PointsAtSet) :
    (closeFrame s).fmo.PointsAtSet :=
  closeFrame_keeps (P := fun t => t.fmo.PointsAtSet) h (fun _ => raiseFault_points _)
    (fun _ _ h => processClose_points (s.rqu.queue.contains .alert) h) (fun _ h => h) (fun t h => by rwa [settleClose_fmo])
    fun t h => by rwa [carryOutStop_fmo]

theorem injectTrip_points (l : List Sheet) {s : State} (h : s.fmo.PointsAtSet) :
    (injectTrip l s).fmo.PointsAtSet :=
  injectTrip_keeps (P := fun t => t.fmo.PointsAtSet) l h h
    (fun l t h => raiseFault_points .driverTrip (s := l.foldl (setRun .unrun) t)
      (by rwa [foldl_setRun_fmo]))
    fun l t h => by rwa [goOn_fmo]

theorem startBursts_points (l : List Sheet) {s : State} (h : s.fmo.PointsAtSet) :
    (startBursts l s).fmo.PointsAtSet :=
  injectTrip_points _ (by simpa using h)

theorem openFrame_points {s : State} (h : s.fmo.PointsAtSet) :
    (openFrame s).fmo.PointsAtSet :=
  openFrame_keeps (P := fun t => t.fmo.PointsAtSet) h (fun _ => h) fun _ =>
    injectTrip_points _ (by simpa [openedFrame] using h)

theorem boundary_points {s : State} (h : s.fmo.PointsAtSet) : (boundary s).fmo.PointsAtSet :=
  boundary_keeps (P := fun t => t.fmo.PointsAtSet) (closeFrame_points h) fun _ =>
    openFrame_points (s := reloadTimer _) (closeFrame_points h)

theorem evaluateHalt_fmo (s : State) : (evaluateHalt s).fmo = s.fmo :=
  evaluateHalt_keeps (P := fun t => t.fmo = s.fmo) (haltIfHeld_fmo s) fun _ h => h

theorem Ruled.points {s u : State} (r : Ruled s u) (h : s.fmo.PointsAtSet) :
    u.fmo.PointsAtSet := by
  cases r
  case start =>
    unfold applyStart
    split
    · exact openFrame_points (s := (reloadTimer _).setFts _) h
    · exact h
    · exact h
  case stop =>
    unfold applyStop
    dsimp only
    split <;> exact h
  case tool => simpa [loadTool] using h
  case drop => simpa [dropTool] using h
  case snapshot => exact openSnapshot_points h
  case clear cleared =>
    exact applyClear_keeps (P := fun t => t.fmo.PointsAtSet) cleared (clearStatuses_points _ h)
      fun t h => by rwa [evaluateHalt_fmo]
  case policy mask halt =>
    unfold applyPolicy
    rw [evaluateHalt_fmo]
    exact setPolicy_points mask halt h
  all_goals exact h

theorem Effect.points {s u : State} (e : Effect s u) (h : s.fmo.PointsAtSet) :
    u.fmo.PointsAtSet := by
  cases e
  case resetAsserted | resetReleased | commandReset =>
    intro f named
    exact absurd named (by simp [State.resetBlocks, resetFmo])
  case received b =>
    exact receive_keeps (P := fun t => t.fmo.PointsAtSet) (fun _ _ _ h => h)
      (fun f _ => raiseFault_points f) b h
  case framerGap | lockEnded | acquisitionEnded => exact raiseFault_points _ h
  case answered ruled _ _ => exact ruled.points h
  case transmitted =>
    exact freeTransmitter_keeps (P := fun t => t.fmo.PointsAtSet) h fun _ h => h
  case bounded => exact boundary_points h
  case edgeCaptured =>
    exact captureFsync_keeps (P := fun t => t.fmo.PointsAtSet) h (fun _ => raiseFault_points _)
      (fun _ _ h => h) fun _ => boundary_points
  case excited => exact foldl_keeps State.fmo _ placeListening_fmo _ s ▸ h
  case listened => exact foldl_keeps State.fmo _ (setEngineState_fmo _ _) _ s ▸ h
  case completed => exact startBursts_points _ (by simpa using h)
  case overcurrent sh _ =>
    exact overcurrent_keeps (P := fun t => t.fmo.PointsAtSet) sh
      (raiseFault_points _ (by simpa using h)) fun l _ _ => startBursts_points l
  all_goals exact h

/-! ### The link's lists (R176, R179, R180) -/

/-- `LinkBounded` of the link alone. -/
structure Lnk.Bounded (l : Lnk) : Prop where
  buffer : l.buffer.length ≤ 4
  replies : l.replies.length ≤ 2
  length : l.framer.length ≤ 200
  payload : l.framer.st = .payload → l.framer.payload.length < l.framer.length
  gap : l.framer.gap.isSome = true ↔ l.framer.st ≠ .hunt

theorem linkBounded_iff (s : State) : LinkBounded s ↔ s.lnk.Bounded :=
  ⟨fun ⟨h1, h2, h3, h4, h5⟩ => ⟨h1, h2, h3, h4, h5⟩,
    fun ⟨h1, h2, h3, h4, h5⟩ => ⟨h1, h2, h3, h4, h5⟩⟩

theorem Lnk.Bounded.discardFrame {l : Lnk} (h : l.Bounded) :
    ({ l with framer := idleFramer } : Lnk).Bounded :=
  ⟨h.buffer, h.replies, Nat.zero_le _, nofun, by simp [idleFramer]⟩

theorem bufferCommand_bounded (kind tag : Byte) (p : List Byte) {s : State}
    (h : s.lnk.Bounded) : (bufferCommand kind tag p s).lnk.Bounded := by
  have buffered (c : Command) (room : ¬ Config.bufferSize ≤ s.lnk.buffer.length) :
      ({ s.lnk with buffer := s.lnk.buffer ++ [c] } : Lnk).Bounded := by
    refine ⟨?_, h.replies, h.length, h.payload, h.gap⟩
    simpa [Config.bufferSize] using room
  unfold bufferCommand
  dsimp only
  split
  next => simpa using h
  next room =>
    split
    · rw [raiseFault_lnk]; exact buffered _ room
    · exact buffered _ room

theorem receive_bounded (b : Byte) {s : State} (h : s.lnk.Bounded) :
    (receive b s).lnk.Bounded := by
  obtain ⟨buffer, replies, length, payload, gap⟩ := h
  have discarded := Lnk.Bounded.discardFrame ⟨buffer, replies, length, payload, gap⟩
  unfold receive
  dsimp only
  split
  case h_1 hunt =>
    refine ⟨buffer, replies, ?_, ?_, ?_⟩
    all_goals
      simp only [State.setFramer, State.setLnk_lnk, huntByte]
      split
    all_goals simp_all [idleFramer]
  case h_2 =>
    unfold lengthByte
    split
    next fits => exact ⟨buffer, replies, fits, nofun, by simp [State.setFramer]⟩
    next => rw [raiseFault_lnk]; exact discarded
  case h_3 => exact ⟨buffer, replies, length, nofun, by simp [State.setFramer]⟩
  case h_4 =>
    refine ⟨buffer, replies, length, ?_, ?_⟩
    · simp only [State.setFramer, State.setLnk_lnk]
      split
      · simp
      · simp; omega
    · simp only [State.setFramer, State.setLnk_lnk]
      split <;> simp
  case h_5 =>
    refine ⟨buffer, replies, length, ?_, ?_⟩
    · simp only [State.setFramer, State.setLnk_lnk, payloadByte]
      split
      · simp
      next short => simpa using short
    · simp only [State.setFramer, State.setLnk_lnk, payloadByte]
      split <;> simp
  case h_6 => exact ⟨buffer, replies, length, nofun, by simp [State.setFramer]⟩
  case h_7 =>
    unfold completeFrame
    dsimp only
    split
    · exact bufferCommand_bounded _ _ _ discarded
    · rw [raiseFault_lnk]; exact discarded

/-- A command taken makes room for its reply (R180). -/
theorem Lnk.Bounded.replied {s u : State} {c : Command} {rest : List Command} (h : s.lnk.Bounded)
    (free : s.canTake = true) (head : s.lnk.buffer = c :: rest) (same : u.lnk = (taken rest s).lnk)
    (r : Reply) : (Machine.replied r u).lnk.Bounded := by
  obtain ⟨buffer, replies, length, payload, gap⟩ := h
  have few : s.lnk.replies.length < 2 := by
    simp only [State.canTake, Bool.and_eq_true, decide_eq_true_eq] at free
    exact free.2
  have shorter : rest.length ≤ 4 := by
    simp only [head, List.length_cons] at buffer
    omega
  constructor <;> simp only [Machine.replied, same]
  case buffer => exact shorter
  case replies =>
    rw [List.length_append]
    exact few
  case length => exact length
  case payload => exact payload
  case gap => exact gap

theorem Effect.linkBounded {s u : State} (e : Effect s u) (h : s.lnk.Bounded) :
    u.lnk.Bounded := by
  cases e
  case resetAsserted | resetReleased | commandReset =>
    exact ⟨by simp [State.resetBlocks, State.setLnk, resetLnk],
      by simp [State.resetBlocks, State.setLnk, resetLnk], Nat.zero_le _, nofun,
      by simp [State.resetBlocks, State.setLnk, resetLnk, idleFramer]⟩
  case received b => exact receive_bounded b h
  case framerGap => rw [raiseFault_lnk]; exact h.discardFrame
  case lockEnded | acquisitionEnded => rw [raiseFault_lnk]; exact h
  case answered r free head ruled _ _ => exact h.replied free head ruled.lnk.1 r
  case resetTaken free head => exact h.replied free head rfl _
  case transmitted =>
    exact freeTransmitter_keeps (P := fun t => t.lnk.Bounded)
      ⟨h.buffer, h.replies, h.length, h.payload, h.gap⟩ fun _ h => h
  case bounded => exact lnk_of_unscanned (boundary_unscanned s) ▸ h
  case edgeCaptured => exact lnk_of_unscanned (captureFsync_unscanned s) ▸ h
  case excited => exact foldl_keeps State.lnk _ placeListening_lnk _ s ▸ h
  case listened => exact foldl_keeps State.lnk _ (setEngineState_lnk _ _) _ s ▸ h
  case completed sh b r _ _ => exact lnk_of_unscanned (completeBurst_unscanned s sh b r) ▸ h
  case overcurrent sh _ => exact lnk_of_unscanned (overcurrent_unscanned s sh) ▸ h
  all_goals exact h

theorem arbitrate_linkBounded {s : State} (h : s.lnk.Bounded) : (arbitrate s).lnk.Bounded := by
  refine ⟨by simpa using h.buffer, ?_, by simpa using h.length, by simpa using h.payload,
    by simpa using h.gap⟩
  obtain same | ⟨r, shorter⟩ := arbitrate_replies s
  · rw [same]; exact h.replies
  · have := h.replies
    simp only [shorter, List.length_cons] at this
    omega

theorem tick_linkBounded {s : State} (h : s.lnk.Bounded) : (tick s).lnk.Bounded :=
  ⟨h.buffer, h.replies, h.length, h.payload, by simpa [tick, tickLnk] using h.gap⟩

end Sys2Proof.Machine

namespace Sys2Proof.Proofs

open Sys2Proof.Machine

/-- Settles O57, each of its three invariants by the effects of a step (`step_keeps`). -/
theorem stepKeepsTablesBounded : Obligations.StepKeepsTablesBounded := by
  intro s t run
  refine ⟨fun h => ?table, fun h => ?pointer, fun h => ?link⟩
  case table =>
    exact step_keeps (P := fun s => TableLegal s.ptb) (fun _ _ _ h => h) (fun _ h => h)
      (fun s h => by rwa [arbitrate_ptb]) (fun _ _ e => e.tableLegal) h run
  case pointer =>
    exact step_keeps (P := fun s => s.fmo.PointsAtSet) (fun _ _ _ h => h) (fun _ h => h)
      (fun s h => by rwa [arbitrate_fmo]) (fun _ _ e => e.points) h run
  case link =>
    exact (linkBounded_iff t).mpr (step_keeps (P := fun s => s.lnk.Bounded) (fun _ _ _ h => h)
      (fun _ => tick_linkBounded) (fun _ => arbitrate_linkBounded) (fun _ _ e => e.linkBounded)
      ((linkBounded_iff s).mp h) run)

end Sys2Proof.Proofs
end

section
/-! PROOFS. For the statements about slots and queue: what every effect keeps that the tracker's own
operations keep, and what the close of a frame does to one slot and to the queue. -/

namespace Sys2Proof.Machine

/-! ### What the tracker's own operations keep, every effect keeps -/

/-- The slots and what is kept with them: the enable set, the Profile Table, the waiting reports, the
settings of tracker and decoder, and the scan state. -/
structure TrackView where
  slots : PerChannel Slot
  enabled : PerChannel Bool
  ptb : Ptb
  queue : List Entry
  active : ScanSettings
  staged : Staged
  word : WordSettings
  scan : ScanState

def State.tracking (s : State) : TrackView :=
  ⟨s.ptr.slots, s.ptr.enabled, s.ptb, s.rqu.queue, s.bpl.active, s.bpl.staged, s.wdc, s.fts.scan⟩

theorem slot_of_tracking {s t : State} (same : t.tracking = s.tracking) (c : Channel) :
    t.slot c = s.slot c :=
  congrArg (fun v => v.slots.get c) same

/-- No slot holds a pen or a candidate. -/
def State.slotsQuiet (s : State) : Prop := ∀ c, (s.slot c).state.active = false

/-- The property rests on the slots and what is kept with them, and the tracker's own operations, the
commands about settings and records, and a scan state that stands over quiet slots keep it. -/
structure KeptByTracker (P : State → Prop) : Prop where
  same : ∀ {s t : State}, t.tracking = s.tracking → P s → P t
  rescan : ∀ {s : State} (f : Fts),
    f.scan = .running ∨ s.fts.scan ≠ .running ∨ s.slotsQuiet → P s → P (s.setFts f)
  alert : ∀ {s : State}, P s → P (s.modRqu (·.handAlert))
  clear : ∀ {s : State} (c : Channel), P s → P (clearSlot s c)
  close : ∀ {s : State} (c : Channel), s.fts.scan = .running → P s → P (closeSlot s c)
  settle : ∀ {s : State} (had : Bool) (k : Nat), P s → P (s.modRqu (settleAlert had k))
  takeUp : ∀ {s : State}, s.fts.scan = .running → P s → P (takeUp s)
  stageScan : ∀ {s : State} (r : ScanSettings), r.legal = true → P s →
    P (s.setBpl { s.bpl with staged := { s.bpl.staged with scan := some r } })
  stageWord : ∀ {s : State} (r : WordSettings), r.legal = true → P s →
    P (s.setBpl { s.bpl with staged := { s.bpl.staged with word := some r } })
  stageEnable : ∀ {s : State} (set : Option (PerChannel Bool)) (releases : PerChannel Bool), P s →
    P (s.setBpl { s.bpl with
      staged := { s.bpl.staged with enable := set, releases := releases } })
  loadTool : ∀ {s : State} (id : Nat) (r : Profile), P s → P (loadTool id r s)
  loadDefault : ∀ {s : State} (c : Channel) (r : Profile), P s → P (loadDefault c r s)
  dropTool : ∀ {s : State} (id : Nat), P s → P (dropTool id s)

theorem clearSlots_setFts (s : State) (f : Fts) :
    clearSlots (s.setFts f) = (clearSlots s).setFts f := by
  have one (t : State) (c : Channel) : clearSlot (t.setFts f) c = (clearSlot t c).setFts f := by
    unfold clearSlot
    rw [State.slot_setFts]
    split
    · unfold endProximity
      dsimp only
      rw [State.slot_setFts]
      split <;> rfl
    · rfl
  simp only [clearSlots, Channel.all, List.foldl_cons, List.foldl_nil, one]

namespace KeptByTracker

variable {P : State → Prop} (k : KeptByTracker P) {s : State}
include k

theorem clearSlots (h : P s) : P (clearSlots s) :=
  List.foldlRecOn (motive := P) Channel.all clearSlot h fun _ kept c _ => k.clear c kept

theorem enterHalt (h : P s) : P (enterHalt s) := by
  have cleared : P (Machine.clearSlots (discardFrame s)) :=
    k.clearSlots (k.same (s := s) rfl h)
  unfold Machine.enterHalt
  dsimp only
  split
  · exact k.rescan _ (.inr (.inr (clearSlots_quiet _))) cleared
  · exact k.rescan _ (.inr (.inr (clearSlots_quiet _))) cleared

theorem haltIfHeld (h : P s) : P (haltIfHeld s) := by
  unfold Machine.haltIfHeld
  split
  · exact k.enterHalt h
  · exact h

theorem evaluateHalt (h : P s) : P (evaluateHalt s) :=
  evaluateHalt_keeps (k.haltIfHeld h) fun _ => k.rescan _ (.inl rfl)

theorem recordFault (f : FaultId) (h : P s) : P (recordFault f s) := by
  unfold Machine.recordFault
  split
  · exact k.same (s := s) rfl h
  · exact k.alert (k.same (s := s) rfl h)

theorem raiseFault (f : FaultId) (h : P s) : P (raiseFault f s) := by
  rw [raiseFault_eq]
  split
  · exact k.recordFault f h
  · exact k.haltIfHeld (k.recordFault f h)

theorem tripBurst (l : List Sheet) (h : P s) : P (tripBurst l s) :=
  k.raiseFault _ (k.same (s := s) (by simp [State.tracking]) h)

theorem injectTrip (l : List Sheet) (h : P s) : P (injectTrip l s) :=
  injectTrip_keeps l h (k.same (s := s) rfl h) (fun l _ => k.tripBurst l)
    fun l t h => k.same (s := t) (by simp [State.tracking]) h

theorem startBursts (l : List Sheet) (h : P s) : P (startBursts l s) :=
  k.injectTrip _ (k.same (s := s) (by simp [State.tracking]) h)

theorem openFrame (h : P s) : P (openFrame s) :=
  openFrame_keeps h (fun _ => k.same (s := s) rfl h) fun running =>
    k.injectTrip _ (k.same (s := openedFrame s) (by simp [State.tracking])
      (k.takeUp (s := s.setFts _) running (k.same (s := s) rfl h)))

theorem carryOutStop (h : P s) : P (carryOutStop s) := by
  unfold Machine.carryOutStop
  split
  · have stopped : P (Machine.clearSlots (stopScanning s)) := by
      rw [stopScanning, clearSlots_setFts]
      exact k.rescan _ (.inr (.inr (clearSlots_quiet _))) (k.clearSlots h)
    exact k.same (s := Machine.clearSlots (stopScanning s))
      (by simp [State.tracking, clearForStop, Channel.all]) stopped
  · exact h

theorem settleClose (h : P s) : P (settleClose s) :=
  settleClose_keeps h (fun t h => k.same (s := t) rfl h) (fun _ => k.haltIfHeld)
    fun _ => k.carryOutStop

theorem processClose (had : Bool) (running : s.fts.scan = .running) (h : P s) :
    P (processClose had s) := by
  have closed : P (closeSlots (s.modRqu fun r => { r with fresh := some 0 })) := by
    refine (List.foldlRecOn (motive := fun t => t.fts.scan = .running ∧ P t) Channel.all closeSlot
      (b := s.modRqu fun r => { r with fresh := some 0 })
      ⟨running, k.same (s := s) rfl h⟩ fun t kept c _ => ?_).2
    obtain ⟨running, kept⟩ := kept
    exact ⟨by rwa [closeSlot_fts], k.close c running kept⟩
  exact k.settle _ _ (k.same (s := closeSlots (s.modRqu fun r => { r with fresh := some 0 }))
    rfl closed)

theorem discardFrame (h : P s) : P (discardFrame s) := k.same (s := s) rfl h

theorem closeFrame (h : P s) : P (closeFrame s) := by
  refine closeFrame_keeps (k.same (s := s) rfl h) (fun _ => k.raiseFault _)
    (fun t handed h => ?_) (fun _ => k.discardFrame) (fun _ => k.settleClose)
    fun _ => k.carryOutStop
  simp only [handedOver, Bool.and_eq_true, decide_eq_true_eq] at handed
  exact k.discardFrame (k.processClose _ handed.2 h)

theorem boundary (h : P s) : P (boundary s) :=
  boundary_keeps (k.closeFrame h) fun _ =>
    k.openFrame (k.same (s := Machine.closeFrame s) rfl (k.closeFrame h))

theorem judgeEdge (h : P s) : P (s.setFts (judgeEdge s.fts)) :=
  k.same (s := s) (by simp [State.tracking, (judgeEdge_keeps s.fts).1]) h

theorem captureFsync (h : P s) : P (captureFsync s) :=
  captureFsync_keeps (k.judgeEdge h) (fun _ => k.raiseFault _)
    (fun t _ h => k.same (s := t) rfl h) fun _ => k.boundary

theorem receive (b : Byte) (h : P s) : P (receive b s) :=
  receive_keeps (fun t _ _ h => k.same (s := t) rfl h) (fun f _ => k.raiseFault f) b h

theorem applyStart (h : P s) : P (applyStart s) := by
  unfold Machine.applyStart
  split
  · exact k.openFrame (s := (reloadTimer (s.setCfe _)).setFts _) (k.rescan
      (s := reloadTimer (s.setCfe _)) _
      (.inr (.inl (by simp [reloadTimer, *]))) (k.same (s := s) rfl h))
  · exact k.same (s := s) rfl h
  · exact h

theorem applyStop (h : P s) : P (applyStop s) := by
  unfold Machine.applyStop
  dsimp only
  split
  · exact k.same (s := s) rfl h
  · exact k.same (s := s) rfl h
  next halted =>
    exact k.rescan (s := s.setFmo _) _ (.inr (.inl (by rw [halted]; nofun))) (k.same (s := s) rfl h)

theorem ruled {u : State} (r : Ruled s u) (h : P s) : P u := by
  cases r
  case scan p fits =>
    refine k.stageScan (s := s.setFts { s.fts with latch := u16At p 0 }) _ ?_
      (k.same (s := s) rfl h)
    simp only [scanFits, Bool.and_eq_true] at fits
    obtain ⟨⟨⟨⟨⟨⟨_, detectMin⟩, confirm⟩, missWindow⟩, missLimit⟩, jump⟩, _⟩ := fits
    simp [ScanSettings.legal, detectMin, confirm, missWindow, missLimit, jump]
  case word r legal => exact k.stageWord r legal h
  case enable | release => exact k.stageEnable _ _ h
  case start => exact k.applyStart h
  case stop => exact k.applyStop h
  case tool id r _ _ _ => exact k.loadTool id r h
  case default c r _ => exact k.loadDefault c r h
  case drop id => exact k.dropTool id h
  case clear cleared =>
    exact applyClear_keeps cleared (k.same (s := s) rfl h) fun _ => k.evaluateHalt
  case policy => exact k.evaluateHalt (k.same (s := s) rfl h)
  all_goals exact k.same (s := s) rfl h

end KeptByTracker

/-- The state is a row's and begins every block anew. -/
inductive Restart (s : State) : State → Prop
  | asserted : Restart s (s.resetBlocks { s.pins with resetLow := true } s.cfe.layout [])
  | released (low : s.pins.resetLow = true) (l : Layout) (fast : Bool) :
      Restart s (s.resetBlocks ⟨false, l, fast, .pin⟩ l [announceEntry l .pin])
  | commanded (due : s.cpr = .resetDue) :
      Restart s ((s.resetBlocks { s.pins with cause := .command } s.cfe.layout
        [announceEntry s.cfe.layout .command]).setLnk { resetLnk with quiet := s.lnk.quiet })

/-- An effect is a reset, or keeps what the tracker's operations keep. -/
theorem Effect.restarts_or_keeps {P : State → Prop} (k : KeptByTracker P) {s u : State}
    (e : Effect s u) (h : P s) : Restart s u ∨ P u := by
  cases e
  case resetAsserted => exact .inl .asserted
  case resetReleased low l fast => exact .inl (.released low l fast)
  case commandReset due => exact .inl (.commanded due)
  case received b => exact .inr (k.receive b h)
  case framerGap | lockEnded | acquisitionEnded =>
    exact .inr (k.raiseFault _ (k.same (s := s) rfl h))
  case answered v r _ _ ruled _ _ =>
    exact .inr (k.same (s := v) rfl (k.ruled ruled (k.same (s := s) rfl h)))
  case transmitted =>
    exact .inr (freeTransmitter_keeps (k.same (s := s) rfl h) fun t h => k.same (s := t) rfl h)
  case bounded => exact .inr (k.boundary h)
  case edgeCaptured => exact .inr (k.captureFsync h)
  case excited =>
    exact .inr (k.same (s := s)
      (foldl_keeps State.tracking _ (fun s sh => by simp [State.tracking]) _ s) h)
  case listened =>
    exact .inr (k.same (s := s)
      (foldl_keeps State.tracking _ (fun s sh => by simp [State.tracking]) _ s) h)
  case completed =>
    exact .inr (k.startBursts _ (k.same (s := s) (by simp [State.tracking]) h))
  case overcurrent sh _ =>
    exact .inr (overcurrent_keeps sh (k.tripBurst _ h) fun l _ _ => k.startBursts l)
  all_goals exact .inr (k.same (s := s) rfl h)

end Sys2Proof.Machine
end

section
/-! PROOFS. What the close of a frame does to one slot and to the queue, case by case (R59 to R73): for
the invariants of slots and queue. -/

namespace Sys2Proof.Machine

/-! ### The fields of a slot that its state rests on -/

/-- What a slot holds but for its place, its last position, its sample's held state and the REALIGNED
mark. -/
structure SlotCore where
  state : SlotState
  confirm : Nat
  misses : List Bool
  pendingRel : Option Relocation
  prox : Bool
  toolId : Option Nat
  bound : Option Nat
  word : Option WordRec

def Slot.core (sl : Slot) : SlotCore :=
  ⟨sl.state, sl.confirm, sl.misses, sl.pendingRel, sl.prox, sl.toolId, sl.bound,
    sl.word.map fun w => { w with realigned := false }⟩

theorem recentre_core (pk : Peaks) (sl : Slot) : (recentre pk sl).core = sl.core := rfl

theorem holdSample_core (pr : Profile) (sl : Slot) (v : HitView) (sm : Sample) :
    (holdSample pr sl v sm).core = sl.core := rfl

theorem reportedSlot_core (sm : Sample) (sl : Slot) : (reportedSlot sm sl).core = sl.core := by
  simp [Slot.core, reportedSlot, Function.comp_def]

theorem Slot.core_state {a b : Slot} (same : a.core = b.core) : a.state = b.state :=
  congrArg SlotCore.state same

theorem Slot.core_prox {a b : Slot} (same : a.core = b.core) : a.prox = b.prox :=
  congrArg SlotCore.prox same

/-! ### What is handed for one channel -/

/-- The queue after reports of channel `c`, its tool ID and ALERTs have been handed to it. -/
inductive Handed (c : Channel) (r : Rqu) : Rqu → Prop
  | refl : Handed c r r
  | alert {q : Rqu} : Handed c r q → Handed c r q.handAlert
  | tool {q : Rqu} (id : Nat) (bound : Option Nat) : Handed c r q → Handed c r (q.handTool c id bound)
  | motion {q : Rqu} (m : Motion) (own : m.ch = c) : Handed c r q → Handed c r (q.handMotion m).1

theorem handDueTool_handed {c : Channel} {r : Rqu} {s : State} (due : Bool)
    (h : Handed c r s.rqu) : Handed c r (handDueTool due c s).rqu := by
  unfold handDueTool
  split
  · exact h.tool _ _
  · exact h

theorem reportSample_handed {c : Channel} {r : Rqu} {s : State} (sm : Sample)
    (twin relocated : Bool) (h : Handed c r s.rqu) :
    Handed c r (reportSample c sm twin relocated s).rqu := by
  rw [(reportSample_rqu c sm twin relocated s).1]
  split
  · exact (h.motion (motionOf c _ _ _ _ _) rfl).alert
  · exact h.motion (motionOf c _ _ _ _ _) rfl

theorem enterTrack_handed (c : Channel) (v : HitView) (twin due : Bool) {s : State} {r : Rqu}
    (rqu : s.rqu = r) : Handed c (r.handIn c) (enterTrack c v twin due s).rqu := by
  refine reportSample_handed _ _ _ (handDueTool_handed _ ?_)
  simp only [State.modRqu, State.setRqu_rqu, State.setSlot_rqu, sampleSlot_rqu, rqu]
  exact .refl

theorem enterTrack_core (c : Channel) (v : HitView) (twin due : Bool) (s : State) :
    ((enterTrack c v twin due s).slot c).core
      = { s.slot c with state := .track, misses := [false], prox := true }.core := by
  unfold enterTrack
  dsimp only
  rw [reportSample_slot, if_pos rfl, reportedSlot_core]
  simp [Slot.core, holdSample, beginProximity]

/-! ### The close of a slot in CONFIRM or TRACK -/

/-- What steps 4 and 5 make of a slot `sl` and of the queue `r` (R64 to R72). -/
inductive PenClose (set : ScanSettings) (c : Channel) (sl : Slot) (r : Rqu) : Slot → Rqu → Prop
  | dropped {u : Slot} (state : sl.state = .confirm) (core : u.core = (dropConfirm sl).core) :
      PenClose set c sl r u r
  | counted {u : Slot} (state : sl.state = .confirm) (few : sl.confirm + 1 < set.confirm)
      (core : u.core = { sl with confirm := sl.confirm + 1 }.core) : PenClose set c sl r u r
  | entered {u : Slot} {q : Rqu} (state : sl.state = .confirm)
      (core : u.core = { sl with
        state := .track, confirm := sl.confirm + 1, misses := [false], prox := true }.core)
      (handed : Handed c (r.handIn c) q) : PenClose set c sl r u q
  | lost {u : Slot} (state : sl.state = .track) (core : u.core = (endedSlot .search sl).core) :
      PenClose set c sl r u (if sl.prox then r.handOut c else r)
  | followed {u : Slot} {q : Rqu} (state : sl.state = .track) (misses : List Bool)
      (p : Option Relocation) (few : misses.length ≤ set.missWindow ∨ misses = sl.misses)
      (core : u.core = { sl with misses := misses, pendingRel := p }.core)
      (handed : Handed c r q) : PenClose set c sl r u q

theorem enterOutcomes_few (n : Nat) (entries misses : List Bool) :
    (enterOutcomes n entries misses).length ≤ n ∨ enterOutcomes n entries misses = misses := by
  cases entries with
  | nil => exact .inr rfl
  | cons e l => exact .inl (enterOutcomes_length_le _ _ _ (by simp))

section
variable {s : State} {c : Channel} {sl : Slot} {r : Rqu} (core : (s.slot c).core = sl.core)
  (rqu : s.rqu = r)
include core rqu

theorem closeTrack_closes (state : sl.state = .track) (sm : Option Sample) (twin due : Bool) :
    PenClose s.bpl.active c sl r ((closeTrack c sm twin due s).slot c)
      (closeTrack c sm twin due s).rqu := by
  subst rqu
  have moved (u : List Bool) (p : Option Relocation) :
      ({ s.slot c with misses := u, pendingRel := p } : Slot).core
        = ({ sl with misses := u, pendingRel := p } : Slot).core := by
    simp only [Slot.core, SlotCore.mk.injEq] at core
    simp [Slot.core, core]
  have misses : (s.slot c).misses = sl.misses := congrArg SlotCore.misses core
  unfold closeTrack
  dsimp only
  generalize (resolve s.bpl.active.jump s.fts.frameNo ((s.slot c).lastX, (s.slot c).lastY)
    (s.slot c).pendingRel (sm.map fun m => (m.rawX, m.rawY))) = o
  have few := enterOutcomes_few s.bpl.active.missWindow o.entries (s.slot c).misses
  generalize enterOutcomes s.bpl.active.missWindow o.entries (s.slot c).misses = u at few
  rw [misses] at few
  split
  · rw [endProximity_slot, endProximity_rqu, State.slot_setSlot, if_pos rfl, if_pos rfl,
      State.setSlot_rqu, show ({ s.slot c with misses := u, pendingRel := o.pendingRel } : Slot).prox
        = sl.prox from Slot.core_prox (a := s.slot c) core]
    exact .lost state rfl
  · split
    · refine .followed state u o.pendingRel few ?_
        (reportSample_handed _ _ _ (handDueTool_handed _ .refl))
      simp only [reportSample_slot, handDueTool_slot, State.slot_setSlot, if_true,
        reportedSlot_core]
      exact moved u o.pendingRel
    · refine .followed state u o.pendingRel few ?_ (handDueTool_handed _ .refl)
      simp only [handDueTool_slot, State.slot_setSlot, if_true]
      exact moved u o.pendingRel

theorem dropConfirm_closes (state : sl.state = .confirm) :
    PenClose s.bpl.active c sl r ((s.setSlot c (dropConfirm (s.slot c))).slot c)
      (s.setSlot c (dropConfirm (s.slot c))).rqu := by
  subst rqu
  rw [State.slot_setSlot, if_pos rfl]
  refine .dropped state ?_
  simp only [Slot.core, SlotCore.mk.injEq] at core
  simp [Slot.core, dropConfirm, core]

theorem closeMiss_closes (active : sl.state.active = true) (due : Bool) :
    PenClose s.bpl.active c sl r ((closeMiss c due s).slot c) (closeMiss c due s).rqu := by
  have same := Slot.core_state core
  unfold closeMiss
  split
  next state => exact closeTrack_closes core rqu (same.symm.trans state) none false due
  next state => exact dropConfirm_closes core rqu (same.symm.trans state)
  next confirm track =>
    rw [same] at confirm track
    cases state : sl.state <;> simp_all [SlotState.active]

theorem closeConfirm_closes (state : sl.state = .confirm) (v : HitView) (twin due : Bool) :
    PenClose s.bpl.active c sl r ((closeConfirm c v twin due s).slot c)
      (closeConfirm c v twin due s).rqu := by
  unfold closeConfirm
  dsimp only
  split
  · split
    · subst rqu
      refine .entered state ?_ (enterTrack_handed c v twin due (State.setSlot_rqu ..))
      simp only [Slot.core, SlotCore.mk.injEq] at core
      rw [enterTrack_core, State.slot_setSlot, if_pos rfl]
      simp [Slot.core, core]
    next few =>
      subst rqu
      rw [State.slot_setSlot, if_pos rfl]
      simp only [Slot.core, SlotCore.mk.injEq] at core
      refine .counted state (by omega) ?_
      simp [Slot.core, core]
  · exact dropConfirm_closes core rqu state

end

theorem closeHit_closes {s : State} {c : Channel} (v : HitView) (twin due : Bool)
    (active : (s.slot c).state.active = true) :
    PenClose s.bpl.active c (s.slot c) s.rqu ((closeHit c v twin due s).slot c)
      (closeHit c v twin due s).rqu := by
  have centred : (s.setSlot c (recentre v.peaks (s.slot c))).slot c
      = recentre v.peaks (s.slot c) := by simp
  unfold closeHit
  dsimp only
  rw [centred]
  split
  next state =>
    have sampled : ((sampleSlot c v (s.setSlot c (recentre v.peaks (s.slot c)))).1.slot c).core
        = (s.slot c).core := by
      rw [sampleSlot_slot, if_pos rfl, centred, holdSample_core, recentre_core]
    have closed := closeTrack_closes (r := s.rqu) sampled (by simp) state
      (some (sampleSlot c v (s.setSlot c (recentre v.peaks (s.slot c)))).2) twin due
    rwa [sampleSlot_bpl] at closed
  next state =>
    exact closeConfirm_closes (s := s.setSlot c (recentre v.peaks (s.slot c))) (sl := s.slot c)
      (by rw [centred, recentre_core]) rfl state v twin due
  next confirm track =>
    change (s.slot c).state = _ → _ at confirm track
    cases state : (s.slot c).state <;> simp_all [SlotState.active]

/-- A slot once its bit is handed, and a tool ID it validates taken (R62, R63). -/
def decodedSlot (ws : WordSettings) (t : Ptb) (bit : Option Bool) (sl : Slot) : Slot :=
  let new := (sl.word.bind fun w => (decodeBit ws bit w).2).filter fun id => sl.toolId ≠ some id
  { sl with
    word := sl.word.map fun w => (decodeBit ws bit w).1
    toolId := new.or sl.toolId
    bound := if new.isSome then boundOf t new else sl.bound }

/-- The close of one slot: nothing, a candidate taken, or what a TIP record brings a slot in CONFIRM
or TRACK (R59). -/
theorem closeSlot_cases (s : State) (c : Channel) :
    closeSlot s c = s
    ∨ (∃ pitch k, (s.slot c).state = .search
        ∧ closeSlot s c = s.setSlot c (confirmCandidate pitch k (s.slot c)))
    ∨ ∃ bit r, (s.slot c).state.active = true
        ∧ (r = s.rqu ∨ r = s.rqu.handAlert)
        ∧ PenClose s.bpl.active c (decodedSlot s.wdc s.ptb bit (s.slot c)) r
          ((closeSlot s c).slot c) (closeSlot s c).rqu := by
  have pen (active : (s.slot c).state.active = true) :
      closeActive c s = closeSlot s c := by
    unfold closeSlot
    cases state : (s.slot c).state <;> simp_all [SlotState.active]
  have skipped (active : (s.slot c).state.active = true)
      (none : tipRecord c s.ptr.records = none) : closeSlot s c = s := by
    rw [← pen active, closeActive, none]
  have delivered (active : (s.slot c).state.active = true) {w : WindowRec} {p : Option Nat}
      (tip : tipRecord c s.ptr.records = some (w, p)) :
      ∃ bit r, (s.slot c).state.active = true
        ∧ (r = s.rqu ∨ r = s.rqu.handAlert)
        ∧ PenClose s.bpl.active c (decodedSlot s.wdc s.ptb bit (s.slot c)) r
          ((closeSlot s c).slot c) (closeSlot s c).rqu := by
    obtain ⟨d, hit, miss, slot, rqu, -, ptb, -, -, bpl, wdc⟩ := closeSlot_pen c w p s tip active
    refine ⟨(collarBit (classifyTip c s w p)).map (· != s.fmo.armed.collarFlip.get c), d.rqu,
      active, ?_, ?_⟩
    · rw [rqu]
      split
      · exact .inr rfl
      · exact .inl rfl
    · have state : (d.slot c).state.active = true := by rw [slot]; exact active
      change d.slot c = decodedSlot s.wdc s.ptb _ (s.slot c) at slot
      rw [← slot, ← bpl]
      cases view : classifyTip c s w p with
      | none =>
        rw [miss view]
        exact closeMiss_closes rfl rfl state _
      | some v =>
        rw [hit v view]
        exact closeHit_closes v _ _ state
  cases state : (s.slot c).state with
  | idle => exact .inl (by simp [closeSlot, state])
  | search =>
    rw [closeSlot_of_search state]
    cases best : bestCandidate c s.cfe.threshold s.ptr.records with
    | none => exact .inl (by simp [closeSearch, best])
    | some k => exact .inr (.inl ⟨s.cfe.panel.pitch, k, rfl, by simp [closeSearch, best]⟩)
  | confirm | track =>
    have active : (s.slot c).state.active = true := by rw [state]; rfl
    cases tip : tipRecord c s.ptr.records with
    | none => exact .inl (skipped active tip)
    | some record =>
      rw [← state]
      exact .inr (.inr (delivered active tip))

end Sys2Proof.Machine
end

section
/-! PROOFS. O58: every step keeps the slots consistent and within their bounds. -/

namespace Sys2Proof.Machine

/-! ### A slot in CONFIRM cannot be aligned (R85, R86) -/

theorem searchAlignment_of_short (ws : WordSettings) {w : WordRec} (short : w.history.length ≤ 3) :
    searchAlignment ws w = { w with mimic := false } := by
  have none : matchedOffsets w.history = [] := by
    simp [matchedOffsets, List.filter_eq_nil_iff, matchedAt_short _ _ short]
  rw [searchAlignment, none]

theorem enterBit_history_length (bit : Option Bool) (w : WordRec) :
    (enterBit bit w).history.length = min 16 (w.history.length + 1) := by
  simp [enterBit, newest_length]

/-- With few entries in the history a bit aligns nothing, and validates no tool ID. -/
theorem decodeBit_of_short (ws : WordSettings) (bit : Option Bool) {w : WordRec}
    (unaligned : w.aligned = none) (short : w.history.length ≤ 2) :
    decodeBit ws bit w = ({ enterBit bit w with mimic := false }, none) := by
  have entered := enterBit_history_length bit w
  unfold decodeBit
  dsimp only
  rw [unaligned, searchAlignment_of_short ws (by omega)]

/-! ### The fields of a slot agree with its state -/

/-- `SlotConsistent` of the fields it rests on, for the enable set's bit and a Profile Table. -/
structure SlotCore.Fits (enabled : Bool) (t : Ptb) (k : SlotCore) : Prop where
  enabled : enabled = false ↔ k.state = .idle
  bound : k.bound = boundOf t k.toolId
  prox : k.prox = true ↔ k.state = .track
  word : k.word.isSome = k.state.active
  early : k.state = .confirm → k.confirm ≤ 2
    ∧ ∀ w, k.word = some w → w.aligned = none ∧ w.history.length ≤ k.confirm
  toolId : k.toolId ≠ none → k.state = .track
  pendingRel : k.pendingRel ≠ none → k.state = .track

theorem slotConsistent_iff (s : State) (c : Channel) :
    SlotConsistent s c ↔ (s.slot c).core.Fits (s.ptr.enabled.get c) s.ptb := by
  constructor
  · rintro ⟨enabled, bound, prox, word, early, toolId, pendingRel⟩
    refine ⟨enabled, bound, prox, ?_, fun confirm => ?_, toolId, pendingRel⟩
    · exact (Option.isSome_map ..).trans word
    · obtain ⟨count, short⟩ := early confirm
      refine ⟨count, fun w held => ?_⟩
      obtain ⟨v, there, rfl⟩ := Option.map_eq_some_iff.mp held
      exact short v there
  · rintro ⟨enabled, bound, prox, word, early, toolId, pendingRel⟩
    refine ⟨enabled, bound, prox, ?_, fun confirm => ?_, toolId, pendingRel⟩
    · exact (Option.isSome_map ..).symm.trans word
    · obtain ⟨count, short⟩ := early confirm
      exact ⟨count, fun w held => short { w with realigned := false } (by simp [Slot.core, held])⟩

section
variable {e : Bool} {t : Ptb} {sl : Slot}

/-- A slot whose proximity has ended fits SEARCH and IDLE (R71). -/
theorem endedSlot_fits {st : SlotState} (rest : st.active = false) (own : e = false ↔ st = .idle) :
    (endedSlot st sl).core.Fits e t := by
  refine ⟨own, rfl, ?_, rest.symm, ?_, nofun, nofun⟩
  all_goals
    cases st <;> simp_all [Slot.core, endedSlot, SlotState.active]

/-- A slot without a pen or candidate fits SEARCH and IDLE alike. -/
theorem SlotCore.Fits.rest (h : sl.core.Fits e t) (quiet : sl.state.active = false) {st : SlotState}
    (rest : st.active = false) {e' : Bool} (own : e' = false ↔ st = .idle) :
    ({ sl with state := st } : Slot).core.Fits e' t := by
  have not_track : sl.state ≠ .track := by
    intro track
    rw [track] at quiet
    exact absurd quiet (by decide)
  have not_tracking : st ≠ .track := by
    rintro rfl
    exact absurd rest (by decide)
  obtain ⟨-, bound, prox, word, -, toolId, pendingRel⟩ := h
  refine ⟨own, bound, ?_, word.trans (quiet.trans rest.symm), ?_, ?_, ?_⟩
  · exact ⟨fun held => absurd (prox.mp held) not_track, fun track => absurd track not_tracking⟩
  · rintro rfl
    exact absurd rest (by decide)
  · exact fun held => absurd (toolId held) not_track
  · exact fun held => absurd (pendingRel held) not_track

theorem SlotCore.Fits.enabled_of_active (h : sl.core.Fits e t) (active : sl.state.active = true) :
    e = true := by
  cases e with
  | true => rfl
  | false =>
    have idle : sl.state = .idle := h.enabled.mp rfl
    rw [idle] at active
    exact active

/-- A slot in SEARCH fits CONFIRM at its candidate, with a sub-record that has no bit yet (R65). -/
theorem confirmCandidate_fits (h : sl.core.Fits e t) (search : sl.state = .search) (pitch : Nat)
    (k : Candidate) : (confirmCandidate pitch k sl).core.Fits e t := by
  obtain ⟨enabled, bound, prox, word, early, toolId, pendingRel⟩ := h
  simp only [Slot.core, search] at enabled bound prox toolId
  constructor
  case bound => exact bound
  case early =>
    refine fun _ => ⟨Nat.zero_le _, fun w held => ?_⟩
    obtain rfl := Option.some_inj.mp held
    exact ⟨rfl, Nat.le_refl _⟩
  all_goals simp_all [Slot.core, confirmCandidate, SlotState.active]

/-- A slot in TRACK still fits once its bit and its tool ID are taken (R62, R63). -/
theorem decodedSlot_fits_track (h : sl.core.Fits e t) (track : sl.state = .track)
    (ws : WordSettings) (bit : Option Bool) : (decodedSlot ws t bit sl).core.Fits e t := by
  obtain ⟨enabled, bound, prox, word, early, toolId, pendingRel⟩ := h
  refine ⟨enabled, ?_, prox, ?_, ?_, fun _ => track, fun _ => track⟩
  · simp only [Slot.core, decodedSlot] at bound ⊢
    generalize (sl.word.bind fun w => (decodeBit ws bit w).2).filter _ = new
    cases new with
    | none => exact bound
    | some id => rfl
  · simpa [Slot.core, decodedSlot] using word
  · intro confirm
    exact absurd (track.symm.trans confirm) nofun

/-- A slot in CONFIRM takes its bit and nothing else (R62, R86). -/
theorem decodedSlot_of_confirm (h : sl.core.Fits e t) (confirm : sl.state = .confirm)
    (ws : WordSettings) (bit : Option Bool) : ∃ w : WordRec, w.aligned = none
      ∧ w.history.length ≤ sl.confirm + 1 ∧ decodedSlot ws t bit sl = { sl with word := some w } := by
  obtain ⟨-, bound, -, word, early, toolId, -⟩ := h
  obtain ⟨count, short⟩ := early confirm
  obtain ⟨w, held⟩ : ∃ w, sl.word = some w := by
    rw [← Option.isSome_iff_exists]
    simpa [Slot.core, confirm, SlotState.active] using word
  obtain ⟨unaligned, few⟩ := short _ (by simp [Slot.core, held]; rfl)
  have decoded := decodeBit_of_short ws bit (w := w) unaligned (few.trans count)
  refine ⟨{ enterBit bit w with mimic := false }, unaligned, ?_, ?_⟩
  · have entered := enterBit_history_length bit w
    change (enterBit bit w).history.length ≤ _
    change w.history.length ≤ sl.confirm at few
    omega
  · simp [decodedSlot, held, decoded]

/-- What a TIP record brings a slot in CONFIRM or TRACK leaves it consistent. -/
theorem PenClose.fits {set : ScanSettings} {c : Channel} {ws : WordSettings} {bit : Option Bool}
    {r q : Rqu} {u : Slot} (limit : set.confirm ≤ 3) (h : sl.core.Fits e t)
    (active : sl.state.active = true)
    (closed : PenClose set c (decodedSlot ws t bit sl) r u q) : u.core.Fits e t := by
  have enabled := h.enabled_of_active active
  subst enabled
  cases closed
  case lost track core =>
    rw [core]
    exact endedSlot_fits rfl (by simp)
  case followed track misses p few core handed =>
    obtain ⟨enabled, bound, prox, word, early, toolId, pendingRel⟩ :=
      decodedSlot_fits_track h track ws bit
    rw [core]
    exact ⟨enabled, bound, prox, word, early, toolId, fun _ => track⟩
  case dropped confirm core =>
    obtain ⟨w, unaligned, few, same⟩ := decodedSlot_of_confirm h confirm ws bit
    obtain ⟨enabled, bound, prox, word, early, toolId, pendingRel⟩ := h
    simp only [Slot.core, confirm] at enabled bound prox toolId pendingRel
    rw [core, same]
    constructor
    case bound => exact bound
    all_goals simp_all [Slot.core, dropConfirm, SlotState.active]
  case counted confirm few core =>
    obtain ⟨w, unaligned, short, same⟩ := decodedSlot_of_confirm h confirm ws bit
    obtain ⟨enabled, bound, prox, word, early, toolId, pendingRel⟩ := h
    rw [same] at few core
    change sl.state = .confirm at confirm
    rw [core]
    refine ⟨enabled, bound, prox, ?_, fun _ => ⟨?_, fun v held => ?_⟩, toolId, pendingRel⟩
    · simp [Slot.core, confirm, SlotState.active]
    · change sl.confirm + 1 ≤ 2
      change sl.confirm + 1 < set.confirm at few
      omega
    · obtain rfl := Option.some_inj.mp held
      exact ⟨unaligned, short⟩
  case entered confirm core handed =>
    obtain ⟨w, unaligned, short, same⟩ := decodedSlot_of_confirm h confirm ws bit
    obtain ⟨enabled, bound, prox, word, early, toolId, pendingRel⟩ := h
    rw [core, same]
    constructor
    case bound => exact bound
    all_goals simp [Slot.core, SlotState.active]

end

theorem closeSlot_fits {s : State} (limit : s.bpl.active.confirm ≤ 3) (c : Channel)
    (h : (s.slot c).core.Fits (s.ptr.enabled.get c) s.ptb) :
    ((closeSlot s c).slot c).core.Fits (s.ptr.enabled.get c) s.ptb := by
  obtain same | ⟨pitch, k, search, same⟩ | ⟨bit, r, active, -, closed⟩ := closeSlot_cases s c
  · rw [same]; exact h
  · rw [same, State.slot_setSlot, if_pos rfl]
    exact confirmCandidate_fits h search pitch k
  · exact closed.fits limit h active

/-! ### The take-up (R75, R76) -/

/-- A slot compared with its bit of the new channel enable set. -/
def enabledSlot (on : Bool) (sl : Slot) : Slot :=
  match sl.state, on with
  | .idle, true => { sl with state := .search }
  | .search, false => { sl with state := .idle }
  | .confirm, false => endedSlot .idle sl
  | .track, false => endedSlot .idle sl
  | _, _ => sl

theorem enableSlot_own (set : PerChannel Bool) (s : State) (c d : Channel) :
    (enableSlot set s c).slot d
      = if d = c then enabledSlot (set.get c) (s.slot c) else s.slot d := by
  rw [enableSlot_slot, ite_not]
  rfl

/-- Where each channel's own operation is its slot's alone, passing through the channels is that of
each. -/
theorem foldl_own_slot {f : State → Channel → State} {g : Channel → Slot → Slot}
    (own : ∀ s c d, (f s c).slot d = if d = c then g c (s.slot c) else s.slot d) (s : State)
    (d : Channel) : (Channel.all.foldl f s).slot d = g d (s.slot d) := by
  cases d <;> simp [Channel.all, own]

theorem takeEnable_slot (s : State) (c : Channel) : (takeEnable s).slot c
    = match s.bpl.staged.enable with
      | none => s.slot c
      | some set => enabledSlot (set.get c) (s.slot c) := by
  cases staged : s.bpl.staged.enable with
  | none => simp only [takeEnable, staged]
  | some set =>
    simp only [takeEnable, staged]
    exact foldl_own_slot (g := fun c => enabledSlot (set.get c)) (enableSlot_own set) _ c

theorem enabledSlot_fits {e : Bool} {t : Ptb} {sl : Slot} (h : sl.core.Fits e t) (on : Bool) :
    (enabledSlot on sl).core.Fits on t := by
  unfold enabledSlot
  split
  next idle => exact h.rest (by rw [idle]; rfl) rfl (by simp)
  next search => exact h.rest (by rw [search]; rfl) rfl (by simp)
  next => exact endedSlot_fits rfl (by simp)
  next => exact endedSlot_fits rfl (by simp)
  next idle search confirm track =>
    obtain ⟨-, bound, prox, word, early, toolId, pendingRel⟩ := h
    refine ⟨?_, bound, prox, word, early, toolId, pendingRel⟩
    change _ ↔ sl.state = .idle
    cases state : sl.state <;> simp_all

theorem releaseSlot_fits {s : State} {c d : Channel}
    (h : (s.slot d).core.Fits (s.ptr.enabled.get d) s.ptb) :
    ((releaseSlot s c).slot d).core.Fits (s.ptr.enabled.get d) s.ptb := by
  rw [releaseSlot_slot]
  split
  next own =>
    obtain ⟨rfl, active⟩ := own
    rw [h.enabled_of_active active]
    exact endedSlot_fits rfl (by simp)
  next => exact h

theorem takeUp_fits {s : State} (h : ∀ c, (s.slot c).core.Fits (s.ptr.enabled.get c) s.ptb)
    (c : Channel) : ((takeUp s).slot c).core.Fits ((takeUp s).ptr.enabled.get c) (takeUp s).ptb := by
  have enabled : ((takeEnable (takeWord (takeScan s))).slot c).core.Fits
      ((takeEnable (takeWord (takeScan s))).ptr.enabled.get c) s.ptb := by
    have old := h c
    have slot : (takeWord (takeScan s)).slot c = s.slot c := by simp [State.slot]
    rw [takeEnable_slot, slot, (takeEnable_takes _).1, (takeWord_takes _).2, (takeScan_takes _).2.1]
    cases s.bpl.staged.enable with
    | none => simpa using old
    | some set => simpa using enabledSlot_fits old (set.get c)
  have released (l : List Channel) (u : State)
      (fits : (u.slot c).core.Fits (u.ptr.enabled.get c) u.ptb) :
      ((l.foldl releaseSlot u).slot c).core.Fits ((l.foldl releaseSlot u).ptr.enabled.get c)
        (l.foldl releaseSlot u).ptb :=
    List.foldlRecOn (motive := fun u => (u.slot c).core.Fits (u.ptr.enabled.get c) u.ptb) l
      releaseSlot fits fun u fits d _ => by
        rw [releaseSlot_ptr_enabled, releaseSlot_ptb]
        exact releaseSlot_fits fits
  refine released _ ((takeEnable (takeWord (takeScan s))).setBpl _) ?_
  simpa using enabled

/-! ### The binding at command time (R129) -/

/-- Rebinding the slots of one tool ID binds every slot, where no other ID has moved in the table. -/
theorem rebindSlots_fits {s : State} {t : Ptb} {id : Nat}
    (others : ∀ j, j ≠ id → boundOf t (some j) = boundOf s.ptb (some j)) (c : Channel)
    (h : (s.slot c).core.Fits (s.ptr.enabled.get c) s.ptb) :
    ((rebindSlots id (s.setPtb t)).slot c).core.Fits (s.ptr.enabled.get c) t := by
  rw [rebindSlots_slot, State.slot_setPtb]
  obtain ⟨enabled, bound, prox, word, early, toolId, pendingRel⟩ := h
  split
  next own => exact ⟨enabled, by rw [← own]; rfl, prox, word, early, toolId, pendingRel⟩
  next other =>
    refine ⟨enabled, bound.trans ?_, prox, word, early, toolId, pendingRel⟩
    change boundOf s.ptb (s.slot c).toolId = boundOf t (s.slot c).toolId
    cases held : (s.slot c).toolId with
    | none => rfl
    | some j => exact (others j fun same => other (by rw [held, same])).symm

theorem putTool_any_other {id j : Nat} (other : j ≠ id) (r : Profile) (l : List (Nat × Profile)) :
    (putTool id r l).any (·.1 = j) = l.any (·.1 = j) := by
  induction l with
  | nil => simp [putTool, other.symm]
  | cons p l ih =>
    obtain ⟨k, q⟩ := p
    unfold putTool
    split
    · simp [other.symm]
    · split
      next same => subst same; simp [other.symm]
      next => simp only [List.any_cons, ih]

theorem loadTool_bounds (t : Ptb) {id j : Nat} (other : j ≠ id) (r : Profile) :
    boundOf { t with tools := putTool id r t.tools } (some j) = boundOf t (some j) := by
  simp only [boundOf, Option.filter, putTool_any_other other]

theorem dropTool_bounds (t : Ptb) {id j : Nat} (other : j ≠ id) :
    boundOf { t with tools := t.tools.filter (·.1 != id) } (some j) = boundOf t (some j) := by
  have same : (t.tools.filter (·.1 != id)).any (·.1 = j) = t.tools.any (·.1 = j) := by
    rw [List.any_filter]
    congr
    funext p
    by_cases named : p.1 = j <;> simp [named, other]
  simp only [boundOf, Option.filter, same]

/-! ### The slots of a state -/

theorem SlotsConsistent.fits {s : State} (h : SlotsConsistent s) (c : Channel) :
    (s.slot c).core.Fits (s.ptr.enabled.get c) s.ptb :=
  (slotConsistent_iff s c).mp (h.slot c)

/-- Where settings and scan state stay, consistent slots leave the slots consistent. -/
theorem SlotsConsistent.of_fits {s t : State} (h : SlotsConsistent s)
    (active : t.bpl.active = s.bpl.active) (staged : t.bpl.staged.scan = s.bpl.staged.scan)
    (scan : t.fts.scan = s.fts.scan)
    (fits : ∀ c, (t.slot c).core.Fits (t.ptr.enabled.get c) t.ptb)
    (quiet : s.fts.scan ≠ .running → t.slotsQuiet) : SlotsConsistent t :=
  ⟨active ▸ h.confirm, staged ▸ h.staged, fun c => (slotConsistent_iff t c).mpr (fits c),
    fun off => quiet (scan ▸ off)⟩

theorem rebindSlots_quiet {s : State} (h : s.slotsQuiet) (id : Nat) :
    (rebindSlots id s).slotsQuiet := by
  intro c
  rw [rebindSlots_slot]
  split <;> exact h c

theorem slotsConsistent_kept : KeptByTracker SlotsConsistent where
  same := by
    intro s t same h
    have slot := slot_of_tracking same
    simp only [State.tracking, TrackView.mk.injEq] at same
    obtain ⟨_, enabled, ptb, _, active, staged, _, scan⟩ := same
    refine h.of_fits active (by rw [staged]) scan (fun c => ?_) fun off c => ?_
    · rw [slot, enabled, ptb]; exact h.fits c
    · rw [slot]; exact h.quiet off c
  rescan := by
    intro s f stands h
    refine ⟨h.confirm, h.staged, fun c => (slotConsistent_iff _ c).mpr (h.fits c), fun off => ?_⟩
    obtain running | off | quiet := stands
    · exact absurd running off
    · exact h.quiet off
    · exact quiet
  alert := fun h => h.of_fits rfl rfl rfl h.fits h.quiet
  clear := by
    intro s c h
    refine h.of_fits (by simp) (by simp) (by simp) (fun d => ?_) fun off d => ?_
    · rw [clearSlot_slot, clearSlot_ptr_enabled, clearSlot_ptb]
      split
      next own =>
        obtain ⟨rfl, active⟩ := own
        rw [(h.fits d).enabled_of_active active]
        exact endedSlot_fits rfl (by simp)
      next => exact h.fits d
    · rw [clearSlot_slot]
      split
      next => rfl
      next => exact h.quiet off d
  close := by
    intro s c running h
    refine h.of_fits (by simp) (by simp) (by simp) (fun d => ?_) fun off => absurd running off
    rw [closeSlot_ptr_enabled, closeSlot_ptb]
    by_cases own : d = c
    · subst own
      exact closeSlot_fits h.confirm d (h.fits d)
    · rw [closeSlot_other c d s own]
      exact h.fits d
  settle := by
    intro s had k h
    exact h.of_fits rfl rfl rfl h.fits h.quiet
  takeUp := by
    intro s running h
    obtain ⟨active, _, _, staged⟩ := takeUp_takes s
    refine ⟨?_, ?_, fun c => (slotConsistent_iff _ c).mpr (takeUp_fits h.fits c), fun off => ?_⟩
    · rw [active]
      cases scan : s.bpl.staged.scan with
      | none => exact h.confirm
      | some r => exact h.staged r scan
    · rw [staged]; exact nofun
    · exact absurd (by simpa using running) off
  stageScan := by
    intro s r legal h
    refine ⟨h.confirm, fun q staged => ?_, fun c => (slotConsistent_iff _ c).mpr (h.fits c),
      h.quiet⟩
    obtain rfl := Option.some_inj.mp staged
    simp only [ScanSettings.legal, within, Bool.and_eq_true, decide_eq_true_eq] at legal
    exact legal.1.1.1.2.2
  stageWord := fun _ _ h => h.of_fits rfl rfl rfl h.fits h.quiet
  stageEnable := fun _ _ h => h.of_fits rfl rfl rfl h.fits h.quiet
  loadTool := by
    intro s id r h
    refine h.of_fits (by simp [loadTool]) (by simp [loadTool]) (by simp [loadTool]) (fun c => ?_)
      fun off => rebindSlots_quiet
        (s := s.setPtb { s.ptb with tools := putTool id r s.ptb.tools }) (h.quiet off) id
    have fits := rebindSlots_fits (id := id) (fun j other => loadTool_bounds s.ptb other r) c (h.fits c)
    rw [loadTool, rebindSlots_ptr_enabled, rebindSlots_ptb]
    exact fits
  loadDefault := fun _ _ h => h.of_fits rfl rfl rfl
    (fun c => ⟨(h.fits c).enabled, (h.fits c).bound, (h.fits c).prox, (h.fits c).word,
      (h.fits c).early, (h.fits c).toolId, (h.fits c).pendingRel⟩) h.quiet
  dropTool := by
    intro s id h
    refine h.of_fits (by simp [dropTool]) (by simp [dropTool]) (by simp [dropTool]) (fun c => ?_)
      fun off => rebindSlots_quiet
        (s := s.setPtb { s.ptb with tools := s.ptb.tools.filter (·.1 != id) }) (h.quiet off) id
    have fits := rebindSlots_fits (id := id) (fun j other => dropTool_bounds s.ptb other) c (h.fits c)
    rw [dropTool, rebindSlots_ptr_enabled, rebindSlots_ptb]
    exact fits

theorem resetBlocks_slot (pins : Pins) (l : Layout) (q : List Entry) (s : State) (c : Channel) :
    (s.resetBlocks pins l q).slot c = resetSlot := by
  cases c <;> rfl

theorem resetBlocks_slotsConsistent (pins : Pins) (l : Layout) (q : List Entry) (s : State) :
    SlotsConsistent (s.resetBlocks pins l q) := by
  refine ⟨Nat.le_succ 2, nofun, fun c => ?_, fun _ c => ?_⟩
  · refine (slotConsistent_iff _ c).mpr ?_
    rw [resetBlocks_slot]
    have enabled : (s.resetBlocks pins l q).ptr.enabled.get c = true := by cases c <;> rfl
    rw [enabled]
    exact ⟨by simp [Slot.core, resetSlot], rfl, by simp [Slot.core, resetSlot], rfl, nofun, nofun,
      nofun⟩
  · rw [resetBlocks_slot]
    rfl

theorem Restart.slotsConsistent {s u : State} (e : Restart s u) : SlotsConsistent u := by
  cases e
  case commanded =>
    exact slotsConsistent_kept.same (s := s.resetBlocks { s.pins with cause := .command }
      s.cfe.layout [announceEntry s.cfe.layout .command]) rfl (resetBlocks_slotsConsistent ..)
  all_goals exact resetBlocks_slotsConsistent ..

/-! ### The bounds of a word sub-record (R82 to R93) -/

theorem idValue_lt (bits : List Bool) : idValue bits < 2 ^ bits.length := by
  induction bits using List.reverseRecOn with
  | nil => exact Nat.one_pos
  | append_singleton bits b ih =>
    rw [idValue_append_bit, List.length_append, List.length_singleton, pow_succ]
    have := b.toNat_le
    omega

namespace WordRec.Bounded

variable {ws : WordSettings} {w : WordRec}

theorem enterBit (h : w.Bounded) (bit : Option Bool) : (enterBit bit w).Bounded :=
  ⟨Nat.mod_lt _ (by decide), by rw [enterBit_history_length]; omega, h.aligned, h.errors, h.cycle,
    h.lastCycle⟩

theorem acquire (h : w.Bounded) {o : Nat} (offset : o < 8) : (acquire o w).Bounded :=
  ⟨h.count, h.history, fun _ held => Option.some_inj.mp held ▸ offset, Nat.zero_le _, nofun, nofun⟩

theorem searchAlignment (h : w.Bounded) (ws : WordSettings) : (searchAlignment ws w).Bounded := by
  have unmatched (mimic : Bool) : { w with mimic := mimic }.Bounded :=
    ⟨h.count, h.history, h.aligned, h.errors, h.cycle, h.lastCycle⟩
  have offset {o : Nat} {l : List Nat} (matched : matchedOffsets w.history = o :: l) : o < 8 := by
    have mem : o ∈ matchedOffsets w.history := by rw [matched]; exact List.mem_cons_self
    exact List.mem_range.mp (List.mem_of_mem_filter mem)
  unfold Machine.searchAlignment
  split
  next => exact unmatched _
  next matched => exact h.acquire (offset matched)
  next matched =>
    split
    next => exact unmatched _
    next => exact h.acquire (offset matched)

theorem judgeWord (h : w.Bounded) (legal : ws.legal = true) (word : List (Option Bool)) :
    (judgeWord ws word w).Bounded := by
  refine ⟨h.count, h.history, h.aligned, ?_, h.cycle, h.lastCycle⟩
  simp only [WordSettings.legal, within, Bool.and_eq_true, decide_eq_true_eq] at legal
  have few := newest_length ws.window (w.errors ++ [!cleanWord word])
  change (newest ws.window (w.errors ++ [!cleanWord word])).length ≤ 6
  omega

theorem feedButtons (h : w.Bounded) (ws : WordSettings) (u : Option UsableWord) :
    (feedButtons ws u w).Bounded := by
  unfold Machine.feedButtons
  split <;> exact ⟨h.count, h.history, h.aligned, h.errors, h.cycle, h.lastCycle⟩

theorem loseAlignment (h : w.Bounded) : (loseAlignment w).Bounded :=
  ⟨h.count, h.history, nofun, Nat.zero_le _, nofun, nofun⟩

end WordRec.Bounded

/-- A sub-record within its bounds, with a validated tool ID that is one. -/
def Validates (r : WordRec × Option Nat) : Prop :=
  r.1.Bounded ∧ ∀ id, r.2 = some id → 1 ≤ id ∧ id ≤ 65535

section
variable {ws : WordSettings} {w : WordRec}

theorem WordRec.Bounded.setCycle (h : w.Bounded) {cycle : Option (List Bool)}
    {lastCycle : Option Nat} (bits : ∀ b, cycle = some b → 1 ≤ b.length ∧ b.length ≤ 15)
    (value : ∀ v, lastCycle = some v → 1 ≤ v ∧ v ≤ 65535) :
    { w with cycle := cycle, lastCycle := lastCycle }.Bounded :=
  ⟨h.count, h.history, h.aligned, h.errors, bits, value⟩

theorem completeCycle_validates (h : w.Bounded) {v : Nat} (fits : v ≤ 65535) :
    Validates (completeCycle ws v w) := by
  unfold completeCycle
  dsimp only
  split
  next => exact ⟨h.setCycle nofun nofun, nofun⟩
  next nonzero =>
    have named : 1 ≤ v ∧ v ≤ 65535 := ⟨by omega, fits⟩
    refine ⟨h.setCycle nofun fun _ held => Option.some_inj.mp held ▸ named, fun id valid => ?_⟩
    obtain ⟨-, same⟩ := Option.ite_none_left_eq_some.mp valid
    exact Option.some_inj.mp same ▸ named

theorem feedCycle_validates (h : w.Bounded) (u : Option UsableWord) :
    Validates (feedCycle ws u w) := by
  have starts (b : Bool) : ∀ l, some [b] = some l → 1 ≤ l.length ∧ l.length ≤ 15 := by
    rintro l held
    obtain rfl := Option.some_inj.mp held
    exact ⟨Nat.le_refl 1, Nat.one_le_ofNat⟩
  unfold feedCycle
  split
  next => exact ⟨h.setCycle nofun nofun, nofun⟩
  next u none =>
    split
    next => exact ⟨h.setCycle (starts _) h.lastCycle, nofun⟩
    next => exact ⟨h.setCycle h.cycle nofun, nofun⟩
  next u bits held =>
    obtain ⟨some', few⟩ := h.cycle bits held
    split
    next => exact ⟨h.setCycle (starts _) nofun, nofun⟩
    next =>
      dsimp only
      split
      next sixteen =>
        have value := idValue_lt (bits ++ [u.idBit])
        rw [sixteen] at value
        exact completeCycle_validates h (by omega)
      next more =>
        refine ⟨h.setCycle (fun l joined => ?_) h.lastCycle, nofun⟩
        obtain rfl := Option.some_inj.mp joined
        simp only [List.length_append, List.length_singleton] at more ⊢
        omega

theorem completeWord_validates (h : w.Bounded) (legal : ws.legal = true) :
    Validates (completeWord ws w) := by
  have fed := feedCycle_validates (ws := ws)
    ((h.judgeWord legal (newestWord w)).feedButtons ws (usableWord (newestWord w)))
    (usableWord (newestWord w))
  unfold completeWord
  dsimp only
  split
  · exact ⟨fed.1.loseAlignment, fed.2⟩
  · exact fed

theorem decodeBit_validates (h : w.Bounded) (legal : ws.legal = true) (bit : Option Bool) :
    Validates (decodeBit ws bit w) := by
  unfold decodeBit
  dsimp only
  split
  · exact ⟨(h.enterBit bit).searchAlignment ws, nofun⟩
  · split
    · exact completeWord_validates (h.enterBit bit) legal
    · exact ⟨h.enterBit bit, nofun⟩

end

/-! ### The bounds of a slot (R55, R82) -/

/-- The bounds of `SlotsBounded` on the fields they rest on. -/
structure SlotCore.Bounded (k : SlotCore) : Prop where
  word : ∀ w, k.word = some w → w.Bounded
  misses : k.misses.length ≤ 8
  toolId : ∀ i, k.toolId = some i → 1 ≤ i ∧ i ≤ 65535

theorem slot_bounded_iff (sl : Slot) : sl.core.Bounded ↔ (∀ w, sl.word = some w → w.Bounded)
    ∧ sl.misses.length ≤ 8 ∧ ∀ i, sl.toolId = some i → 1 ≤ i ∧ i ≤ 65535 := by
  constructor
  · rintro ⟨word, misses, toolId⟩
    refine ⟨fun w held => ?_, misses, toolId⟩
    have ⟨count, history, aligned, errors, cycle, lastCycle⟩ :=
      word { w with realigned := false } (by simp [Slot.core, held])
    exact ⟨count, history, aligned, errors, cycle, lastCycle⟩
  · rintro ⟨word, misses, toolId⟩
    refine ⟨fun v held => ?_, misses, toolId⟩
    obtain ⟨w, there, rfl⟩ := Option.map_eq_some_iff.mp held
    have ⟨count, history, aligned, errors, cycle, lastCycle⟩ := word w there
    exact ⟨count, history, aligned, errors, cycle, lastCycle⟩

theorem newWord_bounded : newWord.Bounded :=
  ⟨by decide, by decide, nofun, by decide, nofun, nofun⟩

theorem endedSlot_bounded (st : SlotState) (sl : Slot) : (endedSlot st sl).core.Bounded :=
  ⟨nofun, Nat.zero_le _, nofun⟩

section
variable {sl : Slot}

theorem confirmCandidate_bounded (h : sl.core.Bounded) (pitch : Nat) (k : Candidate) :
    (confirmCandidate pitch k sl).core.Bounded := by
  refine ⟨fun w held => ?_, Nat.zero_le _, h.toolId⟩
  obtain rfl := Option.some_inj.mp held
  exact newWord_bounded

theorem decodedSlot_bounded {ws : WordSettings} (h : sl.core.Bounded) (legal : ws.legal = true)
    (t : Ptb) (bit : Option Bool) : (decodedSlot ws t bit sl).core.Bounded := by
  obtain ⟨word, misses, toolId⟩ := (slot_bounded_iff sl).mp h
  refine (slot_bounded_iff _).mpr ⟨fun w held => ?_, misses, fun i named => ?_⟩
  · obtain ⟨v, there, rfl⟩ := Option.map_eq_some_iff.mp held
    exact (decodeBit_validates (word v there) legal bit).1
  · obtain new | ⟨-, old⟩ := Option.or_eq_some_iff.mp named
    · obtain ⟨v, held, valid⟩ := Option.bind_eq_some_iff.mp (Option.filter_eq_some_iff.mp new).1
      exact (decodeBit_validates (word v held) legal bit).2 i valid
    · exact toolId i old

theorem PenClose.bounded {set : ScanSettings} {c : Channel} {r q : Rqu} {u : Slot}
    (window : set.missWindow ≤ 8) (h : sl.core.Bounded) (closed : PenClose set c sl r u q) :
    u.core.Bounded := by
  cases closed
  case dropped core => rw [core]; exact ⟨nofun, h.misses, h.toolId⟩
  case counted core => rw [core]; exact ⟨h.word, h.misses, h.toolId⟩
  case entered core _ => rw [core]; exact ⟨h.word, Nat.one_le_ofNat, h.toolId⟩
  case lost core => rw [core]; exact endedSlot_bounded _ _
  case followed misses p few core _ =>
    rw [core]
    refine ⟨h.word, ?_, h.toolId⟩
    change misses.length ≤ 8
    obtain few | rfl := few
    · exact few.trans window
    · exact h.misses

theorem enabledSlot_bounded (h : sl.core.Bounded) (on : Bool) : (enabledSlot on sl).core.Bounded := by
  unfold enabledSlot
  split
  case h_3 | h_4 => exact endedSlot_bounded _ _
  all_goals exact ⟨h.word, h.misses, h.toolId⟩

end

/-! ### The slots of a state within their bounds -/

theorem SlotsBounded.slot {s : State} (h : SlotsBounded s) (c : Channel) :
    (s.slot c).core.Bounded :=
  (slot_bounded_iff _).mpr ⟨h.words c, h.misses c, h.toolId c⟩

/-- The settings that bound the slots lie in their ranges. -/
structure WindowsLegal (active : ScanSettings) (staged : Staged) (word : WordSettings) : Prop where
  active : active.legal = true
  stagedScan : staged.scan.all ScanSettings.legal = true
  word : word.legal = true
  stagedWord : staged.word.all WordSettings.legal = true

theorem SlotsBounded.windows {s : State} (h : SlotsBounded s) :
    WindowsLegal s.bpl.active s.bpl.staged s.wdc :=
  ⟨h.active, h.stagedScan, h.word, h.stagedWord⟩

theorem SlotsBounded.of_slots {s : State} (windows : WindowsLegal s.bpl.active s.bpl.staged s.wdc)
    (slots : ∀ c, (s.slot c).core.Bounded) : SlotsBounded s := by
  obtain ⟨active, stagedScan, word, stagedWord⟩ := windows
  have parts c := (slot_bounded_iff _).mp (slots c)
  exact ⟨active, stagedScan, word, stagedWord, fun c => (parts c).1, fun c => (parts c).2.1,
    fun c => (parts c).2.2⟩

theorem SlotsBounded.missWindow {s : State} (h : SlotsBounded s) : s.bpl.active.missWindow ≤ 8 := by
  have legal := h.active
  simp only [ScanSettings.legal, within, Bool.and_eq_true, decide_eq_true_eq] at legal
  exact legal.1.1.2.2

theorem takeUp_windows {s : State} (h : WindowsLegal s.bpl.active s.bpl.staged s.wdc) :
    WindowsLegal (takeUp s).bpl.active (takeUp s).bpl.staged (takeUp s).wdc := by
  obtain ⟨active, word, -, staged⟩ := takeUp_takes s
  obtain ⟨legal, stagedScan, legalWord, stagedWord⟩ := h
  rw [active, word, staged]
  refine ⟨?_, rfl, ?_, rfl⟩
  · cases scan : s.bpl.staged.scan with
    | none => exact legal
    | some r => simpa [scan] using stagedScan
  · cases word' : s.bpl.staged.word with
    | none => exact legalWord
    | some r => simpa [word'] using stagedWord

theorem takeUp_bounded {s : State} (h : ∀ c, (s.slot c).core.Bounded) (c : Channel) :
    ((takeUp s).slot c).core.Bounded := by
  have enabled : ((takeEnable (takeWord (takeScan s))).slot c).core.Bounded := by
    have slot : (takeWord (takeScan s)).slot c = s.slot c := by simp [State.slot]
    rw [takeEnable_slot, slot]
    split
    · exact h c
    · exact enabledSlot_bounded (h c) _
  refine List.foldlRecOn (motive := fun u : State => (u.slot c).core.Bounded) _ releaseSlot
    (b := (takeEnable (takeWord (takeScan s))).setBpl _) enabled fun u bounded d _ => ?_
  rw [releaseSlot_slot]
  split
  · exact endedSlot_bounded _ _
  · exact bounded

theorem rebindSlots_bounded {s : State} (id : Nat) {c : Channel} (h : (s.slot c).core.Bounded) :
    ((rebindSlots id s).slot c).core.Bounded := by
  rw [rebindSlots_slot]
  split
  · exact ⟨h.word, h.misses, h.toolId⟩
  · exact h

theorem slotsBounded_kept : KeptByTracker SlotsBounded where
  same := by
    intro s t same h
    have slot := slot_of_tracking same
    simp only [State.tracking, TrackView.mk.injEq] at same
    obtain ⟨_, _, _, _, active, staged, word, _⟩ := same
    refine .of_slots ?_ fun c => slot c ▸ h.slot c
    rw [active, staged, word]
    exact h.windows
  rescan := fun _ _ h => .of_slots h.windows h.slot
  alert := fun h => .of_slots h.windows h.slot
  clear := by
    intro s c h
    refine .of_slots (by simpa using h.windows) fun d => ?_
    rw [clearSlot_slot]
    split
    · exact endedSlot_bounded _ _
    · exact h.slot d
  close := by
    intro s c _ h
    refine .of_slots (by simpa using h.windows) fun d => ?_
    by_cases own : d = c
    · subst own
      obtain same | ⟨pitch, k, -, same⟩ | ⟨bit, r, -, -, closed⟩ := closeSlot_cases s d
      · rw [same]; exact h.slot d
      · rw [same, State.slot_setSlot, if_pos rfl]
        exact confirmCandidate_bounded (h.slot d) pitch k
      · exact closed.bounded h.missWindow (decodedSlot_bounded (h.slot d) h.word s.ptb bit)
    · rw [closeSlot_other c d s own]
      exact h.slot d
  settle := fun _ _ h => .of_slots h.windows h.slot
  takeUp := fun _ h => .of_slots (takeUp_windows h.windows) (takeUp_bounded h.slot)
  stageScan := fun _ legal h => .of_slots ⟨h.active, legal, h.word, h.stagedWord⟩ h.slot
  stageWord := fun _ legal h => .of_slots ⟨h.active, h.stagedScan, h.word, legal⟩ h.slot
  stageEnable := fun _ _ h => .of_slots ⟨h.active, h.stagedScan, h.word, h.stagedWord⟩ h.slot
  loadTool := fun _ _ h => .of_slots (by simpa [loadTool] using h.windows) fun c =>
    rebindSlots_bounded (s := State.setPtb _ _) _ (h.slot c)
  loadDefault := fun _ _ h => .of_slots h.windows h.slot
  dropTool := fun _ h => .of_slots (by simpa [dropTool] using h.windows) fun c =>
    rebindSlots_bounded (s := State.setPtb _ _) _ (h.slot c)

theorem resetBlocks_slotsBounded (pins : Pins) (l : Layout) (q : List Entry) (s : State) :
    SlotsBounded (s.resetBlocks pins l q) :=
  .of_slots ⟨rfl, rfl, rfl, rfl⟩ fun c => by
    rw [resetBlocks_slot]
    exact ⟨nofun, Nat.zero_le _, nofun⟩

theorem Restart.slotsBounded {s u : State} (e : Restart s u) : SlotsBounded u := by
  cases e
  case commanded =>
    exact slotsBounded_kept.same (s := s.resetBlocks { s.pins with cause := .command }
      s.cfe.layout [announceEntry s.cfe.layout .command]) rfl (resetBlocks_slotsBounded ..)
  all_goals exact resetBlocks_slotsBounded ..

/-- The queue of reports is no part of a slot. -/
theorem arbitrate_slotsConsistent {s : State} (h : SlotsConsistent s) :
    SlotsConsistent (arbitrate s) :=
  h.of_fits (by simp) (by simp) (by simp) (fun c => by simpa using h.fits c) fun off c => by
    simpa using h.quiet off c

theorem arbitrate_slotsBounded {s : State} (h : SlotsBounded s) : SlotsBounded (arbitrate s) :=
  .of_slots (by simpa using h.windows) fun c => by simpa using h.slot c

theorem Effect.slotsConsistent {s u : State} (e : Effect s u) (h : SlotsConsistent s) :
    SlotsConsistent u :=
  (e.restarts_or_keeps slotsConsistent_kept h).elim (·.slotsConsistent) id

theorem Effect.slotsBounded {s u : State} (e : Effect s u) (h : SlotsBounded s) :
    SlotsBounded u :=
  (e.restarts_or_keeps slotsBounded_kept h).elim (·.slotsBounded) id

theorem stepKeeps_slotsConsistent {s t : State} (run : step s = .next t) (h : SlotsConsistent s) :
    SlotsConsistent t :=
  step_keeps (P := SlotsConsistent) (fun s _ _ h => slotsConsistent_kept.same (s := s) rfl h)
    (fun s h => slotsConsistent_kept.same (s := s) rfl h) (fun _ => arbitrate_slotsConsistent)
    (fun _ _ e => e.slotsConsistent) h run

end Sys2Proof.Machine

namespace Sys2Proof.Proofs

open Sys2Proof.Machine

/-- Settles O58: what the tracker's own operations keep every effect keeps (`restarts_or_keeps`), and the
close of a slot case by case (`closeSlot_cases`) keeps both invariants. -/
theorem stepKeepsSlotsConsistent : Obligations.StepKeepsSlotsConsistent := by
  intro s t run
  refine ⟨stepKeeps_slotsConsistent run, fun h => ?_⟩
  exact step_keeps (P := SlotsBounded) (fun s _ _ h => slotsBounded_kept.same (s := s) rfl h)
    (fun s h => slotsBounded_kept.same (s := s) rfl h) (fun _ => arbitrate_slotsBounded)
    (fun _ _ e => e.slotsBounded) h run

end Sys2Proof.Proofs
end

section
/-! PROOFS. For O59: what each report handed does to the bounds of the queue and to what the host sees
of a channel (R134 to R143). -/

namespace Sys2Proof.Machine

/-! ### What the host sees of a channel (R141) -/

/-- The view that a list of reports leads the host to. -/
abbrev seesAll (c : Channel) (q : List Entry) (v : Option Bool) : Option Bool :=
  q.foldl (hostSees c) v

@[simp] theorem hostSees_none (c : Channel) (e : Entry) : hostSees c none e = none := by
  cases e <;> simp [hostSees]

@[simp] theorem seesAll_none (c : Channel) (q : List Entry) : seesAll c q none = none := by
  induction q with
  | nil => rfl
  | cons e q ih => rw [seesAll, List.foldl_cons, hostSees_none]; exact ih

theorem seesAll_append (c : Channel) (q r : List Entry) (v : Option Bool) :
    seesAll c (q ++ r) v = seesAll c r (seesAll c q v) := List.foldl_append

/-- A report of another channel, an ALERT: the host sees nothing of the channel in it. -/
def Entry.foreign (c : Channel) (e : Entry) : Prop := e.channel ≠ some c ∧ e.isAnnounce = false

theorem hostSees_foreign {c : Channel} {e : Entry} (h : e.foreign c) (v : Option Bool) :
    hostSees c v e = v := by
  obtain ⟨other, plain⟩ := h
  cases e <;> simp_all [hostSees, Entry.channel, Entry.isAnnounce]

theorem hostSees_follower {c : Channel} {e : Entry} (h : e.isFollowerOf c = true)
    (v : Option Bool) : hostSees c v e = v.filter id := by
  cases e <;> simp_all [hostSees, Entry.isFollowerOf]

theorem isFollowerOf_of_isToolOf {c : Channel} {e : Entry} (h : e.isToolOf c = true) :
    e.isFollowerOf c = true := by
  cases e <;> simp_all [Entry.isToolOf, Entry.isFollowerOf]

/-- Reports that the channel's host view does not rest on, and MOTION and TOOL of the channel, can be
taken out of a lawful list. -/
theorem seesAll_filter {c : Channel} {b : Bool} (keep : Entry → Bool) {q : List Entry}
    (gone : ∀ e ∈ q, keep e = false → e.foreign c ∨ e.isFollowerOf c = true) {v : Option Bool}
    (h : seesAll c q v = some b) : seesAll c (q.filter keep) v = some b := by
  induction q generalizing v with
  | nil => exact h
  | cons e q ih =>
    have later := fun e mem => gone e (List.mem_cons_of_mem _ mem)
    rw [seesAll, List.foldl_cons] at h
    cases kept : keep e with
    | true =>
      rw [List.filter_cons_of_pos kept, seesAll, List.foldl_cons]
      exact ih later h
    | false =>
      rw [List.filter_cons_of_neg (by simp [kept])]
      refine ih later ?_
      obtain foreign | follower := gone e List.mem_cons_self kept
      · rwa [hostSees_foreign foreign] at h
      · rw [hostSees_follower follower] at h
        cases v with
        | none => exact h
        | some a =>
          cases a with
          | true => exact h
          | false =>
            rw [show (some false).filter id = none from rfl] at h
            exact absurd (h.symm.trans (seesAll_none c q)) nofun

/-! ### The notices of a channel -/

theorem notices_append (c : Channel) (q r : List Entry) :
    notices c (q ++ r) = notices c q ++ notices c r := by
  induction q with
  | nil => rfl
  | cons e q ih =>
    cases e <;> simp only [List.cons_append, notices, ih]
    all_goals split <;> rfl

/-- An entry is an IN or an OUT. -/
def Entry.isNotice : Entry → Bool
  | .penIn _ => true
  | .penOut _ => true
  | _ => false

theorem notices_cons_other {e : Entry} (h : e.isNotice = false) (c : Channel) (q : List Entry) :
    notices c (e :: q) = notices c q := by
  cases e <;> simp_all [notices, Entry.isNotice]

theorem notices_filter {keep : Entry → Bool} {q : List Entry}
    (gone : ∀ e ∈ q, keep e = false → e.isNotice = false) (c : Channel) :
    notices c (q.filter keep) = notices c q := by
  induction q with
  | nil => rfl
  | cons e q ih =>
    have later := ih fun e mem => gone e (List.mem_cons_of_mem _ mem)
    cases kept : keep e with
    | true =>
      rw [List.filter_cons_of_pos kept]
      cases e <;> simp only [notices, later]
    | false =>
      rw [List.filter_cons_of_neg (by simp [kept]), later,
        notices_cons_other (gone e List.mem_cons_self kept)]

theorem not_notice_of_follower {c : Channel} {e : Entry} (h : e.isFollowerOf c = true) :
    e.isNotice = false := by
  cases e <;> simp_all [Entry.isFollowerOf, Entry.isNotice]

theorem true_mem_notices {c : Channel} {q : List Entry} : true ∈ notices c q ↔ .penIn c ∈ q := by
  induction q with
  | nil => simp [notices]
  | cons e q ih =>
    cases e with
    | penIn d =>
      by_cases own : d = c
      · simp [notices, own]
      · simp [notices, own, ih, Ne.symm own]
    | penOut d =>
      by_cases own : d = c <;> simp [notices, own, ih]
    | _ => simp [notices, ih]

/-- Without notices and followers of the channel, a host that has seen no pen sees none. -/
theorem seesAll_of_none {c : Channel} {q : List Entry} (quiet : notices c q = [])
    (alone : ∀ e ∈ q, e.isFollowerOf c = false) : seesAll c q (some false) = some false := by
  induction q with
  | nil => rfl
  | cons e q ih =>
    have rest := fun e mem => alone e (List.mem_cons_of_mem _ mem)
    have own := alone e List.mem_cons_self
    rw [seesAll, List.foldl_cons]
    cases e with
    | penIn d =>
      by_cases here : d = c
      · simp [notices, here] at quiet
      · simp only [notices, here, if_false] at quiet
        simpa [hostSees, here] using ih quiet rest
    | penOut d =>
      by_cases here : d = c
      · simp [notices, here] at quiet
      · simp only [notices, here, if_false] at quiet
        simpa [hostSees, here] using ih quiet rest
    | motion m =>
      have here : m.ch ≠ c := by simpa [Entry.isFollowerOf] using own
      simpa [hostSees, here] using ih quiet rest
    | tool d i b =>
      have here : d ≠ c := by simpa [Entry.isFollowerOf] using own
      simpa [hostSees, here] using ih quiet rest
    | alert => exact ih quiet rest
    | announce f v l k => exact ih quiet rest

/-! ### Entries that the laws do not tell apart -/

/-- The laws see the same in both entries. -/
structure Entry.Alike (e e' : Entry) : Prop where
  sees : ∀ c v, hostSees c v e' = hostSees c v e
  motion : e'.isMotion = e.isMotion
  alert : e' = .alert ↔ e = .alert
  announce : e'.isAnnounce = e.isAnnounce
  tool : ∀ c, e'.isToolOf c = e.isToolOf c
  notice : ∀ c, notices c [e'] = notices c [e]

theorem Entry.Alike.refl (e : Entry) : e.Alike e :=
  ⟨fun _ _ => rfl, rfl, .rfl, rfl, fun _ => rfl, fun _ => rfl⟩

theorem alike_motions {m n : Motion} (same : n.ch = m.ch) :
    (Entry.motion m).Alike (.motion n) :=
  ⟨fun c v => by simp [hostSees, same], rfl, by simp, rfl, fun _ => rfl, fun _ => rfl⟩

theorem alike_tools (c : Channel) (i j : Nat) (a b : Option Nat) :
    (Entry.tool c i a).Alike (.tool c j b) :=
  ⟨fun _ _ => rfl, rfl, by simp, rfl, fun _ => rfl, fun _ => rfl⟩

theorem notices_cons (c : Channel) (e : Entry) (q : List Entry) :
    notices c (e :: q) = notices c [e] ++ notices c q := notices_append c [e] q

section
variable {q r : List Entry} (alike : List.Forall₂ Entry.Alike q r)
include alike

theorem seesAll_alike (c : Channel) (v : Option Bool) : seesAll c r v = seesAll c q v := by
  induction alike generalizing v with
  | nil => rfl
  | cons first _ ih => simp only [seesAll, List.foldl_cons, first.sees] at ih ⊢; exact ih _

theorem countP_alike {p : Entry → Bool} (same : ∀ e e', Entry.Alike e e' → p e' = p e) :
    r.countP p = q.countP p := by
  induction alike with
  | nil => rfl
  | cons first _ ih => simp only [List.countP_cons, same _ _ first, ih]

theorem notices_alike (c : Channel) : notices c r = notices c q := by
  induction alike with
  | nil => rfl
  | cons first _ ih => rw [notices_cons, first.notice, ih, ← notices_cons]

end

/-- A merge puts one MOTION in the place of another of its channel (R137). -/
theorem mergeNewest_alike {m : Motion} {gap : Bool} {l q : List Entry}
    (merged : mergeNewest m gap l = some q) : List.Forall₂ Entry.Alike l q := by
  have same (l : List Entry) : List.Forall₂ Entry.Alike l l :=
    List.forall₂_same.mpr fun e _ => .refl e
  induction l generalizing q with
  | nil => exact absurd merged nofun
  | cons e l ih =>
    by_cases own : e.channel = some m.ch
    · cases e with
      | motion held =>
        have ch : held.ch = m.ch := Option.some_inj.mp own
        rw [mergeNewest_motion ch] at merged
        obtain ⟨-, same'⟩ := Option.ite_none_right_eq_some.mp merged
        rw [← Option.some_inj.mp same']
        exact .cons (alike_motions ch.symm) (same l)
      | _ => exact absurd ((mergeNewest_notice own rfl l).symm.trans merged) nofun
    · rw [mergeNewest_cons own] at merged
      obtain ⟨later, found, rfl⟩ := Option.map_eq_some_iff.mp merged
      exact .cons (.refl e) (ih found)

/-! ### The laws of the waiting reports -/

/-- From the host's views the waiting reports lead lawfully to the proximity-sent flags, and the queue
keeps to its bounds (R134, R141). -/
structure QueueFits (views prox : Channel → Bool) (q : List Entry) : Prop where
  motions : motionCount q ≤ 48
  alerts : q.count .alert ≤ 1
  announces : q.countP Entry.isAnnounce ≤ 1
  tools : ∀ c, q.countP (Entry.isToolOf c) ≤ 1
  notices : ∀ c, noticesFit (prox c) (notices c q) = true
  lanes : ∀ c, seesAll c q (some (views c)) = some (prox c)

theorem noticesFit_iff (prox : Bool) (l : List Bool) : noticesFit prox l = true
    ↔ l = [] ∨ l = [prox] ∨ prox = true ∧ l = [false, true] := by
  simp only [noticesFit, Bool.or_eq_true, Bool.and_eq_true, decide_eq_true_eq, or_assoc]

namespace QueueFits

variable {views prox : Channel → Bool} {r : Rqu}

theorem of_alike {q q' : List Entry} (h : QueueFits views prox q)
    (alike : List.Forall₂ Entry.Alike q q') : QueueFits views prox q' := by
  refine ⟨?_, ?_, ?_, fun c => ?_, fun c => ?_, fun c => ?_⟩
  · exact (countP_alike alike fun _ _ same => same.motion).trans_le h.motions
  · have same : q'.count .alert = q.count .alert := countP_alike alike fun _ _ same => by
      simp only [beq_eq_decide]
      exact decide_eq_decide.mpr same.alert
    exact same.trans_le h.alerts
  · exact (countP_alike alike fun _ _ same => same.announce).trans_le h.announces
  · exact (countP_alike alike fun _ _ same => same.tool c).trans_le (h.tools c)
  · rw [notices_alike alike]; exact h.notices c
  · rw [seesAll_alike alike]; exact h.lanes c

/-- Followers of a channel, and ALERTs, can be taken out. -/
theorem filter {q : List Entry} (h : QueueFits views prox q) {keep : Entry → Bool}
    (gone : ∀ e, keep e = false → e = .alert ∨ ∃ c, e.isFollowerOf c = true) :
    QueueFits views prox (q.filter keep) := by
  have sub : (q.filter keep).Sublist q := List.filter_sublist
  refine ⟨(sub.countP_le).trans h.motions, (sub.count_le _).trans h.alerts,
    (sub.countP_le).trans h.announces, fun c => (sub.countP_le).trans (h.tools c), fun c => ?_,
    fun c => ?_⟩
  · rw [notices_filter]
    · exact h.notices c
    · intro e _ out
      obtain rfl | ⟨d, follower⟩ := gone e out
      · rfl
      · exact not_notice_of_follower follower
  · refine seesAll_filter keep (fun e _ out => ?_) (h.lanes c)
    obtain rfl | ⟨d, follower⟩ := gone e out
    · exact .inl ⟨nofun, rfl⟩
    · by_cases own : d = c
      · exact .inr (own ▸ follower)
      · left
        cases e <;> simp_all [Entry.isFollowerOf, Entry.foreign, Entry.channel, Entry.isAnnounce]

/-- An entry that is no notice, of a channel that the host sees with a pen, can be placed. -/
theorem append {q : List Entry} (h : QueueFits views prox q) {e : Entry}
    (motion : e.isMotion = true → motionCount q < 48) (alert : e = .alert → .alert ∉ q)
    (plain : e.isAnnounce = false) (quiet : e.isNotice = false)
    (tool : ∀ c, e.isToolOf c = true → ∀ f ∈ q, f.isToolOf c = false)
    (held : ∀ c, e.isFollowerOf c = true → prox c = true) : QueueFits views prox (q ++ [e]) := by
  refine ⟨?_, ?_, ?_, fun c => ?_, fun c => ?_, fun c => ?_⟩
  · have := h.motions
    simp only [motionCount, List.countP_append, List.countP_singleton] at motion this ⊢
    split
    · have := motion ‹_›; omega
    · omega
  · have := h.alerts
    rw [List.count_append, List.count_singleton]
    split
    next same =>
      have same : e = .alert := by simpa using same
      rw [List.count_eq_zero.mpr (alert same)]
    next => exact this
  · have := h.announces
    simpa [List.countP_append, plain] using this
  · rw [List.countP_append, List.countP_singleton]
    split
    next own => rw [List.countP_eq_zero.mpr fun f mem => by simp [tool c own f mem]]
    next => exact h.tools c
  · rw [notices_append, notices_cons_other quiet, show Machine.notices c [] = [] from rfl,
      List.append_nil]
    exact h.notices c
  · rw [seesAll_append, h.lanes c, seesAll, List.foldl_cons, List.foldl_nil]
    by_cases follower : e.isFollowerOf c = true
    · rw [hostSees_follower follower, held c follower]
      rfl
    · refine hostSees_foreign ⟨?_, plain⟩ _
      cases e <;> simp_all [Entry.isFollowerOf, Entry.channel, Entry.isNotice]

theorem handAlert (h : QueueFits views prox r.queue) :
    QueueFits views prox r.handAlert.queue := by
  unfold Rqu.handAlert
  split
  next => exact h
  next none => exact h.append nofun (fun _ => none) rfl rfl nofun nofun

theorem settleAlert (h : QueueFits views prox r.queue) (had : Bool) (k : Nat) :
    QueueFits views prox (settleAlert had k r).queue := by
  obtain same | ⟨q, n, rfl, same⟩ := settleAlert_queue had k r
  · rw [same]; exact h
  · have alone := h.filter (keep := (· != .alert)) fun e out => .inl (by simpa using out)
    have appended := alone.append (e := .alert) nofun (fun _ => by simp) rfl rfl nofun nofun
    rw [same]
    generalize r.queue.filter (· != .alert) = q at appended
    have moved : (q.take n ++ .alert :: q.drop n).Perm (q ++ [.alert]) := by
      refine List.perm_middle.trans ?_
      rw [List.take_append_drop]
      exact (List.perm_append_singleton _ _).symm
    refine ⟨(moved.countP_eq _).trans_le appended.motions,
      (moved.count_eq _).trans_le appended.alerts,
      (moved.countP_eq _).trans_le appended.announces,
      fun c => (moved.countP_eq _).trans_le (appended.tools c), fun c => ?_, fun c => ?_⟩
    · have notices := appended.notices c
      rw [← List.take_append_drop n q] at notices
      simpa [notices_append, Machine.notices, -List.take_append_drop] using notices
    · have lanes := appended.lanes c
      rw [← List.take_append_drop n q] at lanes
      simpa [seesAll, hostSees, -List.take_append_drop] using lanes

theorem handTool (h : QueueFits views prox r.queue) {c : Channel} (held : prox c = true) (id : Nat)
    (bound : Option Nat) : QueueFits views prox (r.handTool c id bound).queue := by
  have placed {q : List Entry} (h : QueueFits views prox q)
      (none : ∀ f ∈ q, f.isToolOf c = false) : QueueFits views prox (q ++ [.tool c id bound]) := by
    refine h.append nofun nofun rfl rfl (fun d own => ?_) fun d own => ?_
    · obtain rfl : c = d := by simpa [Entry.isToolOf] using own
      exact none
    · obtain rfl : c = d := by simpa [Entry.isFollowerOf] using own
      exact held
  unfold Rqu.handTool
  split
  next =>
    split
    next =>
      refine placed (q := r.queue.filter fun e => !e.isToolOf c) (h.filter fun e out => ?_)
        (by simp)
      exact .inr ⟨c, isFollowerOf_of_isToolOf (by simpa using out)⟩
    next =>
      refine h.of_alike ?_
      dsimp only
      rw [List.forall₂_map_right_iff, List.forall₂_same]
      intro e _
      split
      next own =>
        cases e with
        | tool d i b =>
          obtain rfl : d = c := by simpa [Entry.isToolOf] using own
          exact alike_tools d i id b bound
        | _ => exact absurd own (by simp [Entry.isToolOf])
      next => exact .refl e
  next none => exact placed h (by simpa using none)

theorem handMotion (h : QueueFits views prox r.queue) {m : Motion} (held : prox m.ch = true) :
    QueueFits views prox (r.handMotion m).1.queue := by
  by_cases room : motionCount r.queue < Config.motionLimit
  · rw [handMotion_below r m room]
    refine h.append (fun _ => room) nofun rfl rfl nofun fun c own => ?_
    obtain rfl : m.ch = c := by simpa [Entry.isFollowerOf] using own
    exact held
  · have full := Nat.not_lt.mp room
    cases merged : mergeNewest m (r.gap.get m.ch) r.queue.reverse with
    | none => rw [Rqu.handMotion_dropped full merged]; exact h
    | some q =>
      rw [Rqu.handMotion_merged full merged]
      refine h.of_alike ?_
      have alike := List.rel_reverse (mergeNewest_alike merged)
      rwa [List.reverse_reverse] at alike

/-- An IN is handed of a channel of which no pen has been sent (R139). -/
theorem handIn (h : QueueFits views prox r.queue) {c : Channel} (away : prox c = false) :
    QueueFits views (Function.update prox c true) (r.handIn c).queue := by
  rw [Rqu.handIn_queue]
  refine ⟨?_, ?_, ?_, fun d => ?_, fun d => ?_, fun d => ?_⟩
  · simpa [motionCount, Entry.isMotion] using h.motions
  · simpa using h.alerts
  · simpa [Entry.isAnnounce] using h.announces
  · simpa [Entry.isToolOf] using h.tools d
  · have notices := h.notices d
    by_cases own : d = c
    · subst own
      rw [away, noticesFit_iff] at notices
      rw [notices_append, Function.update_self, noticesFit_iff]
      obtain none | out | ⟨absurd', -⟩ := notices
      · exact .inr (.inl (by simp [none, Machine.notices]))
      · exact .inr (.inr (by simp [out, Machine.notices]))
      · exact absurd absurd' nofun
    · rw [Function.update_of_ne own, notices_append]
      simpa [Machine.notices, Ne.symm own] using notices
  · have lanes := h.lanes d
    rw [seesAll_append, lanes]
    by_cases own : d = c
    · subst own
      simp [hostSees, away]
    · simp [hostSees, Ne.symm own, own]

/-- The unsent IN of a channel, with every later follower, is taken out (R140). -/
theorem cancel {c : Channel} {before after : List Entry}
    (h : QueueFits views prox (before ++ .penIn c :: after)) (here : prox c = true) :
    QueueFits views (Function.update prox c false)
      (before ++ after.filter fun e => !e.isFollowerOf c) := by
  have sub : (before ++ after.filter fun e => !e.isFollowerOf c).Sublist
      (before ++ .penIn c :: after) :=
    List.filter_sublist.cons _ |>.append_left _
  have follower {e : Entry} (out : (!e.isFollowerOf c) = false) : e.isFollowerOf c = true := by
    simpa using out
  have kept (d : Channel) :
      Machine.notices d (after.filter fun e => !e.isFollowerOf c) = Machine.notices d after :=
    notices_filter (fun e _ out => not_notice_of_follower (follower out)) d
  have quiet : Machine.notices c after = []
      ∧ (Machine.notices c before = [] ∨ Machine.notices c before = [false]) := by
    have notices := h.notices c
    rw [here, noticesFit_iff, notices_append] at notices
    simp only [Machine.notices, if_true] at notices
    generalize Machine.notices c before = b at notices
    generalize Machine.notices c after = a at notices
    cases b with
    | nil => simp_all
    | cons x b => cases b <;> simp_all
  refine ⟨(sub.countP_le).trans h.motions, (sub.count_le _).trans h.alerts,
    (sub.countP_le).trans h.announces, fun d => (sub.countP_le).trans (h.tools d), fun d => ?_,
    fun d => ?_⟩
  · rw [notices_append, kept]
    by_cases own : d = c
    · subst own
      rw [Function.update_self, noticesFit_iff, quiet.1, List.append_nil]
      exact quiet.2.imp id .inl
    · rw [Function.update_of_ne own]
      have notices := h.notices d
      rw [notices_append] at notices
      simpa [Machine.notices, Ne.symm own] using notices
  · have lanes := h.lanes d
    rw [seesAll_append, seesAll, List.foldl_cons] at lanes
    rw [seesAll_append]
    by_cases own : d = c
    · subst own
      rw [Function.update_self]
      have away : seesAll d before (some (views d)) = some false := by
        cases seen : seesAll d before (some (views d)) with
        | none => rw [seen, hostSees_none] at lanes; exact absurd ((seesAll_none d after).symm.trans lanes) nofun
        | some v =>
          cases v with
          | false => rfl
          | true =>
            rw [seen, show hostSees d (some true) (.penIn d) = none by simp [hostSees]] at lanes
            exact absurd ((seesAll_none d after).symm.trans lanes) nofun
      rw [away]
      exact seesAll_of_none ((kept d).trans quiet.1) fun e mem => by
        simpa using (List.mem_filter.mp mem).2
    · rw [Function.update_of_ne own]
      refine seesAll_filter _ (fun e _ out => .inl ?_) ?_
      · cases e <;> simp_all [Entry.isFollowerOf, Entry.foreign, Entry.channel, Entry.isAnnounce,
          Ne.symm]
      · rwa [hostSees_foreign ⟨by simpa [Entry.channel] using Ne.symm own, rfl⟩] at lanes

/-- An OUT is handed of a channel of which a pen has been sent: it is placed, or takes the unsent IN
and what follows it of the channel (R140). -/
theorem handOut (h : QueueFits views prox r.queue) {c : Channel} (here : prox c = true) :
    QueueFits views (Function.update prox c false) (r.handOut c).queue := by
  by_cases waiting : .penIn c ∈ r.queue
  · obtain ⟨before, after, shape, oldest⟩ := List.eq_append_cons_of_mem waiting
    have cancelled := cancelIn_split oldest after
    rw [← shape] at cancelled
    rw [Rqu.handOut_of_cancelIn cancelled]
    rw [shape] at h
    exact h.cancel here
  · rw [Rqu.handOut_of_no_in waiting, Rqu.place_queue]
    refine ⟨?_, ?_, ?_, fun d => ?_, fun d => ?_, fun d => ?_⟩
    · simpa [motionCount, Entry.isMotion] using h.motions
    · simpa using h.alerts
    · simpa [Entry.isAnnounce] using h.announces
    · simpa [Entry.isToolOf] using h.tools d
    · have notices := h.notices d
      by_cases own : d = c
      · subst own
        have no_in := mt true_mem_notices.mp waiting
        rw [here, noticesFit_iff] at notices
        rw [notices_append, Function.update_self, noticesFit_iff]
        obtain none | in' | ⟨-, both⟩ := notices
        · exact .inr (.inl (by simp [none, Machine.notices]))
        · exact absurd (by simp [in']) no_in
        · exact absurd (by simp [both]) no_in
      · rw [Function.update_of_ne own, notices_append]
        simpa [Machine.notices, Ne.symm own] using notices
    · rw [seesAll_append, h.lanes d]
      by_cases own : d = c
      · subst own
        simp [hostSees, here]
      · simp [hostSees, Ne.symm own, own]

end QueueFits

end Sys2Proof.Machine
end

section
/-! PROOFS. O59: every step keeps the waiting reports lawful and within their bounds, and starts only
a transmission that is lawful for the host. -/

namespace Sys2Proof.Machine

/-! ### The waiting reports and the slots -/

/-- The laws of the waiting reports, from the host's views to the slots' proximity-sent flags. -/
def Queued (views : Channel → Bool) (s : State) : Prop :=
  QueueFits views (fun c => (s.slot c).prox) s.rqu.queue

theorem Queued.of_same {views : Channel → Bool} {s t : State} (h : Queued views s)
    (prox : ∀ c, (t.slot c).prox = (s.slot c).prox) (queue : t.rqu.queue = s.rqu.queue) :
    Queued views t := by
  unfold Queued
  rw [queue, funext prox]
  exact h

/-- A change of one slot's flag, with the queue that goes with it. -/
theorem Queued.of_update {views : Channel → Bool} {s t : State} {c : Channel} {p : Bool}
    (h : QueueFits views (Function.update (fun c => (s.slot c).prox) c p) t.rqu.queue)
    (own : (t.slot c).prox = p) (other : ∀ d, d ≠ c → (t.slot d).prox = (s.slot d).prox) :
    Queued views t := by
  have flags : (fun c => (t.slot c).prox) = Function.update (fun c => (s.slot c).prox) c p := by
    funext d
    by_cases here : d = c
    · subst here; rw [Function.update_self]; exact own
    · rw [Function.update_of_ne here]; exact other d here
  unfold Queued
  rwa [flags]

section
variable {views : Channel → Bool} {s : State}

theorem endProximity_queued (h : Queued views s) (c : Channel) (st : SlotState) :
    Queued views (endProximity c st s) := by
  refine .of_update (s := s) (c := c) (p := false) ?_ ?_ fun d other => ?_
  · rw [endProximity_rqu]
    split
    next sent => exact h.handOut sent
    next away =>
      have away : (s.slot c).prox = false := by simpa using away
      rw [← away, Function.update_eq_self (f := fun c => (s.slot c).prox)]
      exact h
  · rw [endProximity_slot, if_pos rfl]; rfl
  · rw [endProximity_slot, if_neg other]

theorem Handed.fits {c : Channel} {prox : Channel → Bool} {r q : Rqu}
    (h : QueueFits views prox r.queue) (here : prox c = true) (handed : Handed c r q) :
    QueueFits views prox q.queue := by
  induction handed with
  | refl => exact h
  | alert _ ih => exact ih.handAlert
  | tool id bound _ ih => exact ih.handTool here id bound
  | motion m own _ ih => exact ih.handMotion (own ▸ here)

theorem closeSlot_queued (consistent : SlotsConsistent s) (h : Queued views s) (c : Channel) :
    Queued views (closeSlot s c) := by
  obtain same | ⟨pitch, k, -, same⟩ | ⟨bit, r, active, reached, closed⟩ := closeSlot_cases s c
  · rwa [same]
  · rw [same]
    refine h.of_same (fun d => ?_) rfl
    rw [State.slot_setSlot]
    split
    next own => subst own; rfl
    next => rfl
  · have fits : QueueFits views (fun c => (s.slot c).prox) r.queue := by
      obtain rfl | rfl := reached
      · exact h
      · exact h.handAlert
    have sent := (consistent.slot c).prox
    have flag (u : Bool) (same : u = (s.slot c).prox) :
        QueueFits views (Function.update (fun c => (s.slot c).prox) c u) r.queue := by
      rw [same, Function.update_eq_self (f := fun c => (s.slot c).prox)]
      exact fits
    refine .of_update (s := s) (c := c) (p := ((closeSlot s c).slot c).prox) ?_ rfl
      fun d other => by rw [closeSlot_other c d s other]
    generalize (closeSlot s c).slot c = u at closed
    generalize (closeSlot s c).rqu = q at closed
    cases closed
    case dropped core => exact flag _ (congrArg SlotCore.prox core)
    case counted core => exact flag _ (congrArg SlotCore.prox core)
    case entered confirm core handed =>
      have away : (s.slot c).prox = false := by
        rw [Bool.eq_false_iff]
        intro held
        exact absurd ((sent.mp held).symm.trans confirm) nofun
      rw [show u.prox = true from congrArg SlotCore.prox core]
      exact Handed.fits (fits.handIn away) (Function.update_self ..) handed
    case lost track core =>
      have held : (s.slot c).prox = true := sent.mpr track
      rw [show u.prox = false from congrArg SlotCore.prox core,
        show (decodedSlot s.wdc s.ptb bit (s.slot c)).prox = true from held, if_pos rfl]
      exact fits.handOut held
    case followed track _ _ _ core handed =>
      have same : u.prox = (s.slot c).prox := congrArg SlotCore.prox core
      rw [same, Function.update_eq_self (f := fun c => (s.slot c).prox)]
      exact Handed.fits fits (sent.mpr track) handed

theorem releaseSlot_queued (h : Queued views s) (c : Channel) : Queued views (releaseSlot s c) := by
  unfold releaseSlot
  split
  · exact h
  · exact h.of_same (fun d => by rw [restartSearch_slot]) rfl
  · exact endProximity_queued h c .search
  · exact endProximity_queued h c .search

theorem setState_queued (h : Queued views s) (c : Channel) (st : SlotState) :
    Queued views (s.setSlot c { s.slot c with state := st }) :=
  h.of_same (fun d => by rw [State.slot_setSlot]; split <;> simp_all) rfl

theorem enableSlot_queued (h : Queued views s) (set : PerChannel Bool) (c : Channel) :
    Queued views (enableSlot set s c) := by
  unfold enableSlot
  dsimp only
  split
  · exact setState_queued h c .search
  · exact setState_queued h c .idle
  · exact endProximity_queued h c .idle
  · exact endProximity_queued h c .idle
  · exact h

theorem takeUp_queued (h : Queued views s) : Queued views (takeUp s) := by
  have taken : Queued views (takeWord (takeScan s)) :=
    h.of_same (fun c => by simp [State.slot]) (by simp)
  have enabled : Queued views (takeEnable (takeWord (takeScan s))) := by
    unfold takeEnable
    split
    · exact taken
    next set _ =>
      exact List.foldlRecOn (motive := Queued views) Channel.all (enableSlot set)
        (b := ((takeWord (takeScan s)).setBpl _).setPtr _) taken
        fun _ kept c _ => enableSlot_queued kept set c
  exact List.foldlRecOn (motive := Queued views) _ releaseSlot
    (b := (takeEnable (takeWord (takeScan s))).setBpl _) enabled
    fun _ kept c _ => releaseSlot_queued kept c

/-- The slots that hold a tool ID have had their proximity sent. -/
def ToolsSent (s : State) : Prop := ∀ c, (s.slot c).toolId ≠ none → (s.slot c).prox = true

theorem SlotsConsistent.toolsSent (h : SlotsConsistent s) : ToolsSent s := fun c held =>
  (h.slot c).prox.mpr ((h.slot c).toolId held)

theorem rebindSlot_queued (sent : ToolsSent s) (h : Queued views s) (id : Nat) (c : Channel) :
    ToolsSent (rebindSlot id s c) ∧ Queued views (rebindSlot id s c) := by
  have prox (d : Channel) : ((rebindSlot id s c).slot d).prox = (s.slot d).prox := by
    rw [rebindSlot_slot]
    split
    next own => obtain ⟨rfl, -⟩ := own; rfl
    next => rfl
  have toolId (d : Channel) : ((rebindSlot id s c).slot d).toolId = (s.slot d).toolId := by
    rw [rebindSlot_slot]
    split
    next own => obtain ⟨rfl, -⟩ := own; rfl
    next => rfl
  refine ⟨fun d held => ?_, ?_⟩
  · rw [prox]
    exact sent d (toolId d ▸ held)
  · unfold Queued
    rw [funext prox]
    unfold rebindSlot
    dsimp only
    split
    next own =>
      split
      · exact h
      · exact h.handTool (sent c (by rw [own]; nofun)) id _
    next => exact h

theorem rebindSlots_queued (sent : ToolsSent s) (h : Queued views s) (t : Ptb) (id : Nat) :
    Queued views (rebindSlots id (s.setPtb t)) :=
  (List.foldlRecOn (motive := fun t => ToolsSent t ∧ Queued views t) Channel.all (rebindSlot id)
    (b := s.setPtb t) ⟨sent, h⟩ fun _ kept c _ => rebindSlot_queued kept.1 kept.2 id c).2

end

theorem queued_kept (views : Channel → Bool) :
    KeptByTracker fun s => SlotsConsistent s ∧ Queued views s where
  same := by
    rintro s t same ⟨consistent, h⟩
    refine ⟨slotsConsistent_kept.same same consistent, h.of_same (fun c => ?_) ?_⟩
    · rw [slot_of_tracking same]
    · exact congrArg TrackView.queue same
  rescan := fun f stands ⟨consistent, h⟩ => ⟨slotsConsistent_kept.rescan f stands consistent, h⟩
  alert := fun ⟨consistent, h⟩ => ⟨slotsConsistent_kept.alert consistent, QueueFits.handAlert h⟩
  clear := by
    rintro s c ⟨consistent, h⟩
    refine ⟨slotsConsistent_kept.clear c consistent, ?_⟩
    unfold clearSlot
    split
    · exact endProximity_queued h c .search
    · exact h
  close := fun c running ⟨consistent, h⟩ =>
    ⟨slotsConsistent_kept.close c running consistent, closeSlot_queued consistent h c⟩
  settle := fun had k ⟨consistent, h⟩ =>
    ⟨slotsConsistent_kept.settle had k consistent, QueueFits.settleAlert h had k⟩
  takeUp := fun running ⟨consistent, h⟩ =>
    ⟨slotsConsistent_kept.takeUp running consistent, takeUp_queued h⟩
  stageScan := fun r legal ⟨consistent, h⟩ =>
    ⟨slotsConsistent_kept.stageScan r legal consistent, h⟩
  stageWord := fun r legal ⟨consistent, h⟩ =>
    ⟨slotsConsistent_kept.stageWord r legal consistent, h⟩
  stageEnable := fun set releases ⟨consistent, h⟩ =>
    ⟨slotsConsistent_kept.stageEnable set releases consistent, h⟩
  loadTool := fun id r ⟨consistent, h⟩ => ⟨slotsConsistent_kept.loadTool id r consistent,
    rebindSlots_queued consistent.toolsSent h _ id⟩
  loadDefault := fun c r ⟨consistent, h⟩ => ⟨slotsConsistent_kept.loadDefault c r consistent, h⟩
  dropTool := fun id ⟨consistent, h⟩ => ⟨slotsConsistent_kept.dropTool id consistent,
    rebindSlots_queued consistent.toolsSent h _ id⟩

/-! ### The bounds of the queue (R134) -/

theorem QueueFits.tail {views prox : Channel → Bool} {e : Entry} {q : List Entry}
    (h : QueueFits views prox (e :: q)) :
    ∃ views' : Channel → Bool, (∀ c, hostSees c (some (views c)) e = some (views' c))
      ∧ QueueFits views' prox q := by
  have seen (c : Channel) : ∃ v, hostSees c (some (views c)) e = some v := by
    cases first : hostSees c (some (views c)) e with
    | some v => exact ⟨v, rfl⟩
    | none =>
      have lanes := h.lanes c
      rw [seesAll, List.foldl_cons, first] at lanes
      exact absurd ((seesAll_none c q).symm.trans lanes) nofun
  choose views' seen using seen
  have sub : q.Sublist (e :: q) := List.sublist_cons_self e q
  refine ⟨views', seen, (sub.countP_le).trans h.motions, (sub.count_le _).trans h.alerts,
    (sub.countP_le).trans h.announces, fun c => (sub.countP_le).trans (h.tools c), fun c => ?_,
    fun c => ?_⟩
  · have notices := h.notices c
    rw [notices_cons, noticesFit_iff] at notices
    rw [noticesFit_iff]
    generalize Machine.notices c q = l at notices
    have one : Machine.notices c [e] = [] ∨ ∃ b, Machine.notices c [e] = [b] := by
      cases e <;> simp only [Machine.notices]
      case penIn d => by_cases own : d = c <;> simp [own]
      case penOut d => by_cases own : d = c <;> simp [own]
      all_goals simp
    obtain none | ⟨b, one⟩ := one
    · rwa [none, List.nil_append] at notices
    · rw [one, List.singleton_append] at notices
      obtain absurd' | same | ⟨held, same⟩ := notices
      · exact absurd absurd' nofun
      · exact .inl (List.cons.inj same).2
      · rw [(List.cons.inj same).2, held]
        exact .inr (.inl rfl)
  · have lanes := h.lanes c
    rwa [seesAll, List.foldl_cons, seen c] at lanes

/-- Every entry is counted by one of the bounds. -/
theorem length_eq_counts (q : List Entry) : q.length = motionCount q + q.count .alert
    + q.countP Entry.isAnnounce
    + (q.countP (Entry.isToolOf .c0) + q.countP (Entry.isToolOf .c1)
      + q.countP (Entry.isToolOf .c2) + q.countP (Entry.isToolOf .c3))
    + ((notices .c0 q).length + (notices .c1 q).length + (notices .c2 q).length
      + (notices .c3 q).length) := by
  induction q with
  | nil => rfl
  | cons e q ih =>
    simp only [motionCount] at ih
    cases e with
    | motion m =>
      simp [motionCount, List.countP_cons, notices, Entry.isMotion, Entry.isAnnounce,
        Entry.isToolOf, ih]
      omega
    | alert =>
      simp [motionCount, List.countP_cons, notices, Entry.isMotion, Entry.isAnnounce,
        Entry.isToolOf, ih]
      omega
    | announce f v l k =>
      simp [motionCount, List.countP_cons, notices, Entry.isMotion, Entry.isAnnounce,
        Entry.isToolOf, ih]
      omega
    | penIn c | penOut c | tool c i b =>
      cases c <;> simp [motionCount, List.countP_cons, notices, Entry.isMotion, Entry.isAnnounce,
        Entry.isToolOf, ih] <;> omega

theorem QueueFits.length_le {views prox : Channel → Bool} {q : List Entry}
    (h : QueueFits views prox q) : q.length ≤ 64 := by
  have few (c : Channel) : (Machine.notices c q).length ≤ 2 := by
    have notices := h.notices c
    rw [noticesFit_iff] at notices
    obtain none | one | ⟨-, two⟩ := notices
    · simp [none]
    · simp [one]
    · simp [two]
  have total := length_eq_counts q
  have := h.motions
  have := h.alerts
  have := h.announces
  have := h.tools .c0
  have := h.tools .c1
  have := h.tools .c2
  have := h.tools .c3
  have := few .c0
  have := few .c1
  have := few .c2
  have := few .c3
  omega

/-! ### The line (R187, R189) -/

/-- The pins, the Command Processor, what is in transmission and the pending replies. -/
def State.line (s : State) : Pins × CprPhase × Option Transmission × List Reply :=
  (s.pins, s.cpr, s.lnk.tx, s.lnk.replies)

theorem line_of_unscanned {s t : State} (same : t.unscanned = s.unscanned) : t.line = s.line := by
  simp only [State.unscanned, Prod.mk.injEq] at same
  obtain ⟨pins, _, lnk, cpr, _⟩ := same
  simp only [State.line, pins, lnk, cpr]

/-- What an effect that is no reset does to the line: a sent frame leaves it, a reply joins, and
nothing else. -/
structure LineKept (s u : State) : Prop where
  pins : u.pins = s.pins
  tx : u.lnk.tx = s.lnk.tx ∨ u.lnk.tx = none ∧ s.sendDue = true
  due : u.cpr = .resetDue → s.cpr = .resetDue ∨ u.lnk.tx = none
  replies : ∀ r ∈ u.lnk.replies, r ∈ s.lnk.replies ∨ 0x80 ≤ r.kind.toNat

theorem LineKept.of_line {s u : State} (same : u.line = s.line) : LineKept s u := by
  simp only [State.line, Prod.mk.injEq] at same
  obtain ⟨pins, cpr, tx, replies⟩ := same
  exact ⟨pins, .inl tx, fun due => .inl (cpr ▸ due), fun r mem => .inl (replies ▸ mem)⟩

theorem LineKept.replied {s u : State} {rest : List Command}
    (same : u.lnk = (taken rest s).lnk ∧ u.pins = s.pins ∧ u.cpr = s.cpr) {r : Reply}
    (kind : 0x80 ≤ r.kind.toNat) : LineKept s (Machine.replied r u) := by
  obtain ⟨lnk, pins, cpr⟩ := same
  refine ⟨pins, .inl ((congrArg Lnk.tx lnk).trans rfl), fun due => .inl (cpr ▸ due), fun q mem => ?_⟩
  obtain old | new := List.mem_append.mp mem
  · exact .inl (congrArg Lnk.replies lnk ▸ old)
  · obtain rfl := List.mem_singleton.mp new
    exact .inr kind

theorem raiseFault_line (f : FaultId) (s : State) : (raiseFault f s).line = s.line := by
  simp [State.line]

theorem Effect.restarts_or_line {s u : State} (e : Effect s u) : Restart s u ∨ LineKept s u := by
  have unscanned {t : State} (same : t.unscanned = s.unscanned) : Restart s t ∨ LineKept s t :=
    .inr (.of_line (line_of_unscanned same))
  cases e
  case resetAsserted => exact .inl .asserted
  case resetReleased low l fast => exact .inl (.released low l fast)
  case commandReset due => exact .inl (.commanded due)
  case received b =>
    exact .inr (.of_line (receive_keeps (P := fun t => t.line = s.line) (fun _ _ _ h => h)
      (fun f t h => (raiseFault_line f t).trans h) b rfl))
  case framerGap => exact .inr (.of_line (raiseFault_line _ _))
  case lockEnded | acquisitionEnded => exact .inr (.of_line (raiseFault_line _ _))
  case answered ruled kind _ => exact .inr (.replied ruled.lnk kind)
  case resetTaken c rest free head =>
    obtain ⟨pins, tx, -, replies⟩ := LineKept.replied (s := s) (u := taken rest s) (rest := rest)
      ⟨rfl, rfl, rfl⟩ (r := ⟨CommandKind.replyCode .reset, c.tag, u8 Status.ok.code, true⟩)
      (replyCode_high .reset)
    exact .inr ⟨pins, tx, nofun, replies⟩
  case transmitted due =>
    refine .inr (freeTransmitter_keeps (P := fun t => LineKept s t ∧ t.lnk.tx = none)
      ⟨?_, rfl⟩ fun t ⟨h, sent⟩ => ?_).1
    · exact ⟨rfl, .inr ⟨rfl, due⟩, fun _ => .inr rfl, fun _ mem => .inl mem⟩
    · exact ⟨⟨h.pins, h.tx, fun _ => .inr sent, h.replies⟩, sent⟩
  case bounded => exact unscanned (boundary_unscanned s)
  case edgeCaptured => exact unscanned (captureFsync_unscanned s)
  case excited =>
    exact unscanned (foldl_keeps State.unscanned _ (fun s sh => by simp [State.unscanned]) _ s)
  case listened =>
    exact unscanned (foldl_keeps State.unscanned _ (fun s sh => by simp [State.unscanned]) _ s)
  case completed sh b r _ _ => exact unscanned (completeBurst_unscanned s sh b r)
  case overcurrent sh _ => exact unscanned (overcurrent_unscanned s sh)
  all_goals exact unscanned rfl

theorem LineLawful.of_same {s t : State} (h : LineLawful s)
    (low : t.pins.resetLow = s.pins.resetLow) (cpr : t.cpr = s.cpr)
    (tx : t.lnk.tx = s.lnk.tx) (replies : t.lnk.replies = s.lnk.replies) : LineLawful t :=
  ⟨fun l => tx.trans (h.low (low ▸ l)), fun d => tx.trans (h.due (cpr ▸ d)),
    fun r mem => h.replies r (replies ▸ mem)⟩

/-- A state with nothing in transmission. -/
theorem LineLawful.of_free {t : State} (tx : t.lnk.tx = none)
    (replies : ∀ r ∈ t.lnk.replies, 0x80 ≤ r.kind.toNat) : LineLawful t :=
  ⟨fun _ => tx, fun _ => tx, replies⟩

/-! ### A transmission and the host (R145, R174, R192, R196) -/

theorem frameBytes_kind (kind tag : Byte) (p : List Byte) :
    (frameBytes kind tag p)[2]? = some kind := rfl

/-- A frame that is neither an ANNOUNCE nor a report of a channel tells the host nothing. -/
theorem wireSees_of_other {bytes : List Byte} {kind : Byte} (is : bytes[2]? = some kind)
    (other : kind = 0x44 ∨ 0x80 ≤ kind.toNat) (c : Channel) (view : Bool) :
    wireSees c view bytes = some view := by
  have differs (b : Byte) (low : b.toNat < 0x80) (alert : b ≠ 0x44) : kind ≠ b := by
    rintro rfl
    obtain same | high := other
    · exact alert same
    · omega
  have h40 := differs 0x40 (by decide) (by decide)
  have h41 := differs 0x41 (by decide) (by decide)
  have h42 := differs 0x42 (by decide) (by decide)
  have h43 := differs 0x43 (by decide) (by decide)
  have h45 := differs 0x45 (by decide) (by decide)
  unfold wireSees
  simp only [is, Option.some.injEq]
  rw [if_neg h45, if_neg h41, if_neg h42, if_neg (not_or.mpr ⟨h40, h43⟩), ite_self]

theorem channelByte_inj {c d : Channel} :
    (BitVec.ofNat 8 d.num = BitVec.ofNat 8 c.num) ↔ d = c := by
  cases c <;> cases d <;> decide

/-- What the host reads in the frame of a report of channel `d`. -/
theorem wireSees_channel {bytes : List Byte} {kind : Byte} {d : Channel}
    (is : bytes[2]? = some kind) (first : bytes[4]? = some (BitVec.ofNat 8 d.num)) (c : Channel)
    (view : Bool) : wireSees c view bytes = if kind = 0x45 then some false
      else if d ≠ c then some view
      else if kind = 0x41 then if view then none else some true
      else if kind = 0x42 then if view then some false else none
      else if kind = 0x40 ∨ kind = 0x43 then if view then some true else none
      else some view := by
  simp only [wireSees, is, first, Option.some.injEq, ne_eq, channelByte_inj]

/-- The host reads a report's bytes as the report (R192, R196). -/
theorem wireSees_report (a : AlertContent) (e : Entry) (c : Channel) (view : Bool) :
    wireSees c view (reportFrame a e) = hostSees c (some view) e := by
  cases e with
  | alert => exact wireSees_of_other (frameBytes_kind ..) (.inl rfl) c view
  | announce f v l k => rfl
  | motion m =>
    rw [wireSees_channel (bytes := reportFrame a (.motion m)) (kind := 0x40) (d := m.ch) rfl rfl]
    by_cases own : m.ch = c <;> cases view <;> simp [hostSees, own, Option.filter]
  | penIn d =>
    rw [wireSees_channel (bytes := reportFrame a (.penIn d)) (kind := 0x41) (d := d) rfl rfl]
    by_cases own : d = c <;> cases view <;> simp [hostSees, own]
  | penOut d =>
    rw [wireSees_channel (bytes := reportFrame a (.penOut d)) (kind := 0x42) (d := d) rfl rfl]
    by_cases own : d = c <;> cases view <;> simp [hostSees, own]
  | tool d i b =>
    rw [wireSees_channel (bytes := reportFrame a (.tool d i b)) (kind := 0x43) (d := d) rfl rfl]
    by_cases own : d = c <;> cases view <;> simp [hostSees, own, Option.filter]

theorem startFrame_left (s : State) (kind tag : Byte) (p : List Byte) (ofReset : Bool) :
    0 < (startFrame s (frameBytes kind tag p) ofReset).left := by
  have sent := frameBytes_length kind tag p
  simp only [startFrame, sendTime, sent]
  split <;> omega

/-- The arbiter's choice: nothing, a reply, or the report at the head of the queue. -/
theorem arbitrate_cases (s : State) : arbitrate s = s
    ∨ s.txReady = true ∧ ∃ y, (arbitrate s).lnk.tx = some y ∧ 0 < y.left
      ∧ ((arbitrate s).rqu.queue = s.rqu.queue ∧ (∃ r ∈ s.lnk.replies, y.bytes = replyFrame r)
        ∨ ∃ a e, s.rqu.queue = e :: (arbitrate s).rqu.queue ∧ y.bytes = reportFrame a e) := by
  unfold arbitrate
  split
  next ready =>
    split
    case h_1 r rest replies =>
      refine .inr ⟨ready, _, rfl, startFrame_left .., .inl ⟨rfl, r, ?_, rfl⟩⟩
      rw [replies]
      exact List.mem_cons_self
    case h_2 e rest replies hold queue =>
      exact .inr ⟨ready, _, rfl, startFrame_left .., .inr ⟨_, e, queue, rfl⟩⟩
    case h_3 => exact .inl rfl
  next => exact .inl rfl

theorem tx_none_of_ready {s : State} (ready : s.txReady = true) : s.lnk.tx = none := by
  simp only [State.txReady, Bool.and_eq_true, Option.isNone_iff_eq_none] at ready
  exact ready.2

/-- The arbiter's choice moves the host's views on as the frame it starts says, and the reports then
waiting lead from them to the flags. -/
theorem arbitrate_sees {views : Channel → Bool} {s : State} (h : Queued views s)
    (plain : ∀ r ∈ s.lnk.replies, 0x80 ≤ r.kind.toNat) : arbitrate s = s
    ∨ s.txReady = true ∧ ∃ y views', (arbitrate s).lnk.tx = some y ∧ 0 < y.left
      ∧ (∀ c, wireSees c (views c) y.bytes = some (views' c)) ∧ Queued views' (arbitrate s) := by
  have prox (c : Channel) : ((arbitrate s).slot c).prox = (s.slot c).prox := by
    rw [arbitrate_slot]
  obtain same | ⟨ready, y, tx, left, ⟨queue, r, mem, bytes⟩ | ⟨a, e, queue, bytes⟩⟩ :=
    arbitrate_cases s
  · exact .inl same
  · refine .inr ⟨ready, y, views, tx, left, fun c => ?_, h.of_same prox queue⟩
    rw [bytes]
    exact wireSees_of_other (frameBytes_kind ..) (.inr (plain r mem)) c (views c)
  · unfold Queued at h
    rw [queue] at h
    obtain ⟨views', seen, rest⟩ := h.tail
    refine .inr ⟨ready, y, views', tx, left, fun c => ?_, ?_⟩
    · rw [bytes, wireSees_report]
      exact seen c
    · unfold Queued
      rwa [funext prox]

theorem arbitrate_lawful {s : State} (h : LineLawful s) : LineLawful (arbitrate s) := by
  have replies (r : Reply) (mem : r ∈ (arbitrate s).lnk.replies) : 0x80 ≤ r.kind.toNat := by
    obtain same | ⟨q, more⟩ := arbitrate_replies s
    · exact h.replies r (same ▸ mem)
    · exact h.replies r (by rw [more]; exact List.mem_cons_of_mem _ mem)
  cases ready : s.txReady with
  | false => rwa [arbitrate_of_not_ready s ready]
  | true =>
    simp only [State.txReady, Bool.and_eq_true, Bool.not_eq_true', bne_iff_ne] at ready
    refine ⟨fun low => ?_, fun due => ?_, replies⟩
    · rw [arbitrate_pins] at low
      exact absurd (low.symm.trans ready.1.1) nofun
    · rw [arbitrate_cpr] at due
      exact absurd due ready.1.2

theorem LineKept.lawful {s u : State} (kept : LineKept s u) (h : LineLawful s) : LineLawful u := by
  refine ⟨fun low => ?_, fun due => ?_, fun r mem => (kept.replies r mem).elim (h.replies r) id⟩
  · obtain same | ⟨none, -⟩ := kept.tx
    · exact same.trans (h.low (kept.pins ▸ low))
    · exact none
  · obtain same | ⟨none, -⟩ := kept.tx
    · exact (kept.due due).elim (fun due => same.trans (h.due due)) id
    · exact none

/-! ### The laws after a step -/

theorem QueueLawful.queued {s : State} (h : QueueLawful s) : ∃ views, Queued views s := by
  choose views lanes using h.lanes
  exact ⟨views, h.bounded.motions, h.bounded.alerts, h.bounded.announces, h.bounded.tools,
    h.bounded.notices, lanes⟩

/-- A view that the host can hold of one channel is one of its views of all of them. -/
theorem QueueLawful.queued_from {s : State} (h : QueueLawful s) {c : Channel} {view : Bool}
    (host : s.rqu.queue.foldl (hostSees c) (some view) = some (s.slot c).prox) :
    ∃ views, views c = view ∧ Queued views s := by
  obtain ⟨views, queued⟩ := h.queued
  refine ⟨Function.update views c view, Function.update_self .., queued.motions, queued.alerts,
    queued.announces, queued.tools, queued.notices, fun d => ?_⟩
  by_cases own : d = c
  · subst own
    rw [Function.update_self]
    exact host
  · rw [Function.update_of_ne own]
    exact queued.lanes d

theorem Queued.lawful {views : Channel → Bool} {s : State} (h : Queued views s)
    (consistent : SlotsConsistent s) (line : LineLawful s) : QueueLawful s :=
  ⟨⟨h.motions, h.alerts, h.announces, h.tools, h.notices,
      fun c => (consistent.slot c).prox.mp⟩,
    fun c => ⟨views c, h.lanes c⟩, consistent, line⟩

/-- What O59 says of a step from `s` to `t`. -/
def Follows (s t : State) : Prop :=
  QueueLawful t ∧ t.rqu.queue.length ≤ 64
    ∧ ∀ c view, HostAt s c view →
      ∃ seen, wireSees c view (frameStarted s t) = some seen ∧ HostAt t c seen

theorem wireSees_nil (c : Channel) (view : Bool) : wireSees c view [] = some view := by
  simp [wireSees]

theorem frameStarted_idle {s t : State} (idle : t.lnk.tx = s.lnk.tx ∨ t.lnk.tx = none) :
    frameStarted s t = [] := by
  unfold frameStarted
  split
  next => rfl
  next y tx =>
    rw [tx] at idle
    obtain same | none := idle
    · simp [← same]
    · exact absurd none nofun

theorem frameStarted_new {s t : State} {y : Transmission} (tx : t.lnk.tx = some y)
    (left : 0 < y.left) (free : s.lnk.tx = none ∨ s.sendDue = true) :
    frameStarted s t = y.bytes := by
  unfold frameStarted
  rw [tx]
  dsimp only
  refine if_pos ?_
  obtain none | due := free
  · rw [none]; rfl
  · cases sent : s.lnk.tx with
    | none => rfl
    | some x =>
      simp only [State.sendDue, sent, Option.any_some, Bool.and_eq_true, decide_eq_true_eq] at due
      simpa [due.2] using left

/-- Where an effect keeps the laws whatever views the host holds, the arbiter's choice after it follows
them. -/
theorem arbitrate_follows {s u : State} (consistent : SlotsConsistent u) (line : LineLawful u)
    (queued : ∃ views, Queued views u)
    (host : ∀ c view, HostAt s c view → u.pins.resetLow = false →
      ∃ views, views c = view ∧ Queued views u)
    (free : u.lnk.tx = s.lnk.tx ∨ u.lnk.tx = none
      ∧ (u.pins.resetLow = false → s.lnk.tx = none ∨ s.sendDue = true)) :
    Follows s (arbitrate u) := by
  obtain ⟨views, queued⟩ := queued
  have idle : u.lnk.tx = s.lnk.tx ∨ u.lnk.tx = none := free.imp_right (·.1)
  refine ⟨?_, ?_, fun c view at' => ?_⟩
  · obtain same | ⟨-, y, views', -, -, -, after⟩ := arbitrate_sees queued line.replies
    · rw [same]
      exact queued.lawful consistent line
    · exact after.lawful (arbitrate_slotsConsistent consistent) (arbitrate_lawful line)
  · obtain same | ⟨e, longer⟩ := arbitrate_queue u
    · rw [same]
      exact queued.length_le
    · have long := queued.length_le
      simp only [longer, List.length_cons] at long
      omega
  · cases low : u.pins.resetLow with
    | true =>
      rw [arbitrate_of_not_ready u (txReady_of_low low), frameStarted_idle idle]
      exact ⟨view, wireSees_nil c view, fun high => absurd (low.symm.trans high) nofun⟩
    | false =>
      obtain ⟨views, rfl, queued⟩ := host c view at' low
      obtain same | ⟨ready, y, views', tx, left, seen, after⟩ := arbitrate_sees queued line.replies
      · rw [same, frameStarted_idle idle]
        exact ⟨views c, wireSees_nil c _, fun _ => queued.lanes c⟩
      · have none := tx_none_of_ready ready
        rw [frameStarted_new tx left (free.elim (fun same => .inl (same.symm.trans none)) (·.2 low))]
        exact ⟨views' c, seen c, fun _ => after.lanes c⟩

theorem resetBlocks_queued {pins : Pins} {l : Layout} {q : List Entry} {s : State}
    {views : Channel → Bool} (q' : QueueFits views (fun _ => false) q) :
    Queued views (s.resetBlocks pins l q) := by
  have flags : (fun c => ((s.resetBlocks pins l q).slot c).prox) = fun _ => false := by
    funext c
    rw [resetBlocks_slot]
    rfl
  unfold Queued
  rw [flags]
  exact q'

theorem announce_fits (views : Channel → Bool) (l : Layout) (k : ResetCause) :
    QueueFits views (fun _ => false) [announceEntry l k] :=
  ⟨by simp [motionCount, announceEntry, Entry.isMotion], by simp [announceEntry],
    by simp [announceEntry, Entry.isAnnounce], fun c => by simp [announceEntry, Entry.isToolOf],
    fun c => rfl, fun c => rfl⟩

theorem empty_fits : QueueFits (fun _ => false) (fun _ => false) [] :=
  ⟨by decide, by decide, by decide, fun _ => by simp, fun _ => rfl, fun _ => rfl⟩

theorem Restart.follows {s u : State} (e : Restart s u) (h : QueueLawful s) :
    Follows s (arbitrate u) := by
  have consistent := e.slotsConsistent
  cases e
  case asserted =>
    exact arbitrate_follows consistent (.of_free rfl nofun) ⟨_, resetBlocks_queued empty_fits⟩
      (fun _ _ _ high => absurd high nofun) (.inr ⟨rfl, fun high => absurd high nofun⟩)
  case released low l fast =>
    have queued (views : Channel → Bool) :
        Queued views (s.resetBlocks ⟨false, l, fast, .pin⟩ l [announceEntry l .pin]) :=
      resetBlocks_queued (announce_fits views l .pin)
    exact arbitrate_follows consistent (.of_free rfl nofun) ⟨fun _ => false, queued _⟩
      (fun _ view _ _ => ⟨fun _ => view, rfl, queued _⟩) (.inr ⟨rfl, fun _ => .inl (h.line.low low)⟩)
  case commanded due =>
    have queued (views : Channel → Bool) :
        Queued views (s.resetBlocks { s.pins with cause := .command } s.cfe.layout
          [announceEntry s.cfe.layout .command]) :=
      resetBlocks_queued (announce_fits views s.cfe.layout .command)
    exact arbitrate_follows consistent (.of_free rfl nofun) ⟨fun _ => false, queued _⟩
      (fun _ view _ _ => ⟨fun _ => view, rfl, queued _⟩) (.inr ⟨rfl, fun _ => .inl (h.line.due due)⟩)

theorem Effect.follows {s u : State} (e : Effect s u) (h : QueueLawful s) :
    Follows s (arbitrate u) := by
  by_cases restart : Restart s u
  · exact restart.follows h
  · have line := e.restarts_or_line.resolve_left restart
    have kept {views : Channel → Bool} (queued : Queued views s) : Queued views u :=
      ((e.restarts_or_keeps (queued_kept views) ⟨h.slots, queued⟩).resolve_left restart).2
    obtain ⟨views, queued⟩ := h.queued
    refine arbitrate_follows (e.slotsConsistent h.slots) (line.lawful h.line) ⟨views, kept queued⟩
      (fun c view host high => ?_) (line.tx.imp_right fun sent => ⟨sent.1, fun _ => .inr sent.2⟩)
    obtain ⟨views, own, queued⟩ := h.queued_from (host (line.pins ▸ high))
    exact ⟨views, own, kept queued⟩

/-- A state that differs in no report, slot, pin, reply or phase, and in transmission only by time
left. -/
theorem Follows.of_tick {s u : State} (h : Follows s u) (began : s.lnk.tx = none ∨ u = s) :
    Follows s (tick u) := by
  obtain ⟨lawful, few, host⟩ := h
  have queued : QueueLawful (tick u) := by
    obtain ⟨views, queued⟩ := lawful.queued
    refine Queued.lawful (views := views) queued
      (slotsConsistent_kept.same (s := u) rfl lawful.slots) ⟨fun low => ?_, fun due => ?_, ?_⟩
    · exact Option.map_eq_none_iff.mpr (lawful.line.low low)
    · exact Option.map_eq_none_iff.mpr (lawful.line.due due)
    · exact lawful.line.replies
  have started : frameStarted s (tick u) = frameStarted s u := by
    have tx : (tick u).lnk.tx = u.lnk.tx.map fun x => { x with left := x.left - 3 } := rfl
    obtain free | rfl := began
    · unfold frameStarted
      rw [tx, free]
      cases u.lnk.tx <;> rfl
    · unfold frameStarted
      rw [tx]
      cases u.lnk.tx with
      | none => rfl
      | some x => simp
  refine ⟨queued, few, fun c view at' => ?_⟩
  obtain ⟨seen, wire, after⟩ := host c view at'
  exact ⟨seen, started ▸ wire, after⟩

theorem passTime_follows {s : State} (h : QueueLawful s) : Follows s (passTime s) := by
  obtain ⟨views, queued⟩ := h.queued
  have chosen : Follows s (arbitrate s) :=
    arbitrate_follows h.slots h.line ⟨views, queued⟩
      (fun c view host high => h.queued_from (host high)) (.inl rfl)
  unfold passTime
  split
  next low => rwa [arbitrate_of_not_ready s (txReady_of_low low)] at chosen
  next =>
    refine chosen.of_tick ?_
    cases ready : s.txReady with
    | true => exact .inl (tx_none_of_ready ready)
    | false => exact .inr (arbitrate_of_not_ready s ready)

end Sys2Proof.Machine

namespace Sys2Proof.Proofs

open Sys2Proof.Machine

/-- Settles O59: the tracker's operations and the handings keep the laws from any views of the host
(`queued_kept`), and the arbiter moves the views on as the host reads the frame it starts
(`arbitrate_sees`). -/
theorem stepKeepsQueueLawful : Obligations.StepKeepsQueueLawful := by
  intro s t h run
  change Follows s t
  obtain rfl | ⟨n, l, rfl | ⟨u, effect, rfl⟩⟩ := step_cases run
  · exact passTime_follows h
  · obtain ⟨views, queued⟩ := h.queued
    have idle : frameStarted s ((s.setFree n).setPending l) = [] := frameStarted_idle (.inl rfl)
    refine ⟨Queued.lawful (views := views) queued (slotsConsistent_kept.same (s := s) rfl h.slots)
      (h.line.of_same rfl rfl rfl rfl), queued.length_le, fun c view host => ?_⟩
    rw [idle]
    exact ⟨view, wireSees_nil c view, host⟩
  · have moved : QueueLawful ((s.setFree n).setPending l) := by
      obtain ⟨views, queued⟩ := h.queued
      exact Queued.lawful (views := views) queued
        (slotsConsistent_kept.same (s := s) rfl h.slots) (h.line.of_same rfl rfl rfl rfl)
    exact effect.follows moved

end Sys2Proof.Proofs
end

section
/-! PROOFS. O1: a step runs the command at the front of the queue. O2: one microsecond with nothing due.
O4: the state after reset. O60: it meets every invariant. -/

namespace Sys2Proof.Machine

theorem step_of_pending {s : State} {c : Instr} {rest : List Instr} (waiting : s.pending = c :: rest) :
    step s = exec c { s with pending := rest } := by
  unfold step
  rw [waiting]
  rfl

theorem step_of_idle {s : State} (empty : s.pending = []) (high : s.pins.resetLow = false)
    (nothing : dueEvents s = []) : step s = .next (tick (arbitrate s)) := by
  unfold step idleStep
  rw [empty]
  dsimp only
  rw [nothing]
  dsimp only
  rw [passTime, high]
  rfl

theorem tick_engine (s : State) (sh : Sheet) : (tick s).engine sh = tickEngine (s.engine sh) := by
  cases sh <;> rfl

theorem tickEngine_eq (e : Engine) : tickEngine e = if e.st = .align then
    { e with
      wait := if e.since = none then e.wait + 1 else e.wait
      since := e.since.map (· + 1) }
    else e := by
  unfold tickEngine
  split
  next =>
    cases since : e.since with
    | none => rfl
    | some n => rfl
  next => rfl

/-- What holds after every reset of the blocks holds of the state after reset. -/
theorem of_resetBlocks {P : State → Prop} (h : ∀ pins l q s, P (State.resetBlocks pins l q s)) :
    P State.reset :=
  h ⟨false, .single, false, .pin⟩ .single [announceEntry .single .pin] State.reset

end Sys2Proof.Machine

namespace Sys2Proof.Proofs

open Sys2Proof.Machine

/-- Settles O1. -/
theorem stepRunsFront : Obligations.StepRunsFront := fun _ _ _ waiting => step_of_pending waiting

/-- Settles O2: the step is the arbiter's choice and then one tick, which moves the counters. -/
theorem idleStepPassesOneMicrosecond : Obligations.IdleStepPassesOneMicrosecond := by
  intro s empty high nothing a
  have engine (sh : Sheet) : a.engine sh = s.engine sh := by
    rw [State.engine, State.engine, arbitrate_cfe]
  refine ⟨tick a, step_of_idle empty high nothing, ?fts, fun sh => ?engine, ?cfe, ?rqu, ?lnk, ?_, ?_,
    ?_, ?_, ?_, ?_, ?_, ?_, ?pending⟩
  case fts => rw [← show a.fts = s.fts from arbitrate_fts s]; rfl
  case engine => rw [tick_engine, engine, tickEngine_eq]
  case cfe => rw [← show a.cfe = s.cfe from arbitrate_cfe s]; rfl
  case rqu => rw [← show a.rqu.hold = s.rqu.hold from arbitrate_rqu_hold s]; rfl
  case lnk => rw [← show a.lnk.framer = s.lnk.framer from arbitrate_lnk_framer s]; rfl
  case pending => exact (arbitrate_pending s).trans empty
  all_goals simp [a, tick]

/-- Settles O4, block by block. -/
theorem resetValues : Obligations.ResetValues := by
  refine ⟨rfl, rfl, rfl, rfl, rfl, rfl, rfl, ?_, rfl, rfl, ?_, rfl, rfl, rfl, rfl, rfl, rfl, rfl,
    rfl, rfl⟩
  · intro c; cases c <;> rfl
  · intro c; cases c <;> rfl

/-- Settles O60, each invariant by the lemma that a reset meets it. -/
theorem resetMeetsInvariants : Obligations.ResetMeetsInvariants := by
  have queued (views : Channel → Bool) : Queued views State.reset :=
    resetBlocks_queued (pins := ⟨false, .single, false, .pin⟩) (l := .single) (s := State.reset)
      (announce_fits views .single .pin)
  have slots : SlotsConsistent State.reset := of_resetBlocks resetBlocks_slotsConsistent
  have lawful : QueueLawful State.reset :=
    (queued fun _ => false).lawful slots (.of_free rfl nofun)
  refine ⟨?scan, ?settings, resetPtb_legal, .of_discarded rfl ⟨rfl, rfl, rfl, rfl⟩, ?levels, slots,
    ?bounded, lawful.bounded, lawful, nofun, ?link, fun c view _ => (queued fun _ => view).lanes c⟩
  case scan => exact of_resetBlocks resetBlocks_consistent
  case settings => exact of_resetBlocks resetBlocks_legal
  case levels => exact of_resetBlocks resetBlocks_levels
  case bounded => exact of_resetBlocks resetBlocks_slotsBounded
  case link => exact ⟨by decide, by decide, by decide, nofun, by decide⟩

end Sys2Proof.Proofs
end

section
/-! PROOFS. The link: what the framer does with a byte (O5), that it takes every frame a transmitter
builds (O6), and what the arbiter sends (O7). -/

namespace Sys2Proof.Machine

/-! ### The framer, one equation per state (R176, R178, R179) -/

theorem exec_receiveByte (b : Byte) (s : State) (h : s.pins.resetLow = false) :
    exec (.receiveByte b) s = .next (arbitrate (receive b s)) := by
  change execReceiveByte b s = _
  simp [execReceiveByte, h, done]

theorem receive_hunt_start (s : State) (h : s.lnk.framer.st = .hunt) :
    receive 0xC3 s = s.setFramer { idleFramer with st := .length, gap := some 0 } := by
  simp [receive, h, huntByte, startByte]

theorem receive_hunt_other (b : Byte) (s : State) (h : s.lnk.framer.st = .hunt) (hb : b ≠ 0xC3) :
    receive b s = s.setFramer s.lnk.framer := by
  have other : b ≠ startByte := hb
  simp [receive, h, huntByte, other]

theorem receive_length_fits (b : Byte) (s : State) (h : s.lnk.framer.st = .length)
    (hb : b.toNat ≤ 200) :
    receive b s = s.setFramer { s.lnk.framer with st := .kind, length := b.toNat, gap := some 0 } := by
  simp [receive, h, lengthByte, hb]

theorem receive_length_long (b : Byte) (s : State) (h : s.lnk.framer.st = .length)
    (hb : 200 < b.toNat) :
    receive b s = raiseFault .linkFraming (s.setFramer idleFramer) := by
  simp [receive, h, lengthByte, Nat.not_le.2 hb]

theorem receive_kind (b : Byte) (s : State) (h : s.lnk.framer.st = .kind) :
    receive b s = s.setFramer { s.lnk.framer with st := .tag, kind := b, gap := some 0 } := by
  simp [receive, h]

theorem receive_tag (b : Byte) (s : State) (h : s.lnk.framer.st = .tag) :
    receive b s = s.setFramer { s.lnk.framer with
      st := if s.lnk.framer.length = 0 then .crcHigh else .payload
      tag := b, payload := [], gap := some 0 } := by
  simp [receive, h]

theorem receive_payload (b : Byte) (s : State) (h : s.lnk.framer.st = .payload)
    (hl : s.lnk.framer.payload.length < s.lnk.framer.length) :
    receive b s = s.setFramer { s.lnk.framer with
      st := if s.lnk.framer.payload.length + 1 = s.lnk.framer.length then .crcHigh else .payload
      payload := s.lnk.framer.payload ++ [b], gap := some 0 } := by
  have full : s.lnk.framer.length ≤ s.lnk.framer.payload.length + 1
      ↔ s.lnk.framer.payload.length + 1 = s.lnk.framer.length := by omega
  simp [receive, h, payloadByte, full]

theorem receive_crcHigh (b : Byte) (s : State) (h : s.lnk.framer.st = .crcHigh) :
    receive b s = s.setFramer { s.lnk.framer with st := .crcLow, crcHigh := b, gap := some 0 } := by
  simp [receive, h]

theorem receive_crcLow (b : Byte) (s : State) (h : s.lnk.framer.st = .crcLow) :
    receive b s = completeFrame b s := by
  simp [receive, h]

/-- The framer's frame with `low` as its last byte has the CRC it carries (R175, R178). -/
abbrev FrameGood (low : Byte) (f : Framer) : Prop :=
  crc (BitVec.ofNat 8 f.length :: f.kind :: f.tag :: f.payload) = f.crcHigh ++ low

theorem completeFrame_bad (low : Byte) (s : State) (h : ¬ FrameGood low s.lnk.framer) :
    completeFrame low s = raiseFault .linkCrc (s.setFramer idleFramer) := by
  simp only [completeFrame, receivedCrc]
  exact if_neg h

theorem completeFrame_full (low : Byte) (s : State) (h : FrameGood low s.lnk.framer)
    (hb : 4 ≤ s.lnk.buffer.length) :
    completeFrame low s = raiseFault .cmdOverrun (s.setFramer idleFramer) := by
  simp only [completeFrame, receivedCrc]
  exact (if_pos h).trans (if_pos hb)

theorem isCommandKind_iff (k : Byte) : isCommandKind k = true ↔ 1 ≤ k.toNat ∧ k.toNat ≤ 20 := by
  simp [isCommandKind]

/-- The state in which a frame's command has joined the buffer, with its unknown-kind mark. -/
def bufferedFrame (unknown : Bool) (s : State) : State :=
  { s with lnk := { s.lnk with
      framer := idleFramer
      buffer := s.lnk.buffer
        ++ [⟨s.lnk.framer.kind, s.lnk.framer.tag, s.lnk.framer.payload, unknown⟩] } }

theorem completeFrame_known (low : Byte) (s : State) (h : FrameGood low s.lnk.framer)
    (hb : s.lnk.buffer.length < 4)
    (hk : 1 ≤ s.lnk.framer.kind.toNat ∧ s.lnk.framer.kind.toNat ≤ 20) :
    completeFrame low s = bufferedFrame false s := by
  have room : ¬ Config.bufferSize ≤ (s.setFramer idleFramer).lnk.buffer.length := Nat.not_le.2 hb
  simp only [completeFrame, receivedCrc]
  refine (if_pos h).trans ?_
  rw [bufferCommand, if_neg room, (isCommandKind_iff _).2 hk]
  rfl

theorem completeFrame_unknown (low : Byte) (s : State) (h : FrameGood low s.lnk.framer)
    (hb : s.lnk.buffer.length < 4)
    (hk : ¬ (1 ≤ s.lnk.framer.kind.toNat ∧ s.lnk.framer.kind.toNat ≤ 20)) :
    completeFrame low s = raiseFault .linkFraming (bufferedFrame true s) := by
  have room : ¬ Config.bufferSize ≤ (s.setFramer idleFramer).lnk.buffer.length := Nat.not_le.2 hb
  simp only [completeFrame, receivedCrc]
  refine (if_pos h).trans ?_
  rw [bufferCommand, if_neg room,
    Bool.eq_false_iff.2 fun known => hk ((isCommandKind_iff _).1 known)]
  rfl

/-! ### A whole frame received (R174 to R179) -/

/-- One received byte, as a step that may fail. -/
def takeByte (u : State) (b : Byte) : Option State :=
  match exec (.receiveByte b) u with
  | .next v => some v
  | _ => none

/-- The part of the state that receiving and sending leave alone, with the framer and the buffer
that receiving is to leave. -/
structure Receiving (s : State) (f : Framer) (buffer : List Command) (t : State) : Prop where
  framer : t.lnk.framer = f
  buffer : t.lnk.buffer = buffer
  pins : t.pins = s.pins
  cfe : t.cfe = s.cfe
  fts : t.fts = s.fts
  bpl : t.bpl = s.bpl
  ptr : t.ptr = s.ptr
  wdc : t.wdc = s.wdc
  ptb : t.ptb = s.ptb
  fmo : t.fmo = s.fmo
  cpr : t.cpr = s.cpr
  pending : t.pending = s.pending

theorem Receiving.arbitrate {s t : State} {f : Framer} {buffer : List Command}
    (h : Receiving s f buffer t) : Receiving s f buffer (arbitrate t) where
  framer := by simp [h.framer]
  buffer := by simp [h.buffer]
  pins := by simp [h.pins]
  cfe := by simp [h.cfe]
  fts := by simp [h.fts]
  bpl := by simp [h.bpl]
  ptr := by simp [h.ptr]
  wdc := by simp [h.wdc]
  ptb := by simp [h.ptb]
  fmo := by simp [h.fmo]
  cpr := by simp [h.cpr]
  pending := by simp [h.pending]

/-- A byte that only moves the framer. -/
theorem Receiving.step {s t : State} {f g : Framer} {buffer : List Command} {b : Byte}
    (hr : s.pins.resetLow = false) (h : Receiving s f buffer t)
    (hg : receive b t = t.setFramer g) :
    ∃ u, takeByte t b = some u ∧ Receiving s g buffer u := by
  have moved : Receiving s g buffer (t.setFramer g) :=
    ⟨rfl, h.buffer, h.pins, h.cfe, h.fts, h.bpl, h.ptr, h.wdc, h.ptb, h.fmo, h.cpr, h.pending⟩
  refine ⟨_, ?_, moved.arbitrate⟩
  rw [takeByte, exec_receiveByte b t (by rw [h.pins, hr]), hg]

/-- The framer in the payload of a frame, with `got` of its bytes. -/
def payloadFramer (n : Nat) (kind tag : Byte) (got : List Byte) : Framer :=
  { idleFramer with
    st := if got.length = n then .crcHigh else .payload
    length := n, kind := kind, tag := tag, payload := got, gap := some 0 }

theorem Receiving.payload {s : State} {buffer : List Command} {kind tag : Byte}
    (hr : s.pins.resetLow = false) (rest got : List Byte) (n : Nat) (t : State)
    (hn : got.length + rest.length = n)
    (h : Receiving s (payloadFramer n kind tag got) buffer t) :
    ∃ u, rest.foldlM takeByte t = some u
      ∧ Receiving s (payloadFramer n kind tag (got ++ rest)) buffer u := by
  induction rest generalizing got t with
  | nil => exact ⟨t, rfl, by simpa using h⟩
  | cons b rest ih =>
    have short : got.length < n := by simp at hn; omega
    have inPayload : t.lnk.framer.st = .payload := by
      rw [h.framer]; simp [payloadFramer, short.ne]
    obtain ⟨u, hu, hru⟩ := Receiving.step (b := b) (g := payloadFramer n kind tag (got ++ [b])) hr h (by
      rw [receive_payload b t inPayload (by rw [h.framer]; exact short), h.framer]
      simp only [payloadFramer, List.length_append, List.length_singleton]
      rfl)
    obtain ⟨v, hv, hrv⟩ := ih (got ++ [b]) u (by simp at hn ⊢; omega) hru
    refine ⟨v, ?_, by simpa using hrv⟩
    simp [List.foldlM_cons, hu, hv]

theorem crc_bytes_append (c : Half) : c.extractLsb' 8 8 ++ c.extractLsb' 0 8 = c := by
  ext i hi
  simp only [BitVec.getElem_append, BitVec.getElem_extractLsb']
  grind


/-- The last byte of a frame whose CRC is right, of a known KIND and with room in the buffer. -/
theorem Receiving.last {s t : State} {f : Framer} {buffer : List Command} {low : Byte}
    (hr : s.pins.resetLow = false) (h : Receiving s f buffer t) (hst : f.st = .crcLow)
    (good : FrameGood low f) (room : buffer.length < 4)
    (known : 1 ≤ f.kind.toNat ∧ f.kind.toNat ≤ 20) :
    ∃ u, takeByte t low = some u
      ∧ Receiving s idleFramer (buffer ++ [⟨f.kind, f.tag, f.payload, false⟩]) u := by
  have moved : Receiving s idleFramer (buffer ++ [⟨f.kind, f.tag, f.payload, false⟩])
      (bufferedFrame false t) :=
    ⟨rfl, by simp [bufferedFrame, h.buffer, h.framer], h.pins, h.cfe, h.fts, h.bpl, h.ptr, h.wdc,
      h.ptb, h.fmo, h.cpr, h.pending⟩
  refine ⟨_, ?_, moved.arbitrate⟩
  rw [takeByte, exec_receiveByte low t (by rw [h.pins, hr]),
    receive_crcLow low t (by rw [h.framer, hst]),
    completeFrame_known low t (by rw [h.framer]; exact good) (by rw [h.buffer]; exact room)
      (by rw [h.framer]; exact known)]

/-- A frame's bytes up to its TAG. -/
theorem Receiving.header {s : State} {buffer : List Command} (kind tag : Byte) (n : Nat)
    (hr : s.pins.resetLow = false) (hn : n ≤ 200) (h : Receiving s idleFramer buffer s) :
    ∃ u, [0xC3, BitVec.ofNat 8 n, kind, tag].foldlM takeByte s = some u
      ∧ Receiving s (payloadFramer n kind tag []) buffer u := by
  have value : (BitVec.ofNat 8 n).toNat = n := by
    rw [BitVec.toNat_ofNat, Nat.mod_eq_of_lt (by omega)]
  obtain ⟨s1, take1, h1⟩ := Receiving.step hr h (receive_hunt_start s (by rw [h.framer]; rfl))
  obtain ⟨s2, take2, h2⟩ := Receiving.step hr h1
    (receive_length_fits (BitVec.ofNat 8 n) s1 (by rw [h1.framer]) (by omega))
  obtain ⟨s3, take3, h3⟩ := Receiving.step hr h2 (receive_kind kind s2 (by rw [h2.framer]))
  obtain ⟨s4, take4, h4⟩ := Receiving.step hr h3 (receive_tag tag s3 (by rw [h3.framer]))
  refine ⟨s4, by simp only [List.foldlM_cons, List.foldlM_nil, Option.bind_eq_bind,
    Option.bind_some, Option.pure_def, take1, take2, take3, take4], ?_⟩
  simp only [h1.framer, h2.framer, h3.framer, value] at h4
  simpa only [payloadFramer, List.length_nil, eq_comm (a := 0)] using h4

end Sys2Proof.Machine

namespace Sys2Proof.Proofs
open Sys2Proof.Machine

/-- Settles O5: one equation per state of the framer, and one per way a last byte completes a
frame. -/
theorem framerTakesByte : Obligations.FramerTakesByte := by
  intro b s hr f go
  have byFramer {g : Framer} (hg : receive b s = s.setFramer g) : go g := by
    simp only [go, exec_receiveByte b s hr, hg]
    rfl
  refine ⟨?hunt, ?other, ?length, ?long, ?kind, ?tag, ?payload, ?crcHigh, ?crcLow⟩
  case hunt =>
    intro st hb
    subst hb
    exact ⟨_, byFramer (receive_hunt_start s st), rfl, rfl⟩
  case other => exact fun st hb => byFramer (receive_hunt_other b s st hb)
  case length => exact fun st hb => byFramer (receive_length_fits b s st hb)
  case long =>
    intro st hb
    rw [exec_receiveByte b s hr, receive_length_long b s st hb]
    rfl
  case kind => exact fun st => byFramer (receive_kind b s st)
  case tag => exact fun st => byFramer (receive_tag b s st)
  case payload => exact fun st hl => byFramer (receive_payload b s st hl)
  case crcHigh => exact fun st => byFramer (receive_crcHigh b s st)
  case crcLow =>
    intro st good known hunting buffered
    rw [exec_receiveByte b s hr, receive_crcLow b s st]
    refine ⟨fun bad => ?_, fun ok full => ?_, fun ok room hk => ?_, fun ok room hk => ?_⟩
    · rw [completeFrame_bad b s bad]; rfl
    · rw [completeFrame_full b s ok full]; rfl
    · rw [completeFrame_known b s ok room hk]; rfl
    · rw [completeFrame_unknown b s ok room hk]; rfl

/-- Settles O6: the header opens the payload, the payload is taken byte by byte, and the CRC bytes of
a frame are those the framer computes. -/
theorem receiverTakesEveryFrame : Obligations.ReceiverTakesEveryFrame := by
  intro kind tag payload s hk1 hk2 hp hr hf hb
  have start : Receiving s idleFramer s.lnk.buffer s :=
    ⟨hf, rfl, rfl, rfl, rfl, rfl, rfl, rfl, rfl, rfl, rfl, rfl⟩
  let c := crc (coveredBytes kind tag payload)
  obtain ⟨s1, take1, h1⟩ := Receiving.header kind tag payload.length hr hp start
  obtain ⟨s2, take2, h2⟩ := Receiving.payload hr payload [] payload.length s1 (by simp) h1
  obtain ⟨s3, take3, h3⟩ := Receiving.step hr h2
    (receive_crcHigh (c.extractLsb' 8 8) s2 (by rw [h2.framer]; simp [payloadFramer]))
  obtain ⟨t, take4, h4⟩ := Receiving.last (low := c.extractLsb' 0 8) hr h3 rfl
    (by simp only [FrameGood, h2.framer]; exact (crc_bytes_append c).symm) hb
    (by rw [h2.framer]; exact ⟨hk1, hk2⟩)
  refine ⟨t, ?_, by rw [h4.framer]; rfl, by rw [h4.framer]; rfl, ?_, h4.pins, h4.cfe, h4.fts, h4.bpl,
    h4.ptr, h4.wdc, h4.ptb, h4.fmo, h4.cpr, h4.pending⟩
  · change (frameBytes kind tag payload).foldlM takeByte s = some t
    have bytes : frameBytes kind tag payload
        = [0xC3, BitVec.ofNat 8 payload.length, kind, tag] ++ payload
          ++ [c.extractLsb' 8 8, c.extractLsb' 0 8] := by
      simp [frameBytes, coveredBytes, startByte, c]
    have lastTwo : [c.extractLsb' 8 8, c.extractLsb' 0 8].foldlM takeByte s2 = some t := by
      simp only [List.foldlM_cons, List.foldlM_nil, Option.bind_eq_bind, Option.bind_some,
        Option.pure_def, take3, take4]
    rw [bytes, List.foldlM_append, List.foldlM_append, take1]
    change (payload.foldlM takeByte s1).bind _ = some t
    rw [take2]
    exact lastTwo
  · rw [h4.buffer, h2.framer]
    simp [payloadFramer]

end Sys2Proof.Proofs
end

section
/-! PROOFS. What the arbiter sends: the oldest reply, else the report at the head of the queue, and
each report's payload (O7). -/

namespace Sys2Proof.Machine

/-! ### When the transmitter is free -/

theorem txReady_iff (s : State) : s.txReady = true
    ↔ s.pins.resetLow = false ∧ s.cpr ≠ .resetDue ∧ s.lnk.tx = none := by
  simp [State.txReady, and_assoc]

theorem arbitrate_reply {s : State} {r : Reply} {rest : List Reply} (ready : s.txReady = true)
    (oldest : s.lnk.replies = r :: rest) :
    arbitrate s = { s with lnk := { s.lnk with
      replies := rest, tx := some (startFrame s (replyFrame r) r.ofReset), quiet := 0 } } := by
  simp [arbitrate, ready, oldest, State.setLnk]

theorem arbitrate_of_nothing (s : State) (noReply : s.lnk.replies = [])
    (h : s.rqu.hold ≠ none ∨ s.rqu.queue = []) : arbitrate s = s := by
  unfold arbitrate
  split
  next =>
    split
    case h_1 some_reply => simp [noReply] at some_reply
    case h_2 e rest _ hold queue => simp [hold, queue] at h
    case h_3 => rfl
  next => rfl

theorem startFrame_frameBytes (s : State) (kind tag : Byte) (payload : List Byte) (ofReset : Bool) :
    startFrame s (frameBytes kind tag payload) ofReset
      = ⟨frameBytes kind tag payload,
          s.lnk.quiet + (payload.length + 6) * (if s.pins.linkFast then 10 else 30), ofReset⟩ := by
  rw [startFrame, sendTime, frameBytes_length]

/-! ### The payloads of the reports (R196) -/

theorem presenceMask_eq (m : Motion) : presenceMask m
    = m.tilt.isSome.toNat + 2 * m.buttons.isSome.toNat + 4 * m.toolId.isSome.toNat := by
  simp only [presenceMask, ofBits]
  omega

theorem buttonsByte_some (b : Buttons) :
    buttonsByte (some b) = b.b1.toNat + 2 * b.b2.toNat + 4 * b.tail.toNat := by
  simp only [buttonsByte, ofBits]
  omega

theorem sampleFlagsByte_eq (f : SampleFlags) (gap : Bool) : sampleFlagsByte f gap
    = f.unsynced.toNat + 2 * f.pressureHeld.toNat + 4 * f.tiltHeld.toNat + 8 * f.tiltSat.toNat
      + 16 * f.twin.toNat + 32 * f.relocated.toNat + 64 * f.realigned.toNat + 128 * gap.toNat := by
  simp only [sampleFlagsByte, ofBits]
  omega

theorem tipCode_eq (t : TipState) : t.code = if t = .down then 1 else 0 := by
  cases t <;> rfl

/-- What each field of a MOTION report holds, the masks as the model computes them. -/
theorem motionPayload_fields (m : Motion) :
    (motionPayload m).length = 34 ∧ Holds (motionPayload m) 0 (u8 m.ch.num)
      ∧ Holds (motionPayload m) 1 (u8 (presenceMask m))
      ∧ Holds (motionPayload m) 2 (u16 m.frame.toNat) ∧ Holds (motionPayload m) 4 (u32 m.x)
      ∧ Holds (motionPayload m) 8 (u32 m.y) ∧ Holds (motionPayload m) 12 (u16 m.pressure)
      ∧ Holds (motionPayload m) 14 (u8 m.tip.code)
      ∧ Holds (motionPayload m) 15 (s16 (m.tilt.getD (0, 0)).1)
      ∧ Holds (motionPayload m) 17 (s16 (m.tilt.getD (0, 0)).2)
      ∧ Holds (motionPayload m) 19 (u8 (buttonsByte m.buttons))
      ∧ Holds (motionPayload m) 20 (u16 (m.toolId.getD 0))
      ∧ Holds (motionPayload m) 22 (u8 (sampleFlagsByte m.flags m.gapMark))
      ∧ Holds (motionPayload m) 23 (u8 m.coalesced)
      ∧ Holds (motionPayload m) 24 (List.replicate 10 0) := by
  simp [Holds, motionPayload, u8, u16, u32, s16, optionalId]

end Sys2Proof.Machine

namespace Sys2Proof.Proofs
open Sys2Proof.Machine

/-- Settles O7, the payload of each entry read field by field from `reportOf`. -/
theorem arbiterChooses : Obligations.ArbiterChooses := by
  intro s free byte
  refine ⟨?reply, ?report, ?busy, ?nothing⟩
  case reply =>
    intro r rest isFree oldest
    rw [arbitrate_reply ((txReady_iff s).2 isFree) oldest, replyFrame, startFrame_frameBytes]
  case report =>
    intro e rest isFree noReply noHold head
    refine ⟨(reportOf (alertContent s.fmo s.fts.scan) e).1,
      (reportOf (alertContent s.fmo s.fts.scan) e).2, ?_, ?_, ?_, ?_, ?_, ?motion, ?_⟩
    · rw [arbitrate_report ((txReady_iff s).2 isFree) noReply noHold head, reportFrame,
        startFrame_frameBytes]
    · rintro c rfl
      exact ⟨rfl, rfl⟩
    · rintro c rfl
      exact ⟨rfl, rfl⟩
    · rintro c i b rfl
      exact ⟨rfl, rfl⟩
    · rintro rfl
      exact ⟨rfl, by rw [← pointerCode_eq]; rfl⟩
    case motion =>
      rintro m rfl
      obtain ⟨size, ch, presence, frame, x, y, pressure, tip, tilt1, tilt2, buttons, toolId, flags,
        coalesced, zeros⟩ := motionPayload_fields m
      rw [presenceMask_eq] at presence
      rw [tipCode_eq] at tip
      rw [sampleFlagsByte_eq] at flags
      have payload : (reportOf (alertContent s.fmo s.fts.scan) (.motion m)).2 = motionPayload m := rfl
      rw [payload]
      refine ⟨rfl, size, ch, presence, frame, x, y, pressure, tip, tilt1, tilt2, ?noButtons, ?buttons,
        toolId, flags, coalesced, zeros⟩
      case noButtons =>
        intro absent
        rw [absent] at buttons
        exact buttons
      case buttons =>
        intro b present
        rw [present, buttonsByte_some] at buttons
        exact buttons
    · rintro f v l k rfl
      exact ⟨rfl, rfl⟩
  case busy =>
    intro notFree
    exact arbitrate_of_not_ready s (Bool.eq_false_iff.2 fun ready => notFree ((txReady_iff s).1 ready))
  case nothing => exact arbitrate_of_nothing s

end Sys2Proof.Proofs
end

section
/-! PROOFS. The checks common to the commands: a wrong LENGTH and an unknown KIND, rules that refuse
without changing the state (O8), and fields out of their range (O9). -/

namespace Sys2Proof.Machine

/-! ### A command taken, by what its rule answers -/

section
variable {k : CommandKind} {s : State} {c : Command} {rest : List Command}
  {rule : List Byte → State → Answer}

theorem runCommand_refuses {status : Status} (h : Takes k s c rest) (hl : c.payload.length = k.length)
    (hr : rule c.payload (taken rest s) = refuse status (taken rest s)) :
    runCommand k rule s = .next (arbitrate (replied
      (refusal k c.tag (BitVec.ofNat 8 status.code)) (taken rest s))) := by
  rw [runCommand_takes rule h hl, hr]
  rfl

theorem runCommand_badValue (h : Takes k s c rest) (hl : c.payload.length = k.length)
    (hr : rule c.payload (taken rest s) = refuse .badValue (taken rest s)) :
    runCommand k rule s = .next (arbitrate (replied (refusal k c.tag 0x03) (taken rest s))) :=
  runCommand_refuses h hl hr

theorem runCommand_accepts {t : State} {body : List Byte} (h : Takes k s c rest)
    (hl : c.payload.length = k.length) (hr : rule c.payload (taken rest s) = accept t body) :
    runCommand k rule s = .next (arbitrate (replied (okReply k c.tag body) t)) := by
  rw [runCommand_takes rule h hl, hr]
  rfl

end

/-! ### Wrong LENGTH and unknown KIND (R181) -/

/-- The row of a command kind. -/
def CommandKind.row : CommandKind → Instr
  | .queryId => .queryId
  | .reset => .reset
  | .setLayout => .setLayout
  | .setPanel => .setPanel
  | .setScan => .setScan
  | .setDisplay => .setDisplay
  | .setWord => .setWord
  | .channels => .channels
  | .start => .start
  | .stop => .stop
  | .release => .release
  | .loadProfile => .loadProfile
  | .dropProfile => .dropProfile
  | .readProfile => .readProfile
  | .readTrack => .readTrack
  | .hold => .hold
  | .readFaults => .readFaults
  | .clearFaults => .clearFaults
  | .setFaultPolicy => .setFaultPolicy
  | .inject => .inject

theorem rowOf_known {c : Command} {k : CommandKind} (known : c.unknown = false)
    (kind : c.kind = k.code) : rowOf c = some k.row := by
  rw [rowOf, known, kind]
  cases k <;> rfl

/-- Every row but RESET's runs a rule of its own. -/
theorem exec_row (k : CommandKind) (h : k ≠ .reset) :
    ∃ rule, ∀ s, exec k.row s = runCommand k rule s := by
  cases k with
  | reset => exact absurd rfl h
  | _ => exact ⟨_, fun _ => rfl⟩

theorem exec_reset_short {s : State} {c : Command} {rest : List Command} (h : Takes .reset s c rest)
    (hl : c.payload.length ≠ CommandKind.length .reset) :
    exec .reset s = .next (arbitrate (replied (refusal .reset c.tag 0x02) (taken rest s))) := by
  change execReset s = _
  simp only [execReset, takeCommand_takes h, hl, if_false]
  rfl

theorem exec_row_short {k : CommandKind} {s : State} {c : Command} {rest : List Command}
    (h : Takes k s c rest) (hl : c.payload.length ≠ k.length) :
    exec k.row s = .next (arbitrate (replied (refusal k c.tag 0x02) (taken rest s))) := by
  by_cases reset : k = .reset
  · subst reset
    exact exec_reset_short h hl
  · obtain ⟨rule, runs⟩ := exec_row k reset
    rw [runs, runCommand_short rule h hl]

theorem takeCommand_unknown {s : State} {c : Command} {rest : List Command}
    (ready : s.canTake = true) (buffer : s.lnk.buffer = c :: rest) (unknown : c.unknown = true) :
    takeCommand none s = some (c, taken rest s) := by
  simp [takeCommand, buffer, ready, unknown, taken, State.setLnk]

/-! ### Rules that refuse change nothing (R181) -/

/-- An answer whose status is not OK leaves the state `s`. -/
def Refuses (s : State) (a : Answer) : Prop := a.payload.head? ≠ some 0x00 → a.state = s

theorem refuse_refuses (status : Status) (s : State) : Refuses s (refuse status s) := fun _ => rfl

theorem accept_refuses (s t : State) (body : List Byte) : Refuses s (accept t body) :=
  fun notOk => absurd rfl notOk

theorem setLayoutRule_refuses (p : List Byte) (s : State) : Refuses s (setLayoutRule p s) := by
  unfold setLayoutRule
  split
  · exact refuse_refuses _ _
  · split
    · exact refuse_refuses _ _
    · exact accept_refuses _ _ _

theorem setPanelRule_refuses (p : List Byte) (s : State) : Refuses s (setPanelRule p s) := by
  unfold setPanelRule
  split
  · split
    · exact accept_refuses _ _ _
    · exact refuse_refuses _ _
  · exact refuse_refuses _ _

theorem setScanRule_refuses (p : List Byte) (s : State) : Refuses s (setScanRule p s) := by
  unfold setScanRule
  split
  · exact accept_refuses _ _ _
  · exact refuse_refuses _ _

theorem setDisplayRule_refuses (p : List Byte) (s : State) : Refuses s (setDisplayRule p s) := by
  unfold setDisplayRule
  split
  · exact accept_refuses _ _ _
  · exact refuse_refuses _ _

theorem setWordRule_refuses (p : List Byte) (s : State) : Refuses s (setWordRule p s) := by
  unfold setWordRule
  split
  · exact refuse_refuses _ _
  · exact accept_refuses _ _ _

theorem channelsRule_refuses (p : List Byte) (s : State) : Refuses s (channelsRule p s) := by
  unfold channelsRule
  split
  · exact refuse_refuses _ _
  · exact accept_refuses _ _ _

theorem releaseRule_refuses (p : List Byte) (s : State) : Refuses s (releaseRule p s) := by
  unfold releaseRule
  split
  · exact refuse_refuses _ _
  · split
    · exact refuse_refuses _ _
    · exact accept_refuses _ _ _

theorem loadProfileRule_refuses (p : List Byte) (s : State) : Refuses s (loadProfileRule p s) := by
  unfold loadProfileRule
  split
  · exact accept_refuses _ _ _
  · split
    · exact refuse_refuses _ _
    · exact accept_refuses _ _ _
  · exact refuse_refuses _ _

theorem dropProfileRule_refuses (p : List Byte) (s : State) : Refuses s (dropProfileRule p s) := by
  unfold dropProfileRule
  split
  · split
    · exact accept_refuses _ _ _
    · exact refuse_refuses _ _
  · exact refuse_refuses _ _

theorem readProfileRule_refuses (p : List Byte) (s : State) : Refuses s (readProfileRule p s) := by
  unfold readProfileRule
  split
  · exact refuse_refuses _ _
  · exact accept_refuses _ _ _
  · exact accept_refuses _ _ _
  · split
    · exact refuse_refuses _ _
    · exact accept_refuses _ _ _

theorem clearFaultsRule_refuses (p : List Byte) (s : State) : Refuses s (clearFaultsRule p s) := by
  unfold clearFaultsRule
  split
  · exact refuse_refuses _ _
  · split
    · exact accept_refuses _ _ _
    · exact fun _ => rfl

theorem setFaultPolicyRule_refuses (p : List Byte) (s : State) :
    Refuses s (setFaultPolicyRule p s) := by
  unfold setFaultPolicyRule
  split
  · exact accept_refuses _ _ _
  · exact refuse_refuses _ _

theorem injectRule_refuses (p : List Byte) (s : State) : Refuses s (injectRule p s) := by
  unfold injectRule
  split
  · exact refuse_refuses _ _
  · split
    · exact refuse_refuses _ _
    · exact accept_refuses _ _ _

/-! ### Codes and ranges that name nothing (R192, R193) -/

theorem within_eq_false {v lo hi : Nat} (h : v < lo ∨ hi < v) : within v lo hi = false := by
  simp only [within, Bool.and_eq_false_iff, decide_eq_false_iff_not]
  omega

theorem within_iff {v lo hi : Nat} : within v lo hi = true ↔ lo ≤ v ∧ v ≤ hi := by
  simp [within]

/-- The conditions of R4 on a panel. -/
theorem panelFits_iff (l : Layout) (g : Panel) : panelFits l g = true ↔
    (l = .single → 9 ≤ g.n0 ∧ g.n0 ≤ 192 ∧ g.n1 = 0 ∧ 9 ≤ g.yCount ∧ g.yCount ≤ 128)
    ∧ (l = .dual → 9 ≤ g.n0 ∧ g.n0 ≤ 96 ∧ 9 ≤ g.n1 ∧ g.n1 ≤ 96 ∧ 9 ≤ g.yCount ∧ g.yCount ≤ 64)
    ∧ 400 ≤ g.pitch ∧ g.pitch ≤ 800 ∧ g.originX ≤ 153600 ∧ g.originY ≤ 153600
    ∧ 1 ≤ g.width ∧ g.width ≤ 153600 ∧ 1 ≤ g.height ∧ g.height ≤ 153600 := by
  cases l <;> simp [panelFits, within_iff, and_assoc]

/-- The conditions of R121 on a curve. -/
theorem curveValid_iff (c : Curve) : curveValid c = true ↔
    (1 ≤ c.x1 ∧ c.x1 ≤ 4094) ∧ (1 ≤ c.x2 ∧ c.x2 ≤ 4094) ∧ (1 ≤ c.x3 ∧ c.x3 ≤ 4094)
    ∧ (1 ≤ c.x4 ∧ c.x4 ≤ 4094) ∧ c.x1 < c.x2 ∧ c.x2 < c.x3 ∧ c.x3 < c.x4
    ∧ c.y0 ≤ c.y1 ∧ c.y1 ≤ c.y2 ∧ c.y2 ≤ c.y3 ∧ c.y3 ≤ c.y4 ∧ c.y4 ≤ c.y5 ∧ c.y5 ≤ 4095 := by
  simp [curveValid, within_iff, and_assoc]

theorem channelOf_eq_none {n : Nat} (h : 3 < n) : channelOf n = none := by
  obtain ⟨m, rfl⟩ := Nat.exists_eq_add_of_le h
  rw [show 3 + 1 + m = m + 4 by omega]
  rfl

theorem switchOf_eq_none {n : Nat} (h : 1 < n) : switchOf n = none := by
  obtain ⟨m, rfl⟩ := Nat.exists_eq_add_of_le h
  rw [show 1 + 1 + m = m + 2 by omega]
  rfl

theorem layoutOf_eq_none {n : Nat} (h : 1 < n) : layoutOf n = none := by
  obtain ⟨m, rfl⟩ := Nat.exists_eq_add_of_le h
  rw [show 1 + 1 + m = m + 2 by omega]
  rfl

theorem channelSetOf_eq_none {n : Nat} (h : 15 < n) : channelSetOf n = none :=
  if_neg (by omega)

theorem faultSetOf_eq_none {n : Nat} (h : 1024 ≤ n) : faultSetOf n = none :=
  if_neg (by omega)

theorem injectionOf_eq_none {kind channel : Nat} (h : 3 < kind ∨ kind ≤ 1 ∧ 3 < channel) :
    injectionOf kind channel = none := by
  unfold injectionOf
  split
  · rw [channelOf_eq_none (by omega)]; rfl
  · rw [channelOf_eq_none (by omega)]; rfl
  · omega
  · omega
  · rfl

/-- What a profile command's target bytes can name (R122, R125, R126). -/
theorem targetOf_eq_some {kind value : Nat} {t : Target} (h : targetOf kind value = some t) :
    (kind = 0 ∧ value ≤ 3 ∧ ∃ c, t = .default c) ∨ (kind = 1 ∧ value ≠ 0 ∧ t = .tool value)
      ∨ (kind = 2 ∧ t = .directory) := by
  unfold targetOf at h
  split at h
  next =>
    have inRange : value ≤ 3 := by
      by_contra outside
      rw [channelOf_eq_none (by omega)] at h
      exact absurd h (by simp)
    obtain ⟨c, -, rfl⟩ := Option.map_eq_some_iff.1 h
    exact .inl ⟨rfl, inRange, c, rfl⟩
  next =>
    split at h
    · exact absurd h (by simp)
    · next named => exact .inr (.inl ⟨rfl, named, (Option.some.inj h).symm⟩)
  next => exact .inr (.inr ⟨rfl, (Option.some.inj h).symm⟩)
  next => exact absurd h (by simp)

/-- What a record that LOAD_PROFILE takes says about the payload's fields (R121, R122). -/
theorem profileOf_valid {p : List Byte} {r : Profile}
    (h : (profileOf p).filter profileValid = some r) :
    u8At p 13 ≤ 1 ∧ u8At p 14 ≤ 1 ∧ profileValid r = true
      ∧ r.pFree = u16At p 3 ∧ r.pFull = u16At p 5 ∧ r.height = u16At p 7 ∧ r.on = u16At p 9
      ∧ r.off = u16At p 11 ∧ (u8At p 14 = 1 → r.curve = some (curveOf p)) := by
  obtain ⟨carried, valid⟩ := Option.filter_eq_some_iff.1 h
  unfold profileOf at carried
  split at carried
  next tilt curved hTilt hCurved =>
    obtain rfl := Option.some.inj carried
    have code {n : Nat} {b : Bool} (named : switchOf n = some b) : n ≤ 1 := by
      by_contra outside
      rw [switchOf_eq_none (by omega)] at named
      exact absurd named (by simp)
    refine ⟨code hTilt, code hCurved, valid, rfl, rfl, rfl, rfl, rfl, fun one => ?_⟩
    rw [one] at hCurved
    obtain rfl := Option.some.inj hCurved
    rfl
  next => exact absurd carried (by simp)

/-! ### Fields out of range (R2 to R193) -/

theorem setLayoutRule_bad {p : List Byte} {s : State} (unfixed : s.cfe.fixed = false)
    (h : 1 < u8At p 0) : setLayoutRule p s = refuse .badValue s := by
  simp [setLayoutRule, unfixed, layoutOf_eq_none h]

theorem setPanelRule_bad {p : List Byte} {s : State} (stopped : s.fts.scan = .stopped)
    (h : panelFits s.cfe.layout (panelOf p) = false) : setPanelRule p s = refuse .badValue s := by
  simp [setPanelRule, stopped, h]

theorem setScanRule_bad {p : List Byte} {s : State} (h : scanFits p = false) :
    setScanRule p s = refuse .badValue s := by
  simp [setScanRule, h]

theorem setDisplayRule_bad {p : List Byte} {s : State} (h : displayFits p = false) :
    setDisplayRule p s = refuse .badValue s := by
  simp [setDisplayRule, h]

theorem setWordRule_bad {p : List Byte} {s : State}
    (h : 1 < u8At p 0 ∨ (u8At p 1 < 4 ∨ 6 < u8At p 1) ∨ 1 < u8At p 2) :
    setWordRule p s = refuse .badValue s := by
  have absent : wordSettingsOf p = none := by
    unfold wordSettingsOf
    split
    next strict debounce hStrict hDebounce =>
      refine if_neg ?_
      rw [within_eq_false]
      · simp
      rcases h with h | h | h
      · rw [switchOf_eq_none h] at hStrict
        exact absurd hStrict (by simp)
      · exact h
      · rw [switchOf_eq_none h] at hDebounce
        exact absurd hDebounce (by simp)
    next => rfl
  simp [setWordRule, absent]

theorem loadProfileRule_bad {p : List Byte} {s : State}
    (h : ∀ t r, targetOf (u8At p 0) (u16At p 1) = some t → t ≠ .directory →
      (profileOf p).filter profileValid = some r → False) :
    loadProfileRule p s = refuse .badValue s := by
  unfold loadProfileRule
  split
  next target record => exact (h _ _ target (by simp) record).elim
  next target record => exact (h _ _ target (by simp) record).elim
  next => rfl

theorem dropProfileRule_bad {p : List Byte} {s : State} (h : ¬ (u8At p 0 = 1 ∧ u16At p 1 ≠ 0)) :
    dropProfileRule p s = refuse .badValue s := by
  unfold dropProfileRule
  split
  next target =>
    rcases targetOf_eq_some target with ⟨-, -, _, other⟩ | ⟨one, named, -⟩ | ⟨-, other⟩
    · exact absurd other (by simp)
    · exact absurd ⟨one, named⟩ h
    · exact absurd other (by simp)
  next => rfl

theorem readProfileRule_bad {p : List Byte} {s : State} (h : targetOf (u8At p 0) (u16At p 1) = none) :
    readProfileRule p s = refuse .badValue s := by
  simp [readProfileRule, h]

theorem setFaultPolicyRule_bad {p : List Byte} {s : State}
    (h : 1024 ≤ u16At p 0 ∨ 1024 ≤ u16At p 2) : setFaultPolicyRule p s = refuse .badValue s := by
  rcases h with h | h <;> simp [setFaultPolicyRule, faultSetOf_eq_none h]

end Sys2Proof.Machine

namespace Sys2Proof.Proofs
open Sys2Proof.Machine

/-- Settles O8: LENGTH is checked before a command's own rule, and a rule answers OK or leaves the
state. -/
theorem refusalsChangeNothing : Obligations.RefusalsChangeNothing := by
  refine ⟨?short, ?unknown, ?rules⟩
  case short =>
    intro k i s c rest takes row short
    have ⟨_, _, _, _, known, kind⟩ := takes
    obtain rfl : k.row = i := Option.some.inj ((rowOf_known known kind).symm.trans row)
    exact exec_row_short takes short
  case unknown =>
    intro s c rest high idle room buffer unknown
    have ready : s.canTake = true := by simp [State.canTake, high, idle, Config.replyLimit, room]
    change execUnknownCommand s = _
    simp only [execUnknownCommand, takeCommand_unknown ready buffer unknown]
    rfl
  case rules =>
    intro p s
    simp only [List.forall_mem_cons]
    exact ⟨setLayoutRule_refuses p s, setPanelRule_refuses p s, setScanRule_refuses p s,
      setDisplayRule_refuses p s, setWordRule_refuses p s, channelsRule_refuses p s,
      releaseRule_refuses p s, loadProfileRule_refuses p s, dropProfileRule_refuses p s,
      readProfileRule_refuses p s, clearFaultsRule_refuses p s, setFaultPolicyRule_refuses p s,
      injectRule_refuses p s, by simp⟩

/-- Settles O9, field by field: a value out of its range makes the rule's own check fail. -/
theorem badFieldsRefused : Obligations.BadFieldsRefused := by
  unfold Obligations.BadFieldsRefused
  intro refused outside badCurve
  refine ⟨?layout, ?panel, ?scan, ?display, ?word, ?channels, ?release, ?load, ?drop, ?read, ?clear,
    ?policy, ?inject⟩
  case layout =>
    intro s c rest takes length bad
    refine runCommand_badValue (rule := setLayoutRule) takes length ?_
    exact setLayoutRule_bad bad.1 bad.2
  case panel =>
    intro s c rest takes length bad
    refine runCommand_badValue (rule := setPanelRule) takes length ?_
    obtain ⟨stopped, bad⟩ := bad
    refine setPanelRule_bad stopped ?_
    rw [← Bool.not_eq_true]
    intro fits
    change panelFits s.cfe.layout (panelOf c.payload) = true at fits
    cases layout : s.cfe.layout <;>
    · rw [layout] at fits bad
      simp [panelFits_iff, panelOf] at fits
      simp [outside] at bad
      omega
  case scan =>
    intro s c rest takes length bad
    refine runCommand_badValue (rule := setScanRule) takes length ?_
    refine setScanRule_bad ?_
    rw [← Bool.not_eq_true]
    intro fits
    simp [scanFits, scanOf, within_iff] at fits
    simp only [outside] at bad
    omega
  case display =>
    intro s c rest takes length bad
    refine runCommand_badValue (rule := setDisplayRule) takes length ?_
    refine setDisplayRule_bad ?_
    rw [← Bool.not_eq_true]
    intro fits
    simp [displayFits, within_iff] at fits
    simp only [outside] at bad
    omega
  case word =>
    intro s c rest takes length bad
    refine runCommand_badValue (rule := setWordRule) takes length ?_
    exact setWordRule_bad bad
  case channels =>
    intro s c rest takes length bad
    refine runCommand_badValue (rule := channelsRule) takes length ?_
    simp [channelsRule, channelSetOf_eq_none bad]
  case release =>
    intro s c rest takes length bad
    refine runCommand_badValue (rule := releaseRule) takes length ?_
    simp [releaseRule, channelOf_eq_none bad]
  case load =>
    intro s c rest takes length bad
    refine runCommand_badValue (rule := loadProfileRule) takes length ?_
    refine loadProfileRule_bad fun t r target notDirectory record => ?_
    have named : u8At c.payload 0 = 0 ∧ u16At c.payload 1 ≤ 3 ∨ u8At c.payload 0 = 1 ∧ u16At c.payload 1 ≠ 0 := by
      rcases targetOf_eq_some target with ⟨zero, small, _⟩ | ⟨one, id, _⟩ | ⟨_, directory⟩
      · exact .inl ⟨zero, small⟩
      · exact .inr ⟨one, id⟩
      · exact absurd directory notDirectory
    obtain ⟨tilt, curved, valid, pFree, pFull, height, pOn, pOff, curve⟩ := profileOf_valid record
    simp [profileValid, within_iff, pFree, pFull, height, pOn, pOff] at valid
    obtain ⟨ranges, curveOk⟩ := valid
    have notCurve : ¬ (u8At c.payload 14 = 1 ∧ badCurve c.payload) := by
      rintro ⟨one, badOne⟩
      have ok : curveValid (curveOf c.payload) = true := by simpa [curve one] using curveOk
      simp only [curveValid_iff, curveOf] at ok
      rcases badOne with ⟨k, hk, wrong⟩ | ⟨k, hk, wrong⟩ | ⟨k, hk, wrong⟩ | wrong
      · interval_cases k <;> simp [outside] at wrong <;> omega
      · interval_cases k <;> simp at wrong <;> omega
      · interval_cases k <;> simp at wrong <;> omega
      · simp at wrong
        omega
    simp only [outside, notCurve, or_false] at bad
    omega
  case drop =>
    intro s c rest takes length bad
    refine runCommand_badValue (rule := dropProfileRule) takes length ?_
    exact dropProfileRule_bad bad
  case read =>
    intro s c rest takes length bad
    refine runCommand_badValue (rule := readProfileRule) takes length ?_
    obtain ⟨notDefault, notTool, notDirectory⟩ := bad
    refine readProfileRule_bad (Option.eq_none_iff_forall_ne_some.2 fun t target => ?_)
    rcases targetOf_eq_some target with ⟨zero, small, _⟩ | ⟨one, id, _⟩ | ⟨two, _⟩
    · exact notDefault ⟨zero, small⟩
    · exact notTool ⟨one, id⟩
    · exact notDirectory two
  case clear =>
    intro s c rest takes length bad
    refine runCommand_badValue (rule := clearFaultsRule) takes length ?_
    simp [clearFaultsRule, faultSetOf_eq_none bad]
  case policy =>
    intro s c rest takes length bad
    refine runCommand_badValue (rule := setFaultPolicyRule) takes length ?_
    exact setFaultPolicyRule_bad bad
  case inject =>
    intro s c rest takes length bad
    refine runCommand_badValue (rule := injectRule) takes length ?_
    simp [injectRule, injectionOf_eq_none bad]

end Sys2Proof.Proofs
end

section
/-! PROOFS. The set-up commands taken: the geometry (O11), the staged and immediate settings (O12),
and STOP, HOLD and RESET (O14). -/

namespace Sys2Proof.Machine

/-! ### Reading the fields of a payload back (R191) -/

@[simp] theorem u8At_cons_zero (b : Byte) (p : List Byte) : u8At (b :: p) 0 = b.toNat := rfl

@[simp] theorem u8At_cons_succ (b : Byte) (p : List Byte) (k : Nat) :
    u8At (b :: p) (k + 1) = u8At p k := rfl

theorem byte_value {n : Nat} (h : n < 256) : n % 256 = n := Nat.mod_eq_of_lt h

theorem half_value {n : Nat} (h : n < 65536) : n % 256 + 256 * (n / 256 % 256) = n := by omega

theorem word_value {n : Nat} (h : n < 4294967296) :
    n % 256 + 256 * (n / 256 % 256)
      + 65536 * (n / 65536 % 256 + 256 * (n / 65536 / 256 % 256)) = n := by omega

theorem bit0_of_two (a b : Bool) : bitOf (a.toNat + 2 * b.toNat) 0 = a := by
  cases a <;> cases b <;> rfl

theorem bit1_of_two (a b : Bool) : bitOf (a.toNat + 2 * b.toNat) 1 = b := by
  cases a <;> cases b <;> rfl

theorem two_bits_lt (a b : Bool) : a.toNat + 2 * b.toNat < 4 := by
  cases a <;> cases b <;> decide

theorem switchOf_toNat (b : Bool) : switchOf b.toNat = some b := by
  cases b <;> rfl

theorem channelSetOf_bits (set : PerChannel Bool) :
    channelSetOf (set.c0.toNat + 2 * set.c1.toNat + 4 * set.c2.toNat + 8 * set.c3.toNat)
      = some set := by
  obtain ⟨b0, b1, b2, b3⟩ := set
  cases b0 <;> cases b1 <;> cases b2 <;> cases b3 <;> rfl

theorem boolNat_lt (b : Bool) : b.toNat < 256 := by
  cases b <;> decide

/-! ### The geometry (R2, R4) -/

theorem setLayoutRule_fixed (p : List Byte) (s : State) (h : s.cfe.fixed = true) :
    setLayoutRule p s = refuse .wrongState s := by
  simp [setLayoutRule, h]

theorem setLayoutRule_named {p : List Byte} {s : State} {l : Layout} (h : s.cfe.fixed = false)
    (named : layoutOf (u8At p 0) = some l) :
    setLayoutRule p s = accept (applyLayout l s) (u8 l.code) := by
  simp [setLayoutRule, h, named]

/-- The geometry a SET_LAYOUT leaves, the thresholds at the detect minimum (R2, R17). -/
theorem applyLayout_eq (l : Layout) (s : State) (h : s.bpl.active.detectMin ≤ 65535) :
    applyLayout l s = { s with
      cfe := { s.cfe with
        layout := l, fixed := true, panel := defaultPanel l, floor := ⟨0, 0⟩
        threshold := ⟨s.bpl.active.detectMin, s.bpl.active.detectMin⟩ }
      bpl := { s.bpl with
        cursor := everyChannel ⟨0, 0⟩
        rotation := rotationFor s.cfe.layout l s.bpl.rotation } } := by
  have atFloorZero : thresholdOf s.bpl.active.detectMin 0 = s.bpl.active.detectMin := by
    simp [thresholdOf, h]
  simp [applyLayout, restartAll, recomputeThresholds, State.setCfe, State.setBpl,
    everySheet, atFloorZero]

theorem rotationFor_eq (held named : Layout) (r : PerSheet Channel) : rotationFor held named r
    = if held = .single ∧ named = .dual then { r with s1 := .c3 } else r := by
  cases held <;> cases named <;> rfl

theorem defaultPanel_eq (l : Layout) : defaultPanel l
    = if l = .single then ⟨160, 0, 96, 600, 0, 0, 96000, 57600⟩
      else ⟨80, 80, 64, 600, 0, 0, 96000, 38400⟩ := by
  cases l <;> rfl

theorem setPanelRule_unstopped (p : List Byte) (s : State) (h : s.fts.scan ≠ .stopped) :
    setPanelRule p s = refuse .wrongState s := by
  simp [setPanelRule, h]

theorem setPanelRule_fits {p : List Byte} {s : State} (h : s.fts.scan = .stopped)
    (fits : panelFits s.cfe.layout (panelOf p) = true) :
    setPanelRule p s = accept { s with
      cfe := { s.cfe with panel := panelOf p }
      bpl := { s.bpl with cursor := everyChannel (everySheet 0) } } [] := by
  simp [setPanelRule, h, fits, restartAll, State.setCfe, State.setBpl]

/-- The bytes of a panel record in SET_PANEL (R193). -/
def panelBytes (g : Panel) : List Byte :=
  u8 g.n0 ++ u8 g.n1 ++ u8 g.yCount ++ u16 g.pitch ++ u32 g.originX ++ u32 g.originY
    ++ u32 g.width ++ u32 g.height

theorem panelOf_panelBytes {l : Layout} {g : Panel} (h : panelFits l g = true) :
    panelOf (panelBytes g) = g := by
  obtain ⟨single, dual, pitch, pitch', originX, originY, width, width', height, height'⟩ :=
    (panelFits_iff l g).1 h
  have counts : g.n0 < 256 ∧ g.n1 < 256 ∧ g.yCount < 256 := by
    cases l
    · have := single rfl; omega
    · have := dual rfl; omega
  obtain ⟨n0, n1, yCount⟩ := counts
  simp [panelOf, panelBytes, u16At, u32At, u8, u16, u32, byte_value, n0, n1, yCount,
    half_value (n := g.pitch) (by omega), word_value (n := g.originX) (by omega),
    word_value (n := g.originY) (by omega), word_value (n := g.width) (by omega),
    word_value (n := g.height) (by omega)]

/-! ### The settings (R28, R49, R74, R76, R95) -/

/-- The fields of a SET_SCAN. -/
def scanBytes (period : Nat) (r : ScanSettings) : List Byte :=
  u16 period ++ u16 r.detectMin ++ u8 r.confirm ++ u8 r.missWindow ++ u8 r.missLimit ++ u16 r.jump
    ++ u8 (r.edgeReload.toNat + 2 * r.align.toNat)

/-- The scan settings lie in their ranges (R49). -/
structure ScanInRange (period : Nat) (r : ScanSettings) : Prop where
  period : 2400 ≤ period ∧ period ≤ 10000
  detectMin : 64 ≤ r.detectMin ∧ r.detectMin ≤ 65535
  confirm : 2 ≤ r.confirm ∧ r.confirm ≤ 3
  missWindow : 4 ≤ r.missWindow ∧ r.missWindow ≤ 8
  missLimit : 2 ≤ r.missLimit ∧ r.missLimit ≤ 3
  jump : 500 ≤ r.jump ∧ r.jump ≤ 50000

theorem u16At_scanBytes {period : Nat} {r : ScanSettings} (h : ScanInRange period r) :
    u16At (scanBytes period r) 0 = period := by
  have range := h.period
  simp [scanBytes, u16At, u8, u16, half_value (n := period) (by omega)]

theorem scanOf_scanBytes {period : Nat} {r : ScanSettings} (h : ScanInRange period r) :
    scanOf (scanBytes period r) = r ∧ u8At (scanBytes period r) 9 < 4 := by
  have detectMin := h.detectMin
  have confirm := h.confirm
  have missWindow := h.missWindow
  have missLimit := h.missLimit
  have jump := h.jump
  have options := two_bits_lt r.edgeReload r.align
  simp [scanOf, scanBytes, u16At, u8, u16, half_value (n := r.detectMin) (by omega),
    half_value (n := r.jump) (by omega), byte_value (n := r.confirm) (by omega),
    byte_value (n := r.missWindow) (by omega), byte_value (n := r.missLimit) (by omega),
    byte_value (n := r.edgeReload.toNat + 2 * r.align.toNat) (by omega), bit0_of_two, bit1_of_two,
    options]

theorem scanFits_scanBytes {period : Nat} {r : ScanSettings} (h : ScanInRange period r) :
    scanFits (scanBytes period r) = true := by
  obtain ⟨settings, options⟩ := scanOf_scanBytes h
  simp [scanFits, settings, u16At_scanBytes h, within_iff, h.period, h.detectMin, h.confirm,
    h.missWindow, h.missLimit, h.jump, options]

theorem setScanRule_fits {p : List Byte} {s : State} (fits : scanFits p = true) :
    setScanRule p s = accept { s with
      fts := { s.fts with latch := u16At p 0 }
      bpl := { s.bpl with staged := { s.bpl.staged with scan := some (scanOf p) } } }
      (effectiveFrame s) := by
  simp [setScanRule, fits, State.setFts, State.setBpl, effectiveFrame]

theorem wordSettingsOf_bytes (strict debounce : Bool) {w : Nat} (h1 : 4 ≤ w) (h2 : w ≤ 6) :
    wordSettingsOf (u8 strict.toNat ++ u8 w ++ u8 debounce.toNat) = some ⟨strict, w, debounce⟩ := by
  simp [wordSettingsOf, u8, byte_value (boolNat_lt strict), byte_value (boolNat_lt debounce),
    byte_value (n := w) (by omega), switchOf_toNat, within_iff, h1, h2]

theorem setWordRule_fits {p : List Byte} {s : State} {r : WordSettings}
    (carried : wordSettingsOf p = some r) :
    setWordRule p s = accept
      { s with bpl := { s.bpl with staged := { s.bpl.staged with word := some r } } }
      (effectiveFrame s) := by
  simp [setWordRule, carried, State.setBpl, effectiveFrame]

theorem channelsRule_fits {p : List Byte} {s : State} {set : PerChannel Bool}
    (carried : channelSetOf (u8At p 0) = some set) :
    channelsRule p s = accept
      { s with bpl := { s.bpl with staged := { s.bpl.staged with enable := some set } } }
      (effectiveFrame s) := by
  simp [channelsRule, carried, State.setBpl, effectiveFrame]

theorem releaseRule_idle {p : List Byte} {s : State} {c : Channel}
    (named : channelOf (u8At p 0) = some c) (idle : (s.slot c).state = .idle) :
    releaseRule p s = refuse .wrongState s := by
  simp [releaseRule, named, idle]

theorem releaseRule_fits {p : List Byte} {s : State} {c : Channel}
    (named : channelOf (u8At p 0) = some c) (busy : (s.slot c).state ≠ .idle) :
    releaseRule p s = accept
      { s with bpl := { s.bpl with staged := { s.bpl.staged with
          releases := s.bpl.staged.releases.set c true } } }
      (effectiveFrame s) := by
  simp [releaseRule, named, busy, State.setBpl, effectiveFrame]

/-- The fields of a SET_DISPLAY. -/
def displayBytes (period tolerance : Nat) (ff lf : Bool) : List Byte :=
  u16 period ++ u16 tolerance ++ u8 (ff.toNat + 2 * lf.toNat)

theorem displayOf_displayBytes {period tolerance : Nat} (ff lf : Bool)
    (h1 : 6000 ≤ period) (h2 : period ≤ 32000) (h3 : 10 ≤ tolerance) (h4 : tolerance ≤ 2000) :
    displayFits (displayBytes period tolerance ff lf) = true
      ∧ displayOf (displayBytes period tolerance ff lf)
        = ⟨period, tolerance, polarityOf ff, polarityOf lf⟩ := by
  have options := two_bits_lt ff lf
  simp [displayFits, displayOf, displayBytes, u16At, u8, u16, half_value (n := period) (by omega),
    half_value (n := tolerance) (by omega), byte_value (n := ff.toNat + 2 * lf.toNat) (by omega),
    bit0_of_two, bit1_of_two, within_iff, h1, h2, h3, h4, options]

theorem setDisplayRule_fits {p : List Byte} {s : State} (fits : displayFits p = true) :
    setDisplayRule p s = accept (s.setFts { unlockSync s.fts with display := displayOf p }) [] := by
  simp [setDisplayRule, fits]

/-! ### STOP, HOLD and RESET (R36, R147, R187) -/

/-- What STOP makes of the frame timer's block. -/
def stoppedFts (f : Fts) : Fts :=
  if f.scan = .running then { f with stopReq := true }
  else if f.scan = .halted then
    { f with scan := .stopped, stopReq := false, timerOn := false, frame := .noFrame }
  else f

theorem applyStop_eq (s : State) : applyStop s
    = { s with fmo := { s.fmo with armed := nothingArmed }, fts := stoppedFts s.fts } := by
  cases h : s.fts.scan <;> simp [applyStop, stoppedFts, h, State.setFmo, State.setFts, stopScanning]

theorem stopRule_eq (p : List Byte) (s : State) : stopRule p s
    = accept { s with fmo := { s.fmo with armed := nothingArmed }, fts := stoppedFts s.fts }
        [if s.fts.scan = .running then 1 else 0] := by
  rw [stopRule, applyStop_eq]
  cases h : s.fts.scan <;> simp [stoppedFts, h, ScanState.code, u8]

theorem holdRule_eq {n : Nat} (h : n ≤ 65535) (s : State) : holdRule (u16 n) s
    = accept { s with rqu := { s.rqu with hold := if n = 0 then none else some (n * 256) } }
        (u8 s.rqu.queue.length ++ u8 (s.rqu.queue.countP Entry.isMotion)) := by
  simp [holdRule, u16At, u16, half_value (n := n) (by omega), holdTime, State.modRqu, State.setRqu,
    motionCount, Config.holdQuantum]

theorem execReset_takes {s : State} {c : Command} {rest : List Command} (h : Takes .reset s c rest)
    (hl : c.payload = []) : execReset s = .next (arbitrate (replied ⟨0x82, c.tag, [0x00], true⟩
      { taken rest s with cpr := .resetWaits })) := by
  have empty : c.payload.length = CommandKind.length .reset := by rw [hl]; rfl
  simp only [execReset, takeCommand_takes h, empty, if_true]
  rfl

end Sys2Proof.Machine

namespace Sys2Proof.Proofs
open Sys2Proof.Machine

/-- Settles O11: the layout a SET_LAYOUT names and the panel a SET_PANEL spells, read back from their
bytes. -/
theorem geometryCommandsTake : Obligations.GeometryCommandsTake := by
  refine ⟨fun s c rest l b takes payload => ⟨?layout, ?fixed⟩,
    fun s c rest g takes payload => ⟨?panel, ?unstopped⟩⟩
  case layout =>
    intro unfixed code small
    have named : layoutOf (u8At c.payload 0) = some l := by
      rw [payload, u8At_cons_zero, code]
      cases l <;> rfl
    have body : u8 l.code = [b] := by
      have : l.code = b.toNat := by rw [code]; cases l <;> rfl
      rw [this]
      simp [u8]
    refine (runCommand_accepts takes (by rw [payload]; rfl)
      (setLayoutRule_named unfixed named)).trans ?_
    rw [applyLayout_eq l (taken rest s) small, body, defaultPanel_eq, rotationFor_eq]
    rfl
  case fixed =>
    intro fixed
    exact runCommand_refuses takes (by rw [payload]; rfl) (setLayoutRule_fixed _ _ fixed)
  case panel =>
    intro stopped single dual pitch pitch' originX originY width width' height height'
    have fits : panelFits s.cfe.layout g = true := (panelFits_iff _ _).2
      ⟨single, dual, pitch, pitch', originX, originY, width, width', height, height'⟩
    have carried : panelOf c.payload = g := by rw [payload]; exact panelOf_panelBytes fits
    refine (runCommand_accepts takes (by rw [payload]; rfl)
      (setPanelRule_fits (s := taken rest s) stopped (by rw [carried]; exact fits))).trans ?_
    rw [carried]
    rfl
  case unstopped =>
    intro scanning
    exact runCommand_refuses takes (by rw [payload]; rfl) (setPanelRule_unstopped _ _ scanning)

/-- Settles O12: the settings each command spells, read back from their bytes. -/
theorem settingsCommandsTake : Obligations.SettingsCommandsTake := by
  refine ⟨?scan, ?staged, ?display⟩
  case scan =>
    intro s c rest period r takes payload p1 p2 d1 d2 c1 c2 w1 w2 l1 l2 j1 j2
    have range : ScanInRange period r :=
      ⟨⟨p1, p2⟩, ⟨d1, d2⟩, ⟨c1, c2⟩, ⟨w1, w2⟩, ⟨l1, l2⟩, ⟨j1, j2⟩⟩
    change c.payload = scanBytes period r at payload
    refine (runCommand_accepts takes (by rw [payload]; rfl)
      (setScanRule_fits (by rw [payload]; exact scanFits_scanBytes range))).trans ?_
    rw [payload, (scanOf_scanBytes range).1, u16At_scanBytes range]
    rfl
  case staged =>
    intro s c rest stages
    refine ⟨?word, ?channels, ?release, ?idle⟩
    case word =>
      intro strict debounce w takes payload w1 w2
      exact runCommand_accepts takes (by rw [payload]; rfl)
        (setWordRule_fits (by rw [payload]; exact wordSettingsOf_bytes strict debounce w1 w2))
    case channels =>
      intro set takes payload
      have carried : channelSetOf (u8At c.payload 0) = some set := by
        rw [payload, ← channelSetOf_bits set]
        obtain ⟨b0, b1, b2, b3⟩ := set
        cases b0 <;> cases b1 <;> cases b2 <;> cases b3 <;> rfl
      exact runCommand_accepts takes (by rw [payload]; rfl) (channelsRule_fits carried)
    case release =>
      intro ch takes payload busy
      have named : channelOf (u8At c.payload 0) = some ch := by rw [payload]; cases ch <;> rfl
      exact runCommand_accepts takes (by rw [payload]; rfl)
        (releaseRule_fits (s := taken rest s) named busy)
    case idle =>
      intro ch takes payload idle
      have named : channelOf (u8At c.payload 0) = some ch := by rw [payload]; cases ch <;> rfl
      exact runCommand_refuses takes (by rw [payload]; rfl)
        (releaseRule_idle (s := taken rest s) named idle)
  case display =>
    intro s c rest period tolerance ff lf takes payload p1 p2 t1 t2
    change c.payload = displayBytes period tolerance ff lf at payload
    obtain ⟨fits, carried⟩ := displayOf_displayBytes ff lf p1 p2 t1 t2
    refine (runCommand_accepts takes (by rw [payload]; rfl)
      (setDisplayRule_fits (by rw [payload]; exact fits))).trans ?_
    rw [payload, carried]
    rfl

/-- Settles O14, one equation per rule. -/
theorem stopHoldResetTake : Obligations.StopHoldResetTake := by
  refine fun s c rest => ⟨?stop, ?hold, ?reset⟩
  case stop =>
    intro takes payload
    exact runCommand_accepts takes (by rw [payload]; rfl) (stopRule_eq c.payload (taken rest s))
  case hold =>
    intro n takes payload small
    exact runCommand_accepts takes (by rw [payload]; rfl)
      (by rw [payload]; exact holdRule_eq small (taken rest s))
  case reset => exact execReset_takes

end Sys2Proof.Proofs
end

section
/-! PROOFS. The Profile Table's commands: LOAD_PROFILE (O15), DROP_PROFILE (O16), READ_PROFILE
(O17). -/

namespace Sys2Proof.Machine

/-! ### A TOOL handed leaves the entries of other kinds and channels (R142) -/

theorem Rqu.handTool_filter (r : Rqu) (c : Channel) (id : Nat) (b : Option Nat) (p : Entry → Bool)
    (h : ∀ e, e.isToolOf c = true → p e = false) :
    (r.handTool c id b).queue.filter p = r.queue.filter p := by
  have new : p (.tool c id b) = false := h _ (by simp [Entry.isToolOf])
  unfold Rqu.handTool
  split
  next =>
    split
    next =>
      simp only [Rqu.place, List.filter_append, List.filter_filter, List.filter_cons, new,
        List.filter_nil, List.append_nil, Bool.false_eq_true, if_false]
      refine List.filter_congr fun e _ => ?_
      cases own : e.isToolOf c
      · simp
      · simp [h e own]
    next =>
      simp only [List.filter_map]
      induction r.queue with
      | nil => rfl
      | cons e l ih =>
        cases own : e.isToolOf c
        · cases kept : p e <;> simp [own, kept, ih]
        · simp [own, new, h e own, ih]
  next => simp [Rqu.place, new]

theorem Rqu.mem_handTool_of_other {r : Rqu} {e : Entry} (h : e ∈ r.queue) (c : Channel) (id : Nat)
    (b : Option Nat) (other : e.isToolOf c = false) : e ∈ (r.handTool c id b).queue := by
  have kept := r.handTool_filter c id b (fun e => !e.isToolOf c) (by simp)
  have : e ∈ (r.handTool c id b).queue.filter (fun e => !e.isToolOf c) := by
    rw [kept]
    exact List.mem_filter.2 ⟨h, by simp [other]⟩
  exact (List.mem_filter.1 this).1

/-! ### Binding at command time (R129) -/

/-- The slot of `c` has tool ID `id` and is not bound to `b`. -/
abbrev BindingMoves (s : State) (id : Nat) (b : Option Nat) (c : Channel) : Prop :=
  (s.slot c).toolId = some id ∧ (s.slot c).bound ≠ b

/-- The TOOLs handed, in slot order, for the slots whose binding moves to `b`. -/
def handMoved (s : State) (id : Nat) (b : Option Nat) (r : Rqu) : Rqu :=
  Channel.all.foldl (fun r c => if BindingMoves s id b c then r.handTool c id b else r) r

theorem rebindSlot_rqu (id : Nat) (s : State) (c : Channel) : (rebindSlot id s c).rqu
    = if BindingMoves s id (boundOf s.ptb (some id)) c then
        s.rqu.handTool c id (boundOf s.ptb (some id)) else s.rqu := by
  unfold rebindSlot
  by_cases own : (s.slot c).toolId = some id
  · by_cases same : boundOf s.ptb (some id) = (s.slot c).bound
    · simp [own, same]
    · simp [own, same, Ne.symm same, State.modRqu]
  · simp [own]

theorem rebindSlot_frame (id : Nat) (s : State) (c : Channel) : rebindSlot id s c = { s with
    rqu := (rebindSlot id s c).rqu
    ptr := { s.ptr with slots := (rebindSlot id s c).ptr.slots } } := by
  unfold rebindSlot
  dsimp only
  split
  · split <;> rfl
  · rfl

theorem rebindSlots_rqu (id : Nat) (s : State) : (rebindSlots id s).rqu
    = handMoved s id (boundOf s.ptb (some id)) s.rqu := by
  simp [rebindSlots, handMoved, Channel.all, rebindSlot_rqu, BindingMoves]

/-- `t` is `s` but for its queue and its slots. -/
def SlotsAndQueueMoved (s t : State) : Prop :=
  t = { s with rqu := t.rqu, ptr := { s.ptr with slots := t.ptr.slots } }

theorem rebindSlots_frame (id : Nat) (s : State) : SlotsAndQueueMoved s (rebindSlots id s) :=
  List.foldlRecOn (motive := SlotsAndQueueMoved s) Channel.all (rebindSlot id) (b := s) rfl
    fun t kept c _ => by
      unfold SlotsAndQueueMoved at kept ⊢
      rw [rebindSlot_frame id t c, kept]

theorem handMoved_mem {s : State} {id : Nat} {b : Option Nat} {c : Channel}
    (moves : BindingMoves s id b c) (r : Rqu) : .tool c id b ∈ (handMoved s id b r).queue := by
  let hand := fun (r : Rqu) c => if BindingMoves s id b c then r.handTool c id b else r
  have keeps {r : Rqu} (d : Channel) (h : .tool c id b ∈ r.queue) : .tool c id b ∈ (hand r d).queue := by
    simp only [hand]
    split
    · by_cases same : d = c
      · subst same
        exact r.tool_mem_handTool d id b
      · exact Rqu.mem_handTool_of_other h d id b (by simpa [Entry.isToolOf] using Ne.symm same)
    · exact h
  have placed (r : Rqu) : .tool c id b ∈ (hand r c).queue := by
    simp only [hand, if_pos moves]
    exact r.tool_mem_handTool c id b
  change .tool c id b ∈ (hand (hand (hand (hand r .c0) .c1) .c2) .c3).queue
  cases c with
  | c0 => exact keeps _ (keeps _ (keeps _ (placed _)))
  | c1 => exact keeps _ (keeps _ (placed _))
  | c2 => exact keeps _ (placed _)
  | c3 => exact placed _

theorem handMoved_filter (s : State) (id : Nat) (b : Option Nat) (r : Rqu) (p : Entry → Bool)
    (h : ∀ c e, e.isToolOf c = true → p e = false) :
    (handMoved s id b r).queue.filter p = r.queue.filter p :=
  List.foldlRecOn (motive := fun t : Rqu => t.queue.filter p = r.queue.filter p) Channel.all
    (fun r c => if BindingMoves s id b c then r.handTool c id b else r) (b := r) rfl
    fun t kept c _ => by
      split
      · rw [t.handTool_filter c id b p (h c), kept]
      · exact kept

/-! ### The table's records (R123, R125) -/

theorem holdsTool_iff (t : Ptb) (id : Nat) :
    holdsTool t id = true ↔ (toolRecord t id).isSome = true := by
  simp [holdsTool, toolRecord]

theorem toolRecord_putTool (id : Nat) (r : Profile) (t : Ptb) :
    toolRecord { t with tools := putTool id r t.tools } id = some r := by
  suffices found : (putTool id r t.tools).find? (·.1 = id) = some (id, r) by
    simp [toolRecord, found]
  induction t.tools with
  | nil => simp [putTool]
  | cons p l ih =>
    obtain ⟨k, q⟩ := p
    unfold putTool
    split
    · simp
    · split
      · simp
      · next unequal => simpa [Ne.symm unequal] using ih

theorem toolRecord_putTool_other {id k : Nat} (other : k ≠ id) (r : Profile) (t : Ptb) :
    toolRecord { t with tools := putTool id r t.tools } k = toolRecord t k := by
  suffices same : (putTool id r t.tools).find? (·.1 = k) = t.tools.find? (·.1 = k) by
    simp [toolRecord, same]
  induction t.tools with
  | nil => simp [putTool, other.symm]
  | cons p l ih =>
    obtain ⟨j, q⟩ := p
    unfold putTool
    split
    · simp [other.symm]
    · split
      · next same => subst same; simp [other.symm]
      · simp [List.find?_cons, ih]

theorem toolRecord_filter (id : Nat) (t : Ptb) :
    toolRecord { t with tools := t.tools.filter (·.1 != id) } id = none := by
  simp [toolRecord, List.find?_eq_none]

theorem toolRecord_filter_other {id k : Nat} (other : k ≠ id) (t : Ptb) :
    toolRecord { t with tools := t.tools.filter (·.1 != id) } k = toolRecord t k := by
  have same : (t.tools.filter (·.1 != id)).find? (·.1 = k) = t.tools.find? (·.1 = k) := by
    rw [List.find?_filter]
    congr 1
    funext p
    by_cases h : p.1 = k
    · simp [h, other]
    · simp [h]
  simp [toolRecord, same]

/-- A rising table holds an ID once. -/
theorem length_filter_of_rising {l : List (Nat × Profile)} {id : Nat}
    (rising : (l.map (·.1)).Pairwise (· < ·)) (held : ∃ p ∈ l, p.1 = id) :
    (l.filter (·.1 != id)).length + 1 = l.length := by
  obtain ⟨p, mem, rfl⟩ := held
  have once : l.countP (fun q => q.1 == p.1) = 1 := by
    have nodup : (l.map (·.1)).Nodup := rising.imp fun h => Nat.ne_of_lt h
    have := List.count_eq_one_of_mem nodup (List.mem_map_of_mem (f := (·.1)) mem)
    simpa [List.count, List.countP_map, Function.comp_def] using this
  have split := List.length_eq_length_filter_add (l := l) (fun q : Nat × Profile => q.1 != p.1)
  rw [List.countP_eq_length_filter] at once
  simp only [bne, Bool.not_not] at split ⊢
  omega

/-! ### The bytes of a record (R193, R194) -/

theorem u8At_take {l : List Byte} {k n : Nat} (h : k < n) : u8At (l.take n) k = u8At l k := by
  simp [u8At, List.getD_eq_getElem?_getD, List.getElem?_take, h]

/-- The bytes `p` carry the record `r`: with its curve indicator clear its curve bytes are free. -/
abbrev Carries (r : Profile) (p : List Byte) : Prop :=
  p.length = 32 ∧ p.take 12 = (profileBytes r).take 12 ∧ (r.curve ≠ none → p = profileBytes r)

/-- A valid record's fields fit the bytes they are sent in. -/
theorem profileValid_ranges {r : Profile} (h : profileValid r = true) :
    r.pFree < 65536 ∧ r.pFull < 65536 ∧ r.height < 65536 ∧ r.on < 65536 ∧ r.off < 65536
      ∧ ∀ c, r.curve = some c → curveValid c = true := by
  simp [profileValid, within_iff] at h
  obtain ⟨ranges, curve⟩ := h
  refine ⟨by omega, by omega, by omega, by omega, by omega, fun c held => ?_⟩
  simpa [held] using curve

/-- The scalar fields of a record are read back from its bytes. -/
theorem profileBytes_fields {r : Profile} (valid : profileValid r = true) {p : List Byte}
    (h : p.take 12 = (profileBytes r).take 12) :
    u16At p 0 = r.pFree ∧ u16At p 2 = r.pFull ∧ u16At p 4 = r.height ∧ u16At p 6 = r.on
      ∧ u16At p 8 = r.off ∧ u8At p 10 = r.tilt.toNat ∧ u8At p 11 = r.curve.isSome.toNat := by
  have byte (k : Nat) (hk : k < 12) : u8At p k = u8At (profileBytes r) k := by
    rw [← u8At_take hk, h, u8At_take hk]
  obtain ⟨pFree, pFull, height, pOn, pOff, -⟩ := profileValid_ranges valid
  simp [u16At, byte, profileBytes, u8, u16, half_value, pFree, pFull, height, pOn, pOff,
    byte_value (boolNat_lt _)]

/-- A curve's points are read back from its record's bytes. -/
theorem profileBytes_curve {r : Profile} {c : Curve} (held : r.curve = some c)
    (valid : curveValid c = true) (b0 b1 b2 : Byte) :
    curveOf (b0 :: b1 :: b2 :: profileBytes r) = c := by
  obtain ⟨x1, x2, x3, x4, -, -, -, y0, y1, y2, y3, y4, y5⟩ := (curveValid_iff c).1 valid
  simp [curveOf, u16At, profileBytes, held, curveBytes, u8, u16,
    half_value (n := c.x1) (by omega), half_value (n := c.x2) (by omega),
    half_value (n := c.x3) (by omega), half_value (n := c.x4) (by omega),
    half_value (n := c.y0) (by omega), half_value (n := c.y1) (by omega),
    half_value (n := c.y2) (by omega), half_value (n := c.y3) (by omega),
    half_value (n := c.y4) (by omega), half_value (n := c.y5) (by omega)]

/-- LOAD_PROFILE reads the record its payload carries. -/
theorem profileOf_carries {r : Profile} {p : List Byte} (valid : profileValid r = true)
    (h : Carries r p) (b0 b1 b2 : Byte) :
    (profileOf (b0 :: b1 :: b2 :: p)).filter profileValid = some r := by
  obtain ⟨-, head, curve⟩ := h
  obtain ⟨pFree, pFull, height, pOn, pOff, tilt, indicator⟩ := profileBytes_fields valid head
  have carried : profileOf (b0 :: b1 :: b2 :: p) = some r := by
    have curved : (if r.curve.isSome then some (curveOf (b0 :: b1 :: b2 :: p)) else none)
        = r.curve := by
      cases held : r.curve with
      | none => rfl
      | some c =>
        obtain ⟨-, -, -, -, -, valid⟩ := profileValid_ranges valid
        rw [curve (by simp [held]), profileBytes_curve held (valid c held)]
        rfl
    simp only [u16At] at pFree pFull height pOn pOff
    simp [profileOf, u16At, tilt, indicator, switchOf_toNat, pFree, pFull, height, pOn, pOff,
      curved]
  rw [carried]
  simp [Option.filter, valid]

/-! ### The rules (R122 to R127) -/

theorem targetOf_default (c : Channel) : targetOf 0 c.num = some (.default c) := by
  cases c <;> rfl

theorem targetOf_named {id : Nat} (h : 1 ≤ id) : targetOf 1 id = some (.tool id) :=
  if_neg (by omega)

theorem channelByte_boundToDefault (s : State) (c : Channel) :
    channelByte (boundToDefault s c) = if (s.slot c).bound = none then 2 ^ c.num else 0 := by
  by_cases h : (s.slot c).bound = none <;> cases c <;> simp [boundToDefault, h] <;> rfl

theorem loadProfileRule_default {p : List Byte} {s : State} {c : Channel} {r : Profile}
    (target : targetOf (u8At p 0) (u16At p 1) = some (.default c))
    (record : (profileOf p).filter profileValid = some r) :
    loadProfileRule p s = accept (loadDefault c r s)
      (profileBody (loadDefault c r s) (boundToDefault (loadDefault c r s) c)) := by
  simp [loadProfileRule, target, record]

theorem loadProfileRule_full {p : List Byte} {s : State} {id : Nat} {r : Profile}
    (target : targetOf (u8At p 0) (u16At p 1) = some (.tool id))
    (record : (profileOf p).filter profileValid = some r)
    (absent : toolRecord s.ptb id = none) (full : 16 ≤ s.ptb.tools.length) :
    loadProfileRule p s = refuse .tableFull s := by
  have notHeld : holdsTool s.ptb id = false := by
    rw [← Bool.not_eq_true, holdsTool_iff, absent]
    simp
  simp [loadProfileRule, target, record, notHeld, Config.toolLimit, full]

theorem loadProfileRule_tool {p : List Byte} {s : State} {id : Nat} {r : Profile}
    (target : targetOf (u8At p 0) (u16At p 1) = some (.tool id))
    (record : (profileOf p).filter profileValid = some r)
    (room : (∃ q, toolRecord s.ptb id = some q) ∨ s.ptb.tools.length < 16) :
    loadProfileRule p s = accept (loadTool id r s)
      (profileBody (loadTool id r s) (boundToTool (loadTool id r s) id)) := by
  have fits : (!holdsTool s.ptb id && decide (Config.toolLimit ≤ s.ptb.tools.length)) = false := by
    rcases room with ⟨q, held⟩ | room
    · simp [(holdsTool_iff s.ptb id).2 (by simp [held])]
    · simp [Config.toolLimit, Nat.not_le.2 room]
  simp [loadProfileRule, target, record, fits]

theorem dropProfileRule_absent {p : List Byte} {s : State} {id : Nat}
    (target : targetOf (u8At p 0) (u16At p 1) = some (.tool id))
    (absent : toolRecord s.ptb id = none) : dropProfileRule p s = refuse .notFound s := by
  have notHeld : holdsTool s.ptb id = false := by
    rw [← Bool.not_eq_true, holdsTool_iff, absent]
    simp
  simp [dropProfileRule, target, notHeld]

theorem dropProfileRule_held {p : List Byte} {s : State} {id : Nat} {q : Profile}
    (target : targetOf (u8At p 0) (u16At p 1) = some (.tool id))
    (held : toolRecord s.ptb id = some q) :
    dropProfileRule p s = accept (dropTool id s)
      (profileBody (dropTool id s) (slotSet s (·.toolId = some id))) := by
  simp [dropProfileRule, target, (holdsTool_iff s.ptb id).2 (by simp [held])]

theorem readProfileRule_absent {p : List Byte} {s : State} {id : Nat}
    (target : targetOf (u8At p 0) (u16At p 1) = some (.tool id))
    (absent : toolRecord s.ptb id = none) : readProfileRule p s = refuse .notFound s := by
  simp [readProfileRule, target, absent]

theorem readProfileRule_held {p : List Byte} {s : State} {id : Nat} {r : Profile}
    (target : targetOf (u8At p 0) (u16At p 1) = some (.tool id))
    (held : toolRecord s.ptb id = some r) :
    readProfileRule p s = accept s (recordBody 1 id r (boundToTool s id)) := by
  simp [readProfileRule, target, held]

theorem targetBytes (kind : Byte) {v : Nat} (h : v < 65536) (l : List Byte) :
    u16At (kind :: u16 v ++ l) 1 = v := by
  simp [u16At, u16, half_value h]

theorem channelNum_lt (c : Channel) : c.num < 65536 := by
  cases c <;> decide

end Sys2Proof.Machine

namespace Sys2Proof.Proofs
open Sys2Proof.Machine

/-- Settles O15: the record read back from its bytes, put into the table, and the slots rebound. -/
theorem loadProfileStores : Obligations.LoadProfileStores := by
  unfold Obligations.LoadProfileStores
  intro carries
  refine ⟨?default, ?toolTarget⟩
  case default =>
    intro s c rest ch r p takes valid carried payload
    have target : targetOf (u8At c.payload 0) (u16At c.payload 1) = some (.default ch) := by
      rw [payload]
      exact (congrArg (targetOf 0) (targetBytes _ (channelNum_lt ch) p)).trans (targetOf_default ch)
    have record : (profileOf c.payload).filter profileValid = some r := by
      rw [payload]
      exact profileOf_carries valid carried _ _ _
    refine (runCommand_accepts takes (by rw [payload]; simp [u8, u16, carried.1]; rfl)
      (loadProfileRule_default target record)).trans ?_
    rw [profileBody, channelByte_boundToDefault]
    rfl
  case toolTarget =>
    intro s c rest id r p takes valid carried one small payload moves
    have target : targetOf (u8At c.payload 0) (u16At c.payload 1) = some (.tool id) := by
      rw [payload]
      exact (congrArg (targetOf 1) (targetBytes _ (by omega) p)).trans (targetOf_named one)
    have record : (profileOf c.payload).filter profileValid = some r := by
      rw [payload]
      exact profileOf_carries valid carried _ _ _
    have length : c.payload.length = CommandKind.length .loadProfile := by
      rw [payload]; simp [u8, u16, carried.1]; rfl
    refine ⟨?tool, ?full⟩
    case tool =>
      intro room
      let v := taken rest s
      let ptb := { s.ptb with tools := putTool id r s.ptb.tools }
      have bound : boundOf ptb (some id) = some id := by
        rw [boundOf_some, toolRecord_putTool]
        rfl
      have table : (loadTool id r v).ptb = ptb := by
        rw [loadTool, rebindSlots_ptb]
        rfl
      have queue : (loadTool id r v).rqu = handMoved s id (some id) s.rqu := by
        rw [loadTool, rebindSlots_rqu]
        change handMoved _ id (boundOf ptb (some id)) s.rqu = _
        rw [bound]
        rfl
      refine ⟨loadTool id r v, runCommand_accepts takes length (loadProfileRule_tool target record room),
        ?_, fun k other => ?_, fun legal => ?_, ?_, fun ch => ?_, queue, fun ch move => ?_, ?_, ?_⟩
      · rw [table, toolRecord_putTool]
      · rw [table, toolRecord_putTool_other other]
      · rw [table, putTool_length legal.rising]
        have held := holdsTool_iff s.ptb id
        unfold holdsTool at held
        by_cases h : (s.ptb.tools.any (·.1 = id)) = true
        · rw [if_pos h, if_pos (held.1 h), Nat.add_zero]
        · rw [if_neg h, if_neg fun present => h (held.2 present)]
      · rw [table]
      · rw [loadTool, rebindSlots_slot]
        change (if (s.slot ch).toolId = some id then
          { s.slot ch with bound := boundOf ptb (some id) } else s.slot ch) = _
        rw [bound]
      · rw [queue]
        exact handMoved_mem move _
      · rw [queue, handMoved_filter]
        intro d e own
        cases d <;> simp [Channel.all, own]
      · exact (rebindSlots_frame id (v.setPtb ptb)).trans (by rw [table]; rfl)
    case full =>
      intro absent full
      exact runCommand_refuses takes length
        (loadProfileRule_full (s := taken rest s) target record absent full)

/-- Settles O16: the record filtered out of the table, and the slots rebound to their defaults. -/
theorem dropProfileRebinds : Obligations.DropProfileRebinds := by
  intro s c rest id takes one small payload moves
  have target : targetOf (u8At c.payload 0) (u16At c.payload 1) = some (.tool id) := by
    rw [payload]
    exact (congrArg (targetOf 1) (targetBytes _ (by omega) [])).trans (targetOf_named one)
  have length : c.payload.length = CommandKind.length .dropProfile := by rw [payload]; rfl
  refine ⟨fun q held => ?_, fun absent => ?absent⟩
  case absent =>
    exact runCommand_refuses takes length
      (dropProfileRule_absent (s := taken rest s) target absent)
  let v := taken rest s
  let ptb := { s.ptb with tools := s.ptb.tools.filter (·.1 != id) }
  have bound : boundOf ptb (some id) = none := by
    rw [boundOf_some, toolRecord_filter]
    rfl
  have table : (dropTool id v).ptb = ptb := by
    rw [dropTool, rebindSlots_ptb]
    rfl
  have queue : (dropTool id v).rqu = handMoved s id none s.rqu := by
    rw [dropTool, rebindSlots_rqu]
    change handMoved _ id (boundOf ptb (some id)) s.rqu = _
    rw [bound]
    rfl
  refine ⟨dropTool id v,
    runCommand_accepts takes length (dropProfileRule_held (s := v) target held),
    ?_, fun k other => ?_, fun legal => ?_, ?_, fun ch => ?_, queue, fun ch move => ?_, ?_⟩
  · rw [table, toolRecord_filter]
  · rw [table, toolRecord_filter_other other]
  · rw [table]
    have present := (holdsTool_iff s.ptb id).2 (by simp [held])
    simp only [holdsTool, List.any_eq_true, decide_eq_true_eq] at present
    exact length_filter_of_rising legal.rising present
  · rw [table]
  · rw [dropTool, rebindSlots_slot]
    change (if (s.slot ch).toolId = some id then
      { s.slot ch with bound := boundOf ptb (some id) } else s.slot ch) = _
    rw [bound]
  · rw [queue]
    exact handMoved_mem move _
  · exact (rebindSlots_frame id (v.setPtb ptb)).trans (by rw [table]; rfl)

/-- Settles O17, one case per form of the command. -/
theorem readProfileReads : Obligations.ReadProfileReads := by
  intro s c rest takes answers
  refine ⟨?default, ?tool, ?directory, ?absent⟩
  case default =>
    intro ch payload
    have target : targetOf (u8At c.payload 0) (u16At c.payload 1) = some (.default ch) := by
      rw [payload]
      exact (congrArg (targetOf 0) (targetBytes _ (channelNum_lt ch) [])).trans (targetOf_default ch)
    have body := channelByte_boundToDefault (taken rest s) ch
    refine (runCommand_accepts takes (by rw [payload]; rfl)
      (t := taken rest s) (body := recordBody 0 ch.num ((taken rest s).ptb.defaults.get ch)
        (boundToDefault (taken rest s) ch)) (by simp [readProfileRule, target])).trans ?_
    rw [recordBody, body]
    rfl
  case tool =>
    intro id r one small payload held
    have target : targetOf (u8At c.payload 0) (u16At c.payload 1) = some (.tool id) := by
      rw [payload]
      exact (congrArg (targetOf 1) (targetBytes _ (by omega) [])).trans (targetOf_named one)
    exact runCommand_accepts takes (by rw [payload]; rfl)
      (readProfileRule_held (s := taken rest s) target held)
  case directory =>
    intro v payload
    have target : targetOf (u8At c.payload 0) (u16At c.payload 1) = some .directory := by
      rw [payload]
      rfl
    exact runCommand_accepts takes (by rw [payload]; rfl)
      (t := taken rest s) (body := directoryBody (taken rest s)) (by simp [readProfileRule, target])
  case absent =>
    intro id one small payload absent
    have target : targetOf (u8At c.payload 0) (u16At c.payload 1) = some (.tool id) := by
      rw [payload]
      exact (congrArg (targetOf 1) (targetBytes _ (by omega) [])).trans (targetOf_named one)
    exact runCommand_refuses takes (by rw [payload]; rfl)
      (readProfileRule_absent (s := taken rest s) target absent)

end Sys2Proof.Proofs
end

section
/-! PROOFS. READ_TRACK's reply field by field (O18), SET_FAULT_POLICY (O21) and INJECT (O22). -/

namespace Sys2Proof.Machine

/-! ### Fields of joined payloads -/

theorem Holds.append_left {a l : List Byte} {k : Nat} (h : Holds a k l) (b : List Byte)
    (fits : k + l.length ≤ a.length) : Holds (a ++ b) k l := by
  unfold Holds at h ⊢
  rw [List.drop_append_of_le_length (by omega), List.take_append_of_le_length (by simp; omega), h]

theorem Holds.append_right {b l : List Byte} {k j : Nat} (h : Holds b k l) {a : List Byte}
    (at_ : j = a.length + k) : Holds (a ++ b) j l := by
  subst at_
  unfold Holds at h ⊢
  rw [List.drop_length_add_append, h]

/-! ### The parts of a READ_TRACK reply (R195) -/

/-- The bytes of a READ_TRACK reply before its slot records. -/
def trackHeader (s : State) : List Byte :=
  u8 0 ++ u8 s.fts.scan.code ++ u8 s.fts.stopReq.toNat ++ u16 s.fts.frameNo.toNat
    ++ u8 s.fts.lock.code ++ u8 (channelByte s.ptr.enabled)

/-- The bytes of a READ_TRACK reply after its slot records. -/
def trackTail (s : State) : List Byte :=
  Channel.all.flatMap (cursorBytes s) ++ plannerBytes s ++ u8 (stagedByte s.bpl.staged)
    ++ armedBytes s.fmo.armed

theorem readTrack_payload (s : State) : u8 0 ++ readTrackBody s
    = trackHeader s ++ (slotBytes (s.slot .c0) ++ (slotBytes (s.slot .c1)
      ++ (slotBytes (s.slot .c2) ++ (slotBytes (s.slot .c3) ++ trackTail s)))) := by
  simp [readTrackBody, trackHeader, trackTail, Channel.all]

theorem relocationBytes_length (o : Option Relocation) : (relocationBytes o).length = 10 := by
  cases o <;> rfl

theorem slotBytes_length (sl : Slot) : (slotBytes sl).length = 29 := by
  simp [slotBytes, u8, u16, u32, s32, relocationBytes_length]

/-- A field of a slot record stands in the reply at the offset of its channel. -/
theorem readTrack_slot {s : State} {c : Channel} {k : Nat} {l : List Byte}
    (h : Holds (slotBytes (s.slot c)) k l) (fits : k + l.length ≤ 29) :
    Holds (u8 0 ++ readTrackBody s) (7 + 29 * c.num + k) l := by
  have within (b : List Byte) : Holds (slotBytes (s.slot c) ++ b) k l :=
    h.append_left b (by rw [slotBytes_length]; exact fits)
  have header : (trackHeader s).length = 7 := rfl
  have size (d : Channel) : (slotBytes (s.slot d)).length = 29 := slotBytes_length _
  rw [readTrack_payload]
  cases c with
  | c0 => exact (within _).append_right (by rw [header]; simp [Channel.num])
  | c1 =>
    exact ((within _).append_right rfl).append_right (by rw [header, size]; simp [Channel.num]; omega)
  | c2 =>
    exact (((within _).append_right rfl).append_right rfl).append_right
      (by rw [header, size, size]; simp [Channel.num]; omega)
  | c3 =>
    exact ((((within _).append_right rfl).append_right rfl).append_right rfl).append_right
      (by rw [header, size, size, size]; simp [Channel.num]; omega)

theorem readTrack_header {s : State} {k : Nat} {l : List Byte} (h : Holds (trackHeader s) k l)
    (fits : k + l.length ≤ 7) : Holds (u8 0 ++ readTrackBody s) k l := by
  rw [readTrack_payload]
  exact h.append_left _ fits

theorem readTrack_tail {s : State} {k : Nat} {l : List Byte} (h : Holds (trackTail s) k l) :
    Holds (u8 0 ++ readTrackBody s) (123 + k) l := by
  have header : (trackHeader s).length = 7 := rfl
  rw [readTrack_payload]
  exact ((((h.append_right rfl).append_right rfl).append_right rfl).append_right rfl).append_right
    (by simp only [header, slotBytes_length]; omega)

theorem readTrack_length (s : State) : (u8 0 ++ readTrackBody s).length = 140 := by
  rw [readTrack_payload]
  simp only [List.length_append, slotBytes_length]
  rfl

theorem slotFlagsByte_eq (sl : Slot) : slotFlagsByte sl
    = sl.prox.toNat + 2 * sl.tip.code + 4 * sl.pendingRel.isSome.toNat
      + 8 * (sl.word.bind (·.aligned)).isSome.toNat
      + 16 * ((sl.word.map (·.mimic)).getD false).toNat
      + 32 * (sl.word.bind (·.aligned)).getD 0 := by
  have tip : (decide (sl.tip = .down)).toNat = sl.tip.code := by cases sl.tip <;> rfl
  simp only [slotFlagsByte, slotOffset, slotMimic, ofBits, tip]
  omega

/-- The fields of a slot record. -/
theorem slotBytes_fields (sl : Slot) :
    Holds (slotBytes sl) 0 (u8 sl.state.code) ∧ Holds (slotBytes sl) 1 (u8 (slotFlagsByte sl))
      ∧ Holds (slotBytes sl) 2 (u8 sl.centreX) ∧ Holds (slotBytes sl) 3 (u8 sl.centreY)
      ∧ Holds (slotBytes sl) 4 (s32 sl.lastX) ∧ Holds (slotBytes sl) 8 (s32 sl.lastY)
      ∧ Holds (slotBytes sl) 12 (u8 sl.confirm) ∧ Holds (slotBytes sl) 13 (u8 sl.misses.length)
      ∧ Holds (slotBytes sl) 14 (u8 (missByte sl))
      ∧ Holds (slotBytes sl) 15 (relocationBytes sl.pendingRel)
      ∧ Holds (slotBytes sl) 25 (u16 (sl.toolId.getD 0))
      ∧ Holds (slotBytes sl) 27 (u16 (sl.bound.getD 0)) := by
  have size := relocationBytes_length sl.pendingRel
  simp [Holds, slotBytes, u8, u16, u32, s32, optionalId, size, List.drop_append, List.take_append]

/-- The parts of a pending relocation in a slot record. -/
theorem Holds.relocation {p : List Byte} {k : Nat} {r : Relocation}
    (h : Holds p k (relocationBytes (some r))) :
    Holds p k (s32 r.x) ∧ Holds p (k + 4) (s32 r.y) ∧ Holds p (k + 8) (u16 r.frame.toNat) := by
  have part {j n : Nat} (inside : j + n ≤ 10) :
      (p.drop (k + j)).take n = ((relocationBytes (some r)).drop j).take n := by
    rw [← h]
    simp only [relocationBytes_length, List.drop_take, List.drop_drop, List.take_take]
    congr 1
    omega
  refine ⟨?_, ?_, ?_⟩
  · exact (part (j := 0) (n := 4) (by omega)).trans rfl
  · exact (part (j := 4) (n := 4) (by omega)).trans rfl
  · exact (part (j := 8) (n := 2) (by omega)).trans rfl

theorem sheetOneField_eq (s : State) (n : Nat) :
    sheetOneField s n = if s.cfe.layout = .dual then n else 0 := rfl

theorem stagedByte_eq (g : Staged) : stagedByte g = g.scan.isSome.toNat + 2 * g.word.isSome.toNat
    + 4 * g.enable.isSome.toNat + 8 * (Channel.all.any g.releases.get).toNat := by
  have waiting : (!g.releases.members.isEmpty) = Channel.all.any g.releases.get := by
    simp [PerChannel.members, Channel.all, List.filter_cons]
    cases g.releases.get .c0 <;> cases g.releases.get .c1 <;> cases g.releases.get .c2
      <;> cases g.releases.get .c3 <;> rfl
  simp only [stagedByte, ofBits, waiting]
  omega

/-- The fields of the header. -/
theorem trackHeader_fields (s : State) :
    Holds (trackHeader s) 0 (u8 0) ∧ Holds (trackHeader s) 1 (u8 s.fts.scan.code)
      ∧ Holds (trackHeader s) 2 (u8 s.fts.stopReq.toNat)
      ∧ Holds (trackHeader s) 3 (u16 s.fts.frameNo.toNat)
      ∧ Holds (trackHeader s) 5 (u8 s.fts.lock.code)
      ∧ Holds (trackHeader s) 6 (u8 (channelByte s.ptr.enabled)) := by
  simp [Holds, trackHeader, u8, u16]

/-- The fields of the tail. -/
theorem trackTail_fields (s : State) :
    (∀ c : Channel, Holds (trackTail s) (2 * c.num) (u8 (s.bpl.cursor.get c).s0)
      ∧ Holds (trackTail s) (2 * c.num + 1) (u8 (sheetOneField s (s.bpl.cursor.get c).s1)))
    ∧ Holds (trackTail s) 8 (u8 s.bpl.rotation.s0.num)
    ∧ Holds (trackTail s) 9 (u8 (sheetOneField s s.bpl.rotation.s1.num))
    ∧ Holds (trackTail s) 10 (u8 s.bpl.budget)
    ∧ Holds (trackTail s) 11 (u8 (sheetOneField s s.bpl.budget))
    ∧ Holds (trackTail s) 12 (u8 s.bpl.plan.s0.length)
    ∧ Holds (trackTail s) 13 (u8 (sheetOneField s s.bpl.plan.s1.length))
    ∧ Holds (trackTail s) 14 (u8 (stagedByte s.bpl.staged))
    ∧ Holds (trackTail s) 15 (u8 (channelByte s.fmo.armed.tipMiss
        + 16 * channelByte s.fmo.armed.collarFlip))
    ∧ Holds (trackTail s) 16 (u8 (ofBits [s.fmo.armed.edgeDrop, s.fmo.armed.driverTrip])) := by
  refine ⟨fun c => ?_, ?_⟩
  · cases c <;> simp [Holds, trackTail, Channel.all, Channel.num, cursorBytes, u8]
  · simp [Holds, trackTail, Channel.all, cursorBytes, plannerBytes, armedBytes, u8]

/-! ### SET_FAULT_POLICY (R165) -/

theorem setFaultPolicyRule_words (mask halt : PerFault Bool) (s : State) :
    setFaultPolicyRule (u16 (faultWord mask) ++ u16 (faultWord halt)) s
      = accept (applyPolicy mask halt s) (u8 (applyPolicy mask halt s).fts.scan.code) := by
  have maskWord : u16At (u16 (faultWord mask) ++ u16 (faultWord halt)) 0 = faultWord mask :=
    u16At_u16 _ _ (by have := faultWord_lt mask; omega)
  have haltWord : u16At (u16 (faultWord mask) ++ u16 (faultWord halt)) 2 = faultWord halt :=
    half_value (by have := faultWord_lt halt; omega)
  simp [setFaultPolicyRule, maskWord, haltWord, faultSetOf_faultWord]

theorem evaluateHalt_halts {s : State} (held : s.fmo.halting = true) (h : s.fts.scan = .running) :
    evaluateHalt s = enterHalt s := by
  rw [evaluateHalt, haltIfHeld_of_held s held h, resumeIfEnded]
  simp [held]

theorem evaluateHalt_stays {s : State}
    (h : s.fmo.halting = true ∧ s.fts.scan ≠ .running ∨ s.fmo.halting = false ∧ s.fts.scan ≠ .halted) :
    evaluateHalt s = s := by
  rcases h with ⟨held, scan⟩ | ⟨clear, scan⟩
  · rw [evaluateHalt, haltIfHeld_of_scan s scan, resumeIfEnded]
    simp [held]
  · rw [evaluateHalt, haltIfHeld_of_not s clear, resumeIfEnded]
    simp [scan]

theorem evaluateHalt_resumes {s : State} (clear : s.fmo.halting = false) (h : s.fts.scan = .halted) :
    evaluateHalt s = s.setFts { s.fts with scan := .running } := by
  rw [evaluateHalt, haltIfHeld_of_not s clear, resumeIfEnded]
  simp [clear, h]

/-! ### INJECT (R167) -/

/-- The payload that names an injection, `b` where it has no channel. -/
def injectBytes (b : Byte) : Injection → List Byte
  | .tipMiss c => u8 0 ++ u8 c.num
  | .collarFlip c => u8 1 ++ u8 c.num
  | .edgeDrop => [2, b]
  | .driverTrip => [3, b]

theorem injectionOf_injectBytes (b : Byte) (i : Injection) :
    injectionOf (u8At (injectBytes b i) 0) (u8At (injectBytes b i) 1) = some i := by
  cases i with
  | tipMiss c => cases c <;> rfl
  | collarFlip c => cases c <;> rfl
  | edgeDrop => rfl
  | driverTrip => rfl

theorem Armed.arm_has (a : Armed) (i j : Injection) :
    (a.arm i).has j = (a.has j || decide (j = i)) := by
  cases i <;> cases j <;> simp [Armed.arm, Armed.has]
  case tipMiss.tipMiss c d => by_cases h : d = c <;> simp [h]
  case collarFlip.collarFlip c d => by_cases h : d = c <;> simp [h]

theorem injectRule_armed {p : List Byte} {s : State} {i : Injection}
    (named : injectionOf (u8At p 0) (u8At p 1) = some i) (armed : s.fmo.armed.has i = true) :
    injectRule p s = refuse .armed s := by
  simp [injectRule, named, armed]

theorem injectRule_arms {p : List Byte} {s : State} {i : Injection}
    (named : injectionOf (u8At p 0) (u8At p 1) = some i) (free : s.fmo.armed.has i = false) :
    injectRule p s = accept { s with fmo := { s.fmo with armed := s.fmo.armed.arm i } } [] := by
  simp [injectRule, named, free, State.setFmo]

end Sys2Proof.Machine

namespace Sys2Proof.Proofs
open Sys2Proof.Machine

/-- Settles O18: each field of the header, the four slot records and the tail at its offset. -/
theorem readTrackShowsTable : Obligations.ReadTrackShowsTable := by
  intro s c rest takes payload one staged armed
  obtain ⟨status, scan, stopReq, frameNo, lock, enabled⟩ := trackHeader_fields s
  obtain ⟨cursor, rotation0, rotation1, budget0, budget1, plan0, plan1, stagedSet, armed0, armed1⟩ :=
    trackTail_fields s
  have byte (n : Nat) : (u8 n).length = 1 := rfl
  have half (n : Nat) : (u16 n).length = 2 := rfl
  have word (n : Int) : (s32 n).length = 4 := rfl
  obtain ⟨p, reply⟩ : ∃ p, p = u8 0 ++ readTrackBody s := ⟨_, rfl⟩
  have inHeader {k : Nat} {l : List Byte} (h : Holds (trackHeader s) k l) (fits : k + l.length ≤ 7) :
      Holds p k l := reply ▸ readTrack_header h fits
  have inSlot {ch : Channel} {k : Nat} {l : List Byte} (h : Holds (slotBytes (s.slot ch)) k l)
      (fits : k + l.length ≤ 29) : Holds p (7 + 29 * ch.num + k) l := reply ▸ readTrack_slot h fits
  have inTail {k : Nat} {l : List Byte} (h : Holds (trackTail s) k l) : Holds p (123 + k) l :=
    reply ▸ readTrack_tail h
  refine ⟨p, ?reply, by rw [reply, readTrack_length], inHeader status (by simp [byte]),
    inHeader scan (by simp [byte]), inHeader stopReq (by simp [byte]),
    inHeader frameNo (by simp [half]), inHeader lock (by simp [byte]),
    inHeader enabled (by simp [byte]), fun ch => ?slot, fun ch => ?cursor,
    inTail rotation0, inTail rotation1, inTail budget0,
    inTail budget1, inTail plan0, inTail plan1, ?staged,
    inTail armed0, ?armed⟩
  case reply =>
    rw [reply]
    exact runCommand_accepts takes (by rw [payload]; rfl) (rule := readTrackRule)
      (t := taken rest s) (body := readTrackBody (taken rest s)) rfl
  case slot =>
    intro sl offset shows
    obtain ⟨state, flags, centreX, centreY, lastX, lastY, confirm, count, misses, relocation,
      toolId, bound⟩ := slotBytes_fields sl
    rw [slotFlagsByte_eq] at flags
    have relocated : shows 15 (relocationBytes sl.pendingRel) :=
      inSlot relocation (by simp [relocationBytes_length])
    refine ⟨inSlot state (by simp [byte]), inSlot flags (by simp [byte]),
      inSlot centreX (by simp [byte]), inSlot centreY (by simp [byte]),
      inSlot lastX (by simp [word]), inSlot lastY (by simp [word]),
      inSlot confirm (by simp [byte]), inSlot count (by simp [byte]),
      inSlot misses (by simp [byte]), fun absent => ?_, fun r held => ?_,
      inSlot toolId (by simp [half]), inSlot bound (by simp [half])⟩
    · rw [absent] at relocated
      exact relocated
    · rw [held] at relocated
      exact relocated.relocation
  case cursor =>
    obtain ⟨sheet0, sheet1⟩ := cursor ch
    have next : 123 + (2 * ch.num + 1) = 124 + 2 * ch.num := by omega
    exact ⟨inTail sheet0, next ▸ inTail sheet1⟩
  case staged =>
    rw [stagedByte_eq] at stagedSet
    exact inTail stagedSet
  case armed =>
    have bits : ofBits [s.fmo.armed.edgeDrop, s.fmo.armed.driverTrip]
        = armed.edgeDrop.toNat + 2 * armed.driverTrip.toNat := by
      simp [ofBits, armed]
    rw [bits] at armed1
    exact inTail armed1

/-- Settles O21, by whether a halting condition then holds and the scan state. -/
theorem setFaultPolicyActsAtOnce : Obligations.SetFaultPolicyActsAtOnce := by
  intro s c rest mask halt takes payload f t answers
  have byEvaluation {u : State} (h : evaluateHalt t = u) : answers u := by
    have result : applyPolicy mask halt (taken rest s) = u := h
    have ran := runCommand_accepts takes (by rw [payload]; rfl)
      (by rw [payload]; exact setFaultPolicyRule_words mask halt (taken rest s))
    rw [result] at ran
    exact ran
  exact ⟨fun held running => byEvaluation (evaluateHalt_halts held running),
    fun held scan => byEvaluation (evaluateHalt_stays (.inl ⟨held, scan⟩)),
    fun clear halted => byEvaluation (evaluateHalt_resumes clear halted),
    fun clear scan => byEvaluation (evaluateHalt_stays (.inr ⟨clear, scan⟩))⟩

/-- Settles O22. -/
theorem injectArms : Obligations.InjectArms := by
  intro s c rest i b takes payload
  have carried : c.payload = injectBytes b i := by rw [payload]; cases i <;> rfl
  have length : c.payload.length = CommandKind.length .inject := by rw [carried]; cases i <;> rfl
  have named : injectionOf (u8At c.payload 0) (u8At c.payload 1) = some i := by
    rw [carried, injectionOf_injectBytes]
  refine ⟨fun free => ⟨s.fmo.armed.arm i, ?_, s.fmo.armed.arm_has i⟩, fun armed => ?_⟩
  · exact runCommand_accepts takes length (injectRule_arms (s := taken rest s) named free)
  · exact runCommand_refuses takes length (injectRule_armed (s := taken rest s) named armed)

end Sys2Proof.Proofs
end

section
/-! PROOFS. The take-up of the staged items (O39), START (O13), the end of a proximity (O48) and
HALTED entry (O24). -/

namespace Sys2Proof.Machine

/-! ### A pass over the channels, each on its own slot, cursors and queue -/

theorem foldl_own_cursor {f : State → Channel → State} {g : Channel → Slot → Slot}
    {k : Channel → Slot → PerSheet Nat → PerSheet Nat}
    (slot : ∀ s c d, (f s c).slot d = if d = c then g c (s.slot c) else s.slot d)
    (cursor : ∀ s c d, (f s c).bpl.cursor.get d
      = if d = c then k c (s.slot c) (s.bpl.cursor.get c) else s.bpl.cursor.get d)
    (s : State) (d : Channel) : (Channel.all.foldl f s).bpl.cursor.get d
      = k d (s.slot d) (s.bpl.cursor.get d) := by
  cases d <;> simp [Channel.all, slot, cursor]

theorem foldl_own_rqu {f : State → Channel → State} {g : Channel → Slot → Slot}
    {h : Channel → Slot → Rqu → Rqu}
    (slot : ∀ s c d, (f s c).slot d = if d = c then g c (s.slot c) else s.slot d)
    (rqu : ∀ s c, (f s c).rqu = h c (s.slot c) s.rqu) (s : State) :
    (Channel.all.foldl f s).rqu = Channel.all.foldl (fun r c => h c (s.slot c) r) s.rqu := by
  simp [Channel.all, slot, rqu]

/-! ### The enable pass (R76) -/

/-- A slot's cursors after the comparison with the enable set. -/
def enabledCursor (on : Bool) (sl : Slot) (cur : PerSheet Nat) : PerSheet Nat :=
  if on = true ∧ sl.state = .idle then everySheet 0 else cur

/-- The queue after a slot's comparison with the enable set. -/
def enabledOut (c : Channel) (on : Bool) (sl : Slot) (r : Rqu) : Rqu :=
  if on = false ∧ sl.state.active = true ∧ sl.prox = true then r.handOut c else r

theorem enableSlot_cursor (set : PerChannel Bool) (s : State) (c d : Channel) :
    (enableSlot set s c).bpl.cursor.get d = if d = c then
      enabledCursor (set.get c) (s.slot c) (s.bpl.cursor.get c) else s.bpl.cursor.get d := by
  by_cases same : d = c
  · subst same
    cases state : (s.slot d).state <;> cases on : set.get d
      <;> simp [enableSlot, enabledCursor, state, on]
  · cases state : (s.slot c).state <;> cases on : set.get c
      <;> simp [enableSlot, state, on, same]

theorem enableSlot_rqu (set : PerChannel Bool) (s : State) (c : Channel) :
    (enableSlot set s c).rqu = enabledOut c (set.get c) (s.slot c) s.rqu := by
  cases state : (s.slot c).state <;> cases on : set.get c
    <;> simp [enableSlot, enabledOut, state, on, SlotState.active, endProximity_rqu]

theorem takeEnable_cursor (s : State) (c : Channel) : (takeEnable s).bpl.cursor.get c
    = match s.bpl.staged.enable with
      | none => s.bpl.cursor.get c
      | some set => enabledCursor (set.get c) (s.slot c) (s.bpl.cursor.get c) := by
  cases staged : s.bpl.staged.enable with
  | none => simp only [takeEnable, staged]
  | some set =>
    simp only [takeEnable, staged]
    exact foldl_own_cursor (k := fun c => enabledCursor (set.get c)) (enableSlot_own set)
      (enableSlot_cursor set) _ c

theorem takeEnable_rqu (s : State) : (takeEnable s).rqu
    = match s.bpl.staged.enable with
      | none => s.rqu
      | some set => Channel.all.foldl (fun r c => enabledOut c (set.get c) (s.slot c) r) s.rqu := by
  cases staged : s.bpl.staged.enable with
  | none => simp only [takeEnable, staged]
  | some set =>
    simp only [takeEnable, staged]
    exact foldl_own_rqu (h := fun c => enabledOut c (set.get c)) (enableSlot_own set)
      (enableSlot_rqu set) _

/-! ### The release pass (R75) -/

/-- The releases pass as a pass over all channels. -/
theorem takeReleases_all (s : State) : takeReleases s
    = Channel.all.foldl
        (fun t c => if s.bpl.staged.releases.get c then releaseSlot t c else t)
        (s.setBpl { s.bpl with staged := { s.bpl.staged with releases := everyChannel false } }) := by
  rw [takeReleases, PerChannel.members, List.foldl_filter]

/-- A slot after its staged release, if any. -/
def releasedSlot (on : Bool) (sl : Slot) : Slot :=
  if on = true ∧ sl.state.active = true then endedSlot .search sl else sl

section
variable (set : PerChannel Bool) (s : State) (c d : Channel)

theorem releaseIf_slot : (if set.get c then releaseSlot s c else s).slot d
    = if d = c then releasedSlot (set.get c) (s.slot c) else s.slot d := by
  by_cases same : d = c
  · subst same
    cases on : set.get d <;> simp [releasedSlot]
  · cases on : set.get c <;> simp [same]

theorem releaseIf_cursor : (if set.get c then releaseSlot s c else s).bpl.cursor.get d
    = if d = c then
        if set.get c = true ∧ (s.slot c).state = .search then everySheet 0 else s.bpl.cursor.get c
      else s.bpl.cursor.get d := by
  by_cases same : d = c
  · subst same
    cases on : set.get d <;> cases state : (s.slot d).state <;> simp [releaseSlot, state]
  · cases on : set.get c <;> cases state : (s.slot c).state <;> simp [releaseSlot, state, same]

theorem releaseIf_rqu : (if set.get c then releaseSlot s c else s).rqu
    = if set.get c = true ∧ (s.slot c).state.active = true ∧ (s.slot c).prox = true then
        s.rqu.handOut c else s.rqu := by
  cases on : set.get c <;> cases state : (s.slot c).state
    <;> simp [releaseSlot, state, SlotState.active, endProximity_rqu]

end

theorem takeReleases_slot (s : State) (c : Channel) : (takeReleases s).slot c
    = releasedSlot (s.bpl.staged.releases.get c) (s.slot c) := by
  rw [takeReleases_all]
  exact foldl_own_slot (g := fun c => releasedSlot (s.bpl.staged.releases.get c))
    (releaseIf_slot _) _ c

theorem takeReleases_cursor (s : State) (c : Channel) : (takeReleases s).bpl.cursor.get c
    = if s.bpl.staged.releases.get c = true ∧ (s.slot c).state = .search then everySheet 0
      else s.bpl.cursor.get c := by
  rw [takeReleases_all]
  exact foldl_own_cursor (g := fun c => releasedSlot (s.bpl.staged.releases.get c)) (k := fun c sl cur =>
    if s.bpl.staged.releases.get c = true ∧ sl.state = .search then everySheet 0 else cur)
    (releaseIf_slot _) (releaseIf_cursor _) _ c

theorem takeReleases_rqu (s : State) : (takeReleases s).rqu
    = Channel.all.foldl (fun r c =>
        if s.bpl.staged.releases.get c = true ∧ (s.slot c).state.active = true
          ∧ (s.slot c).prox = true then r.handOut c else r) s.rqu := by
  rw [takeReleases_all]
  exact foldl_own_rqu (g := fun c => releasedSlot (s.bpl.staged.releases.get c)) (h := fun c sl r =>
    if s.bpl.staged.releases.get c = true ∧ sl.state.active = true ∧ sl.prox = true then
      r.handOut c else r) (releaseIf_slot _) (releaseIf_rqu _) _

/-! ### The whole take-up (R51) -/

/-- The slot of `c` once the enable set is taken up. -/
def enabledSlotOf (s : State) (c : Channel) : Slot :=
  match s.bpl.staged.enable with
  | none => s.slot c
  | some set => enabledSlot (set.get c) (s.slot c)

/-- Settings taken up leave slots, cursors, queue and the other places. -/
theorem takeSettings_keeps (s : State) : (takeWord (takeScan s)).ptr = s.ptr
    ∧ (takeWord (takeScan s)).bpl.cursor = s.bpl.cursor ∧ (takeWord (takeScan s)).rqu = s.rqu
    ∧ (takeWord (takeScan s)).bpl.staged.enable = s.bpl.staged.enable
    ∧ (takeWord (takeScan s)).bpl.staged.releases = s.bpl.staged.releases := by
  refine ⟨by simp, by simp, by simp, ?_, ?_⟩
    <;> rw [(takeWord_takes _).2, (takeScan_takes _).2.1]

/-- The state once the enable set is taken up, as the releases find it. -/
theorem takeEnable_afterSettings (s : State) :
    let u := takeEnable (takeWord (takeScan s))
    (∀ c, u.slot c = enabledSlotOf s c)
    ∧ u.bpl.staged.releases = s.bpl.staged.releases
    ∧ (∀ c, u.bpl.cursor.get c = match s.bpl.staged.enable with
        | none => s.bpl.cursor.get c
        | some set => enabledCursor (set.get c) (s.slot c) (s.bpl.cursor.get c))
    ∧ u.rqu = match s.bpl.staged.enable with
        | none => s.rqu
        | some set => Channel.all.foldl (fun r c => enabledOut c (set.get c) (s.slot c) r) s.rqu := by
  obtain ⟨ptr, cursor, rqu, enable, releases⟩ := takeSettings_keeps s
  have slot (c : Channel) : (takeWord (takeScan s)).slot c = s.slot c := by rw [State.slot, ptr]; rfl
  refine ⟨fun c => ?_, ?_, fun c => ?_, ?_⟩
  · rw [takeEnable_slot, enable, slot]
    rfl
  · rw [(takeEnable_takes _).2, ← releases]
  · rw [takeEnable_cursor, enable, slot, cursor]
  · rw [takeEnable_rqu, enable, rqu]
    simp only [slot]

theorem takeUp_slot (s : State) (c : Channel) : (takeUp s).slot c
    = releasedSlot (s.bpl.staged.releases.get c) (enabledSlotOf s c) := by
  obtain ⟨slot, releases, -, -⟩ := takeEnable_afterSettings s
  rw [takeUp, takeReleases_slot, slot, releases]

theorem takeUp_cursor (s : State) (c : Channel) : (takeUp s).bpl.cursor.get c
    = if s.bpl.staged.releases.get c = true ∧ (enabledSlotOf s c).state = .search then everySheet 0
      else match s.bpl.staged.enable with
        | none => s.bpl.cursor.get c
        | some set => enabledCursor (set.get c) (s.slot c) (s.bpl.cursor.get c) := by
  obtain ⟨slot, releases, cursor, -⟩ := takeEnable_afterSettings s
  rw [takeUp, takeReleases_cursor, slot, releases, cursor]

theorem takeUp_rqu (s : State) : (takeUp s).rqu
    = Channel.all.foldl (fun r c =>
        if s.bpl.staged.releases.get c = true ∧ (enabledSlotOf s c).state.active = true
          ∧ (enabledSlotOf s c).prox = true then r.handOut c else r)
      (match s.bpl.staged.enable with
        | none => s.rqu
        | some set => Channel.all.foldl (fun r c => enabledOut c (set.get c) (s.slot c) r) s.rqu) := by
  obtain ⟨slot, releases, -, rqu⟩ := takeEnable_afterSettings s
  rw [takeUp, takeReleases_rqu, rqu]
  simp only [slot, releases]

theorem takeUp_cfe (s : State) : (takeUp s).cfe = { s.cfe with
    threshold := match s.bpl.staged.scan with
      | none => s.cfe.threshold
      | some r => ⟨thresholdOf r.detectMin s.cfe.floor.s0, thresholdOf r.detectMin s.cfe.floor.s1⟩ } := by
  have scan : (takeUp s).cfe = (takeScan s).cfe := by simp [takeUp]
  rw [scan]
  cases staged : s.bpl.staged.scan <;> simp [takeScan, staged, recomputeThresholds]

theorem takeUp_bpl (s : State) : (takeUp s).bpl = { s.bpl with
    active := s.bpl.staged.scan.getD s.bpl.active, cursor := (takeUp s).bpl.cursor
    staged := nothingStaged } := by
  obtain ⟨active, -, -, staged⟩ := takeUp_takes s
  calc (takeUp s).bpl
      = ⟨(takeUp s).bpl.active, (takeUp s).bpl.staged, (takeUp s).bpl.plan, (takeUp s).bpl.budget,
          (takeUp s).bpl.cursor, (takeUp s).bpl.rotation⟩ := rfl
    _ = _ := by rw [active, staged, takeUp_bpl_plan, takeUp_bpl_budget, takeUp_bpl_rotation]

theorem takeUp_frame (s : State) : takeUp s = { s with
    cfe := (takeUp s).cfe, bpl := (takeUp s).bpl, ptr := (takeUp s).ptr, wdc := (takeUp s).wdc
    rqu := (takeUp s).rqu } := by
  apply State.ext_blocks <;> simp

theorem active_iff (sl : Slot) : sl.state.active = true ↔ sl.state = .confirm ∨ sl.state = .track := by
  cases sl.state <;> simp [SlotState.active]

/-- The OUTs of the enable pass, in the words of R76. -/
theorem enablePass_outs (enable : Option (PerChannel Bool)) (slot : Channel → Slot) (r : Rqu) :
    (match enable with
      | none => r
      | some set => Channel.all.foldl (fun r c => enabledOut c (set.get c) (slot c) r) r)
    = Channel.all.foldl (fun r c =>
        if (enable.any (!·.get c)) = true ∧ ((slot c).state = .confirm ∨ (slot c).state = .track)
          ∧ (slot c).prox = true then r.handOut c else r) r := by
  cases enable with
  | none => simp [Channel.all]
  | some set => simp [enabledOut, active_iff]

/-- What the enable set makes of a slot, in the words of R76. -/
theorem enabledSlotOf_eq (s : State) (c : Channel) : enabledSlotOf s c
    = if (s.bpl.staged.enable.any (·.get c)) = true ∧ (s.slot c).state = .idle then
        { s.slot c with state := .search }
      else if (s.bpl.staged.enable.any (!·.get c)) = true then
        if (s.slot c).state = .confirm ∨ (s.slot c).state = .track then endedSlot .idle (s.slot c)
        else { s.slot c with state := .idle }
      else s.slot c := by
  unfold enabledSlotOf
  cases s.bpl.staged.enable with
  | none => simp
  | some set =>
    cases on : set.get c <;> cases state : (s.slot c).state <;> simp [enabledSlot, state, on]
    all_goals rw [← state]

end Sys2Proof.Machine

namespace Sys2Proof.Proofs
open Sys2Proof.Machine

/-- Settles O39: the enable pass and the release pass, each channel on its own slot, cursors and place
in the queue. -/
theorem takeUpMovesSlots : Obligations.TakeUpMovesSlots := by
  intro s t g ended pen enters disabled then' released
  have thenSlot (c : Channel) : enabledSlotOf s c = then' c := enabledSlotOf_eq s c
  obtain ⟨active, word, enable, staged⟩ := takeUp_takes s
  refine ⟨fun c => ?slot, fun c => ?cursor, ?rqu, enable, takeUp_ptr_records s, word, takeUp_cfe s,
    takeUp_bpl s, takeUp_frame s⟩
  case slot =>
    change (takeUp s).slot c = _
    rw [takeUp_slot, thenSlot]
    simp only [releasedSlot, active_iff]
    rfl
  case cursor =>
    change (takeUp s).bpl.cursor.get c = _
    rw [takeUp_cursor, thenSlot]
    by_cases restarts : released c ∧ (then' c).state = .search
    · rw [if_pos restarts, if_pos (.inr restarts)]
      rfl
    · rw [if_neg restarts]
      have only : (enters c ∨ released c ∧ (then' c).state = .search) ↔ enters c := by
        simp [restarts]
      simp only [only, enters, g]
      cases s.bpl.staged.enable with
      | none => simp
      | some set => simp [enabledCursor, everySheet]
  case rqu =>
    change (takeUp s).rqu = _
    rw [takeUp_rqu, enablePass_outs]
    simp only [thenSlot, active_iff]
    rfl

end Sys2Proof.Proofs
end

section
/-! PROOFS. START (O13), the end of a proximity (O48) and HALTED entry (O24). -/

namespace Sys2Proof.Machine

/-! ### What a frame opened in RUNNING leaves as the take-up left it -/

/-- What follows the take-up at a frame open moves the plans, the rotation and the engines alone. -/
structure OpensOn (u t : State) : Prop where
  pins : t.pins = u.pins
  fts : t.fts = u.fts
  ptr : t.ptr = u.ptr
  wdc : t.wdc = u.wdc
  ptb : t.ptb = u.ptb
  rqu : t.rqu = u.rqu
  fmo : t.fmo = u.fmo
  lnk : t.lnk = u.lnk
  cpr : t.cpr = u.cpr
  free : t.free = u.free
  pending : t.pending = u.pending
  layout : t.cfe.layout = u.cfe.layout
  fixed : t.cfe.fixed = u.cfe.fixed
  panel : t.cfe.panel = u.cfe.panel
  floor : t.cfe.floor = u.cfe.floor
  threshold : t.cfe.threshold = u.cfe.threshold
  active : t.bpl.active = u.bpl.active
  staged : t.bpl.staged = u.bpl.staged
  cursor : t.bpl.cursor = u.bpl.cursor

theorem openFrame_opensOn (v : State) (h : v.fts.scan = .running) :
    OpensOn (openedFrame v) (openFrame v) := by
  have opened := openFrame_running v h
  change _ = v.cfe.layout.sheets.foldl beginEntry ((buildPlans (openedFrame v)).setCfe
    { (buildPlans (openedFrame v)).cfe with engine := everySheet idleEngine }) at opened
  rw [opened]
  constructor <;> simp

/-- What the take-up of a frame open leaves as it was. -/
theorem openedFrame_keeps (v : State) : (openedFrame v).pins = v.pins
    ∧ (openedFrame v).fts = { v.fts with
        frameNo := v.fts.frameNo + 1, frame := .planned, age := 0 }
    ∧ (openedFrame v).ptb = v.ptb ∧ (openedFrame v).fmo = v.fmo ∧ (openedFrame v).lnk = v.lnk
    ∧ (openedFrame v).cpr = v.cpr ∧ (openedFrame v).cfe.layout = v.cfe.layout
    ∧ (openedFrame v).cfe.fixed = v.cfe.fixed ∧ (openedFrame v).cfe.panel = v.cfe.panel
    ∧ (openedFrame v).cfe.floor = v.cfe.floor ∧ (openedFrame v).ptr.records = v.ptr.records := by
  simp [openedFrame]

theorem enabledSlot_quiet {sl : Slot} (h : sl.state.active = false) (on : Bool) :
    enabledSlot on sl = { sl with state := if on then .search else .idle } := by
  cases state : sl.state <;> cases on <;> simp_all [enabledSlot, SlotState.active]
  all_goals rw [← state]

/-- Where no slot holds a pen, the take-up enables and disables slots and hands nothing (R76). -/
theorem takeUp_quiet {s : State} (h : ∀ c, (s.slot c).state.active = false) :
    (takeUp s).rqu = s.rqu ∧ ∀ c, (takeUp s).slot c = match s.bpl.staged.enable with
      | none => s.slot c
      | some set => { s.slot c with state := if set.get c then .search else .idle } := by
  have slot (c : Channel) : enabledSlotOf s c = match s.bpl.staged.enable with
      | none => s.slot c
      | some set => { s.slot c with state := if set.get c then .search else .idle } := by
    unfold enabledSlotOf
    cases s.bpl.staged.enable with
    | none => rfl
    | some set => exact enabledSlot_quiet (h c) _
  have quiet (c : Channel) : (enabledSlotOf s c).state.active = false := by
    rw [slot]
    cases s.bpl.staged.enable with
    | none => exact h c
    | some set => cases on : set.get c <;> simp [on, SlotState.active]
  refine ⟨?_, fun c => ?_⟩
  · rw [takeUp_rqu]
    cases s.bpl.staged.enable <;> simp [Channel.all, quiet, enabledOut, h]
  · rw [takeUp_slot, releasedSlot, quiet c, slot]
    simp

/-! ### START's rule (R35) -/

/-- The state on which the first frame of a START opens. -/
def startedState (scan : ScanState) (s : State) : State :=
  { s with
    cfe := { s.cfe with fixed := true }
    fts := { reloaded s.fts with scan := scan } }

theorem applyStart_stopped {s : State} (h : s.fts.scan = .stopped) :
    applyStart s
      = openFrame (startedState (if s.fmo.halting then .halted else .running) s) := by
  simp [applyStart, h, startScanning, startedState, reloadTimer, State.setFts, State.setCfe]

theorem applyStart_running {s : State} (h : s.fts.scan = .running) :
    applyStart s = { s with fts := { s.fts with stopReq := false } } := by
  simp [applyStart, h, State.setFts]

theorem applyStart_halted {s : State} (h : s.fts.scan = .halted) : applyStart s = s := by
  simp [applyStart, h]

theorem openFrame_halted {s : State} (h : s.fts.scan = .halted) :
    openFrame s = { s with fts := { s.fts with frame := .planless, age := 0 } } := by
  simp [openFrame, h, State.setFts]

theorem startRule_answers {p : List Byte} {s t : State} (h : applyStart s = t) :
    startRule p s = accept t (u8 t.fts.scan.code) := by
  rw [startRule, h]

/-! ### HALTED entry (R9, R38, R78) -/

theorem enterHalt_rqu (s : State) : (enterHalt s).rqu = Channel.all.foldl (fun r c =>
    if (s.slot c).state.active = true ∧ (s.slot c).prox = true then r.handOut c else r) s.rqu := by
  have cleared : (enterHalt s).rqu = (clearSlots (discardFrame s)).rqu := by
    unfold enterHalt
    split <;> rfl
  rw [cleared, clearSlots_rqu]
  rfl

theorem enterHalt_cfe (s : State) :
    (enterHalt s).cfe = { s.cfe with engine := everySheet idleEngine } := by
  unfold enterHalt
  split <;> simp [stopScanning, discardFrame]

theorem enterHalt_bpl (s : State) :
    (enterHalt s).bpl = { s.bpl with plan := everySheet [], budget := 0 } := by
  unfold enterHalt
  split <;> simp [stopScanning, discardFrame]

theorem enterHalt_frame (s : State) : enterHalt s = { s with
    cfe := (enterHalt s).cfe, bpl := (enterHalt s).bpl, ptr := (enterHalt s).ptr
    rqu := (enterHalt s).rqu, fts := (enterHalt s).fts } := by
  apply State.ext_blocks <;> simp

/-! ### The end of a proximity (R71) -/

theorem endProximity_frame (c : Channel) (st : SlotState) (s : State) :
    SlotsAndQueueMoved s (endProximity c st s) := by
  unfold endProximity SlotsAndQueueMoved
  dsimp only
  split <;> rfl

end Sys2Proof.Machine

namespace Sys2Proof.Proofs
open Sys2Proof.Machine

/-- Settles O13, by the scan state and the halting condition. -/
theorem startOpensFirstFrame : Obligations.StartOpensFirstFrame := by
  intro s c rest takes payload
  have ran {t : State} (h : applyStart (taken rest s) = t) : exec .start s
      = .next (arbitrate (replied (okReply .start c.tag (u8 t.fts.scan.code)) t)) :=
    runCommand_accepts takes (by rw [payload]; rfl) (startRule_answers h)
  refine ⟨fun stopped clear => ?first, fun stopped held => ?halted, fun running => ?cancel,
    fun halted => ?stays⟩
  case first =>
    let v := startedState .running (taken rest s)
    have opens := openFrame_opensOn v rfl
    obtain ⟨pins, fts, ptb, fmo, lnk, cpr, layout, fixed, panel, floor, records⟩ := openedFrame_keeps v
    have frame : FrameOpened v (openFrame v) := frameOpened v rfl
    obtain ⟨active, word, enable, staged⟩ := takeUp_takes { v with fts := { v.fts with
      frameNo := v.fts.frameNo + 1, frame := .planned, age := 0 } }
    have starts : applyStart (taken rest s) = openFrame v := by
      rw [applyStart_stopped (s := taken rest s) stopped, if_neg]
      exact Bool.eq_false_iff.1 clear
    have reply := ran starts
    have scan : (openFrame v).fts.scan = .running := by rw [opens.fts, fts]; rfl
    rw [scan] at reply
    refine ⟨openFrame v, reply, opens.fts.trans fts, opens.fixed.trans fixed,
      opens.layout.trans layout, opens.panel.trans panel, opens.floor.trans floor, fun sh => ?_,
      opens.staged.trans staged, opens.active.trans active, opens.wdc.trans word,
      (congrArg Ptr.enabled opens.ptr).trans enable, (congrArg Ptr.records opens.ptr).trans records,
      frame.budget, fun quiet => ?_, opens.pins.trans pins, opens.ptb.trans ptb,
      opens.fmo.trans fmo, opens.cpr.trans cpr, opens.lnk.trans lnk, rfl, frame⟩
    · rw [opens.threshold]
      exact takeUp_threshold _ sh
    · obtain ⟨rqu, slot⟩ := takeUp_quiet (s := { v with fts := { v.fts with
        frameNo := v.fts.frameNo + 1, frame := .planned, age := 0 } }) quiet
      refine ⟨opens.rqu.trans rqu, fun d => ?_⟩
      have moved : (openFrame v).slot d = (openedFrame v).slot d := by
        rw [State.slot, opens.ptr]
        rfl
      exact moved.trans (slot d)
  case halted =>
    have starts : applyStart (taken rest s) = openFrame (startedState .halted (taken rest s)) := by
      rw [applyStart_stopped (s := taken rest s) stopped, if_pos]
      exact held
    rw [openFrame_halted rfl] at starts
    exact ran starts
  case cancel =>
    have reply := ran (applyStart_running (s := taken rest s) running)
    have scan : (taken rest s).fts.scan = .running := running
    rw [scan] at reply
    exact reply
  case stays =>
    have reply := ran (applyStart_halted (s := taken rest s) halted)
    have scan : (taken rest s).fts.scan = .halted := halted
    rw [scan] at reply
    exact reply

/-- Settles O24. -/
theorem haltEntryClears : Obligations.HaltEntryClears := by
  intro s t
  obtain ⟨-, -, -, records⟩ := enterHalt_discards s
  exact ⟨enterHalt_cfe s, enterHalt_bpl s, records, enterHalt_ptr_enabled s, enterHalt_slot s,
    enterHalt_rqu s, enterHalt_fts s, enterHalt_frame s⟩

/-- Settles O48. -/
theorem proximityEnds : Obligations.ProximityEnds := by
  intro c st s t
  refine ⟨?_, fun d other => ?_, endProximity_rqu c st s, endProximity_frame c st s⟩
  · exact (endProximity_slot c c st s).trans (if_pos rfl)
  · exact (endProximity_slot c d st s).trans (if_neg other)

end Sys2Proof.Proofs
end

section
/-! PROOFS. The plan of a sheet: its search positions (O37) and its fixed entries (O38). -/

namespace Sys2Proof.Machine

/-! ### The bands a channel's search positions name (R45) -/

/-- The bands of a channel's SEARCH entries, in the order of the list. -/
def bandsIn (c : Channel) (l : List PlanEntry) : List Nat := l.filterMap fun e => match e.burst with
  | .search d b => if d = c then some b else none
  | _ => none

@[simp] theorem bandsIn_nil (c : Channel) : bandsIn c [] = [] := rfl

theorem bandsIn_search_same (c : Channel) (b : Nat) (l : List PlanEntry) :
    bandsIn c (plannedEntry (.search c b) :: l) = b :: bandsIn c l := by
  simp [bandsIn, plannedEntry]

theorem bandsIn_search_other {c d : Channel} (h : d ≠ c) (b : Nat) (l : List PlanEntry) :
    bandsIn c (plannedEntry (.search d b) :: l) = bandsIn c l := by
  simp [bandsIn, plannedEntry, h]

theorem fillSearch_none {set : PerChannel Bool} {p : Channel} (h : nextSearch set p = none)
    (cursor : Channel → Nat) (bands n : Nat) (used : PerChannel Nat) :
    fillSearch set cursor bands n p used = ([], p) := by
  cases n with
  | zero => rfl
  | succ n => simp [fillSearch, h]

theorem fillSearch_some {set : PerChannel Bool} {p c : Channel} (h : nextSearch set p = some c)
    (cursor : Channel → Nat) (bands n : Nat) (used : PerChannel Nat) :
    (fillSearch set cursor bands (n + 1) p used).1
      = plannedEntry (.search c ((cursor c + used.get c) % bands))
        :: (fillSearch set cursor bands n c (used.set c (used.get c + 1))).1 := by
  simp [fillSearch, h]

/-- The k-th search position of a channel names the band `k` after its first. -/
theorem fillSearch_bands (set : PerChannel Bool) (cursor : Channel → Nat) (bands n : Nat)
    (p : Channel) (used : PerChannel Nat) (c : Channel) :
    let mine := bandsIn c (fillSearch set cursor bands n p used).1
    mine = (List.range mine.length).map fun k => (cursor c + (used.get c + k)) % bands := by
  induction n generalizing p used with
  | zero => simp [fillSearch]
  | succ n ih =>
    cases next : nextSearch set p with
    | none => simp [fillSearch_none next]
    | some d =>
      rw [fillSearch_some next]
      have rest := ih d (used.set d (used.get d + 1))
      by_cases same : d = c
      · subst same
        rw [bandsIn_search_same]
        simp only [PerChannel.get_set, if_true] at rest
        simp only [List.length_cons, List.range_succ_eq_map, List.map_cons, List.map_map, Nat.add_zero]
        conv_lhs => rw [rest]
        simp [Function.comp_def, Nat.add_assoc, Nat.add_comm, Nat.add_left_comm]
      · rw [bandsIn_search_other same]
        simpa [PerChannel.get_set, Ne.symm same] using rest

/-! ### The search positions are given out evenly (R44) -/

theorem ahead_step {p e c d : Channel} (first : ahead p e ≤ ahead p c) (order : ahead p c < ahead p d)
    (other : c ≠ e) : ahead e c < ahead e d := by
  revert first order other
  cases p <;> cases e <;> cases c <;> cases d <;> decide

theorem ahead_self (c d : Channel) (h : d ≠ c) : ahead c d < ahead c c := by
  revert h
  cases c <;> cases d <;> decide

theorem ahead_inj {p c d : Channel} (h : c ≠ d) : ahead p c < ahead p d ∨ ahead p d < ahead p c := by
  revert h
  cases p <;> cases c <;> cases d <;> decide

/-- Of two channels in SEARCH the one that comes first has as many positions as the other, or one
more. -/
theorem fillSearch_even (set : PerChannel Bool) (cursor : Channel → Nat) (bands n : Nat)
    (p : Channel) (used : PerChannel Nat) {c d : Channel} (hc : set.get c = true)
    (hd : set.get d = true) (order : ahead p c < ahead p d) :
    let count := fun a => (bandsIn a (fillSearch set cursor bands n p used).1).length
    count d ≤ count c ∧ count c ≤ count d + 1 := by
  induction n generalizing p used c d with
  | zero => simp [fillSearch]
  | succ n ih =>
    cases next : nextSearch set p with
    | none => simp [fillSearch_none next]
    | some e =>
      obtain ⟨-, before⟩ := nextSearch_some next
      have notBefore {a : Channel} (ha : set.get a = true) : ahead p e ≤ ahead p a :=
        Nat.not_lt.1 fun less => before a less ha
      have different : c ≠ d := by rintro rfl; exact Nat.lt_irrefl _ order
      have dNotNext : e ≠ d := by
        rintro rfl
        exact absurd (notBefore hc) (Nat.not_le.2 order)
      rw [fillSearch_some next]
      simp only [bandsIn_search_other dNotNext]
      by_cases same : e = c
      · subst same
        have rest := ih e (used.set e (used.get e + 1)) hd hc (ahead_self e d different.symm)
        rw [bandsIn_search_same]
        simp only [List.length_cons] at rest ⊢
        omega
      · rw [bandsIn_search_other same]
        exact ih e _ hc hd (ahead_step (notBefore hc) order (Ne.symm same))

theorem nextSearch_of_mem {set : PerChannel Bool} {c : Channel} (h : set.get c = true) (p : Channel) :
    ∃ d, nextSearch set p = some d := by
  rw [← Option.isSome_iff_exists, nextSearch, List.find?_isSome]
  exact ⟨c, by cases p <;> cases c <;> simp [Channel.succ], h⟩

/-- With a channel in SEARCH every position is given out. -/
theorem fillSearch_full {set : PerChannel Bool} {c : Channel} (h : set.get c = true)
    (cursor : Channel → Nat) (bands n : Nat) (p : Channel) (used : PerChannel Nat) :
    (fillSearch set cursor bands n p used).1.length = n := by
  induction n generalizing p used with
  | zero => rfl
  | succ n ih =>
    obtain ⟨d, next⟩ := nextSearch_of_mem h p
    rw [fillSearch_some next, List.length_cons, ih]

/-- A search position is of a channel in SEARCH and names a band by its number. -/
theorem fillSearch_mem {set : PerChannel Bool} {cursor : Channel → Nat} {bands n : Nat} {p : Channel}
    {used : PerChannel Nat} {e : PlanEntry} (h : e ∈ (fillSearch set cursor bands n p used).1) :
    ∃ c b, e = ⟨.search c (b % bands), .planned⟩ ∧ set.get c = true := by
  induction n generalizing p used with
  | zero => simp [fillSearch] at h
  | succ n ih =>
    cases next : nextSearch set p with
    | none => simp [fillSearch_none next] at h
    | some c =>
      rw [fillSearch_some next] at h
      obtain rfl | mem := List.mem_cons.1 h
      · exact ⟨c, _, rfl, (nextSearch_some next).1⟩
      · exact ih mem

theorem bandsIn_of_not_searching {set : PerChannel Bool} {c : Channel} (h : ¬ set.get c = true)
    (cursor : Channel → Nat) (bands n : Nat) (p : Channel) (used : PerChannel Nat) :
    bandsIn c (fillSearch set cursor bands n p used).1 = [] := by
  refine List.filterMap_eq_nil_iff.2 fun e mem => ?_
  obtain ⟨d, b, rfl, searching⟩ := fillSearch_mem mem
  exact if_neg fun (same : d = c) => h (same ▸ searching)

/-! ### The fixed entries (R42, R43) -/

theorem searchSet_get (slots : PerChannel Slot) (c : Channel) :
    (searchSet slots).get c = true ↔ (slots.get c).state = .search := by
  cases c <;> simp [searchSet, PerChannel.map, PerChannel.get]

/-- A fixed entry is PLANNED and is no SEARCH. -/
theorem fixedEntries_mem {layout : Layout} {p : Panel} {slots : PerChannel Slot} {sh : Sheet}
    {e : PlanEntry} (h : e ∈ fixedEntries layout p slots sh) :
    e.run = .planned ∧ ∀ c b, e.burst ≠ .search c b := by
  rw [fixedEntries, List.mem_cons, List.mem_flatMap] at h
  obtain rfl | ⟨c, -, mem⟩ := h
  · exact ⟨rfl, nofun⟩
  · unfold windowEntries at mem
    dsimp only at mem
    split at mem
    · simp only [List.mem_cons, List.not_mem_nil, or_false] at mem
      obtain rfl | rfl := mem
      · exact ⟨rfl, nofun⟩
      · exact ⟨rfl, nofun⟩
    · simp at mem

/-- A plan is made of PLANNED entries (R41). -/
theorem sheetPlan_planned {layout : Layout} {p : Panel} {slots : PerChannel Slot}
    {cursor : PerChannel (PerSheet Nat)} {budget : Nat} {rotation : Channel} {sh : Sheet}
    {e : PlanEntry} (h : e ∈ (sheetPlan layout p slots cursor budget rotation sh).1) :
    e.run = .planned := by
  rcases List.mem_append.1 h with mem | mem
  · exact (fixedEntries_mem mem).1
  · obtain ⟨c, b, rfl, -⟩ := fillSearch_mem mem
    rfl

theorem bandsIn_fixed (layout : Layout) (p : Panel) (slots : PerChannel Slot) (sh : Sheet)
    (c : Channel) (l : List PlanEntry) :
    bandsIn c (fixedEntries layout p slots sh ++ l) = bandsIn c l := by
  have none : bandsIn c (fixedEntries layout p slots sh) = [] := by
    refine List.filterMap_eq_nil_iff.2 fun e mem => ?_
    obtain ⟨-, notSearch⟩ := fixedEntries_mem mem
    split
    · next d b burst => exact absurd burst (notSearch d b)
    · rfl
  rw [bandsIn, List.filterMap_append]
  exact (congrArg (· ++ _) none).trans (List.nil_append _)

theorem turnsOf_fixed (layout : Layout) (p : Panel) (slots : PerChannel Slot) (sh : Sheet)
    (l : List PlanEntry) : turnsOf (fixedEntries layout p slots sh ++ l) = turnsOf l := by
  have none : turnsOf (fixedEntries layout p slots sh) = [] := by
    refine List.filterMap_eq_nil_iff.2 fun e mem => ?_
    obtain ⟨-, notSearch⟩ := fixedEntries_mem mem
    split
    · next d b burst => exact absurd burst (notSearch d b)
    · rfl
  rw [turnsOf, List.filterMap_append]
  exact (congrArg (· ++ _) none).trans (List.nil_append _)

/-- The window's first coil, with the centre's distance of four kept within the panel (R12). -/
theorem windowFirst_eq (centre n : Nat) :
    windowFirst centre n = (max 0 (min ((centre : Int) - 4) ((n : Int) - 9))).toNat := by
  unfold windowFirst
  omega

theorem totalX_eq (layout : Layout) (p : Panel) :
    totalX layout p = p.n0 + if layout = .dual then p.n1 else 0 := by
  cases layout <;> simp [totalX]

/-- The sheets a window belongs to, by its coils (R15). -/
theorem mem_windowSheets (layout : Layout) (p : Panel) (wx : Nat) (sh : Sheet)
    (exists_ : sh = .s1 → layout = .dual) : sh ∈ windowSheets layout p wx
      ↔ (layout = .dual → if sh = .s0 then wx < p.n0 else p.n0 ≤ wx + 8) := by
  cases layout with
  | single =>
    cases sh with
    | s0 => simp [windowSheets]
    | s1 => exact absurd (exists_ rfl) nofun
  | dual =>
    unfold windowSheets
    dsimp only
    split
    · cases sh <;> simp <;> omega
    · split
      · cases sh <;> simp <;> omega
      · cases sh <;> simp <;> omega

/-- A window straddles where it has coils of both sheets (R15). -/
theorem windowSheets_two (layout : Layout) (p : Panel) (wx : Nat) :
    ((windowSheets layout p wx).length == 2)
      = decide (layout = .dual ∧ wx < p.n0 ∧ p.n0 ≤ wx + 8) := by
  cases layout with
  | single => simp [windowSheets]
  | dual =>
    unfold windowSheets
    dsimp only
    split
    · simp; omega
    · split
      · simp; omega
      · simp; omega

/-- A band of a sheet begins on the sheet (R16). -/
theorem band_begins {p : Panel} {sh : Sheet} (h : 0 < p.xCount sh) (b : Nat) :
    16 * (b % p.bands sh) < p.xCount sh := by
  have inRange : b % p.bands sh < p.bands sh := Nat.mod_lt _ (by unfold Panel.bands; omega)
  unfold Panel.bands at inRange ⊢
  omega

theorem modify_head_burst (l : List PlanEntry) (run : RunState) :
    (l.modify 0 fun e => { e with run := run }).map (·.burst) = l.map (·.burst) := by
  cases l <;> rfl

end Sys2Proof.Machine

namespace Sys2Proof.Proofs
open Sys2Proof.Machine

/-- Settles O37: the search positions fill the budget the fixed entries leave, in rotation. -/
theorem planFillsBudget : Obligations.PlanFillsBudget := by
  intro layout p slots cursor budget rotation sh enough built plan searching turns bandsOf ahead'
  let set := searchSet slots
  let cur := fun c => sheetGet (cursor.get c) sh
  let fixed := fixedEntries layout p slots sh
  let fill := fillSearch set cur (p.bands sh) (budget - fixed.length) rotation (everyChannel 0)
  have size : fixed.length ≤ 9 := fixedEntries_length layout p slots sh
  have searches (c : Channel) : searching c ↔ set.get c = true := (searchSet_get slots c).symm
  have turnsEq : turns = turnsOf fill.1 := turnsOf_fixed layout p slots sh fill.1
  have bandsEq (c : Channel) : bandsOf c = bandsIn c fill.1 := bandsIn_fixed layout p slots sh c fill.1
  obtain ⟨rotates, pointer⟩ := fillSearch_turns set cur (p.bands sh) (budget - fixed.length) rotation
    (everyChannel 0)
  refine ⟨fun k a b first second => ?_, ?_, fun c d hc hd => ?_, fun c notSearching => ?_, fun c => ?_,
    rfl, sheetPlan_length _ _ _ _ _ _ _ (by omega), ?_, fun e mem => ?_⟩
  · rw [turnsEq] at first second
    obtain ⟨searched, before⟩ := rotates k a b first second
    exact ⟨(searches b).2 searched, fun d less => fun found => before d less ((searches d).1 found)⟩
  · rw [turnsEq]
    exact pointer
  · rw [bandsEq, bandsEq]
    by_cases same : c = d
    · subst same
      omega
    · rcases ahead_inj (p := rotation) same with order | order
      · exact (fillSearch_even set cur _ _ rotation _ ((searches c).1 hc) ((searches d).1 hd) order).2
      · have := (fillSearch_even set cur (p.bands sh) (budget - fixed.length) rotation (everyChannel 0)
          ((searches d).1 hd) ((searches c).1 hc) order).1
        exact Nat.le_succ_of_le this
  · rw [bandsEq]
    exact bandsIn_of_not_searching (fun found => notSearching ((searches c).2 found)) ..
  · have given := fillSearch_bands set cur (p.bands sh) (budget - fixed.length) rotation
      (everyChannel 0) c
    rw [bandsEq]
    simp only [everyChannel_get, Nat.zero_add] at given
    exact given
  · rintro ⟨c, found⟩
    have full : fill.1.length = budget - fixed.length := fillSearch_full ((searches c).1 found) ..
    have whole : plan.length = fixed.length + fill.1.length := List.length_append
    omega
  · exact sheetPlan_planned mem

/-- Settles O38: the windows of R12 and R15, then the plans of `frameOpened`. -/
theorem fixedEntriesPlanned : Obligations.FixedEntriesPlanned := by
  refine ⟨?plan, ?opened⟩
  case plan =>
    intro layout p slots cursor budget rotation sh exists_ n low wx wy belongs straddles tracked
    refine ⟨(fillSearch (searchSet slots) (fun c => sheetGet (cursor.get c) sh) (p.bands sh)
      (budget - (fixedEntries layout p slots sh).length) rotation (everyChannel 0)).1, ?_,
      fun e mem => ?_⟩
    · have entries (c : Channel) : windowEntries layout p sh c (slots.get c)
          = if tracked c ∧ belongs c then
              [⟨.tip c (wx c) (wy c) (straddles c), .planned⟩,
                ⟨.collar c (wx c) (wy c) (straddles c), .planned⟩]
            else [] := by
        have first : windowFirst (slots.get c).centreX (totalX layout p) = wx c := by
          rw [windowFirst_eq, totalX_eq]
        have firstY : windowFirst (slots.get c).centreY p.yCount = wy c := windowFirst_eq _ _
        have guard : ((slots.get c).state.active && decide (sh ∈ windowSheets layout p (wx c))) = true
            ↔ tracked c ∧ belongs c := by
          rw [Bool.and_eq_true, active_iff, decide_eq_true_eq, mem_windowSheets _ _ _ _ exists_]
        unfold windowEntries
        dsimp only
        rw [first, firstY, windowSheets_two]
        by_cases h : tracked c ∧ belongs c
        · rw [if_pos (guard.2 h), if_pos h]
          rfl
        · rw [if_neg fun found => h (guard.1 found), if_neg h]
      simp only [sheetPlan, fixedEntries, entries]
      rfl
    · obtain ⟨c, b, rfl, searching⟩ := fillSearch_mem mem
      exact ⟨c, b % p.bands sh, rfl, (searchSet_get slots c).1 searching, fun some => band_begins some b⟩
  case opened =>
    intro s running u t planned
    have opened : FrameOpened s t := frameOpened s running
    have ⟨layout, panel, rotates⟩ : u.cfe.layout = s.cfe.layout ∧ u.cfe.panel = s.cfe.panel
        ∧ u.bpl.rotation = s.bpl.rotation := by simp [u]
    have planOf (sh : Sheet) (exists_ : sh = .s1 → s.cfe.layout = .dual) :
        (sheetGet t.bpl.plan sh).map (·.burst) = (planned sh).1.map (·.burst)
          ∧ sheetGet t.bpl.rotation sh = (planned sh).2 := by
      obtain ⟨plan, rotation, -⟩ := opened.sheets sh exists_
      have same : planned sh = sheetPlan s.cfe.layout s.cfe.panel (openedFrame s).ptr.slots
          (openedFrame s).bpl.cursor t.bpl.budget (sheetGet s.bpl.rotation sh) sh := by
        simp only [planned]
        rw [layout, panel, rotates, opened.budget]
        rfl
      rw [← same] at plan rotation
      exact ⟨by rw [plan, modify_head_burst], rotation⟩
    obtain ⟨plan0, rotation0⟩ := planOf .s0 nofun
    have sheet1 : t.bpl.plan.s1.map (·.burst)
          = (if s.cfe.layout = .dual then (planned .s1).1.map (·.burst) else [])
        ∧ t.bpl.rotation.s1
          = if s.cfe.layout = .dual then (planned .s1).2 else s.bpl.rotation.s1 := by
      cases held : s.cfe.layout with
      | single =>
        obtain ⟨plan, rotation, -⟩ := opened.absent held
        exact ⟨by rw [plan]; rfl, rotation⟩
      | dual => exact planOf .s1 fun _ => held
    exact ⟨plan0, sheet1.1, congrArg₂ PerSheet.mk rotation0 sheet1.2, opened.slots, opened.cursors⟩

end Sys2Proof.Proofs
end

section
/-! PROOFS. What the pins show: the line (R173), the driven and the sampled coils (O36). -/

namespace Sys2Proof.Machine

/-! ### The line (R173) -/

theorem lineBits_getD (b : Byte) (j : Nat) (hj : j < 10) (z : Bool) : (lineBits b).getD j z
    = if j = 0 then false else if j = 9 then true else b.getLsbD (j - 1) := by
  interval_cases j <;> rfl

theorem txd_high {s : State} (h : s.pins.resetLow = true ∨ s.lnk.tx = none) : s.txd = true := by
  unfold State.txd
  rcases h with h | h <;> simp [h]

theorem txd_sending {s : State} {x : Transmission} (high : s.pins.resetLow = false)
    (sending : s.lnk.tx = some x) : s.txd = lineLevel x.bytes (bitTime s.pins.linkFast) x.left := by
  simp [State.txd, high, sending]

/-- The eight bits of a byte spell it. -/
theorem ofBits_getLsbD (b : Byte) : BitVec.ofNat 8 (ofBits ((List.range 8).map b.getLsbD)) = b := by
  refine BitVec.eq_of_getLsbD_eq fun i hi => ?_
  have bit := bitOf_ofBits ((List.range 8).map b.getLsbD) i
  rw [bitOf] at bit
  rw [BitVec.getLsbD_ofNat, Nat.testBit_eq_decide_div_mod_eq, bit]
  simp [hi]

/-! ### The coils (R1, R6, R11, R13 to R16) -/

theorem mem_sheets {layout : Layout} {sh : Sheet} (h : sh = .s1 → layout = .dual) :
    sh ∈ layout.sheets := by
  cases sh with
  | s0 => cases layout <;> simp [Layout.sheets]
  | s1 => rw [h rfl]; simp [Layout.sheets]

theorem sheetOfCoil_is (layout : Layout) (p : Panel) (i : Nat) {sh : Sheet}
    (h : sh = .s1 → layout = .dual) : sheetOfCoil layout p i = sh
      ↔ (layout = .dual → if sh = .s0 then i < p.n0 else p.n0 ≤ i) := by
  cases layout with
  | single =>
    cases sh with
    | s0 => simp [sheetOfCoil]
    | s1 => exact absurd (h rfl) nofun
  | dual => cases sh <;> by_cases low : i < p.n0 <;> simp [sheetOfCoil, low] <;> omega

theorem xLineBase_eq {layout : Layout} {sh : Sheet} (h : sh = .s1 → layout = .dual) :
    xLineBase layout sh = if sh = .s0 then 0 else 160 := by
  cases sh with
  | s0 => cases layout <;> rfl
  | s1 => rw [h rfl]; rfl

theorem yLineBase_eq (layout : Layout) (sh : Sheet) : yLineBase layout sh
    = if layout = .single then 192 else if sh = .s0 then 96 else 256 := by
  cases layout <;> cases sh <;> rfl

theorem xCount_eq (p : Panel) (sh : Sheet) : p.xCount sh = if sh = .s0 then p.n0 else p.n1 := by
  cases sh <;> rfl

theorem xBase_eq (p : Panel) (sh : Sheet) : p.xBase sh = if sh = .s0 then 0 else p.n0 := by
  cases sh <;> rfl

section
variable {layout : Layout} {p : Panel} {sh : Sheet} {l : Nat}

theorem mem_xLines {coils : List Nat} : l ∈ xLines layout sh coils
    ↔ ∃ k, k ∈ coils ∧ l = xLineBase layout sh + k := by
  simp [xLines, eq_comm]

theorem mem_yLines {coils : List Nat} : l ∈ yLines layout sh coils
    ↔ ∃ k, k ∈ coils ∧ l = yLineBase layout sh + k := by
  simp [yLines, eq_comm]

theorem mem_xLines_window {wx : Nat} : l ∈ xLines layout sh (windowCoils layout p sh wx)
    ↔ ∃ i, wx ≤ i ∧ i ≤ wx + 8 ∧ sheetOfCoil layout p i = sh
      ∧ l = xLineBase layout sh + (i - p.xBase sh) := by
  rw [mem_xLines]
  simp only [mem_windowCoils]
  constructor
  · rintro ⟨_, ⟨i, low, high, own, rfl⟩, rfl⟩
    exact ⟨i, low, high, own, rfl⟩
  · rintro ⟨i, low, high, own, rfl⟩
    exact ⟨_, ⟨i, low, high, own, rfl⟩, rfl⟩

theorem mem_yLines_window {wy : Nat} : l ∈ yLines layout sh ((List.range 9).map (wy + ·))
    ↔ ∃ j, wy ≤ j ∧ j ≤ wy + 8 ∧ l = yLineBase layout sh + j := by
  rw [mem_yLines]
  constructor
  · rintro ⟨_, mem, rfl⟩
    obtain ⟨k, range, rfl⟩ := List.mem_map.1 mem
    rw [List.mem_range] at range
    exact ⟨wy + k, by omega, by omega, rfl⟩
  · rintro ⟨j, low, high, rfl⟩
    exact ⟨j, List.mem_map.2 ⟨j - wy, by rw [List.mem_range]; omega, by omega⟩, rfl⟩

end

theorem State.off_of_absent {s : State} (h : s.cfe.layout = .single) :
    s.driveOn .s1 = none ∧ s.samplesOn .s1 = none := by
  simp [State.driveOn, State.samplesOn, State.burstIn, h, Layout.sheets]

end Sys2Proof.Machine

namespace Sys2Proof.Proofs
open Sys2Proof.Machine

/-- Settles O36: the line bit by bit, then the lines of each kind of burst. -/
theorem pinsShowLineAndCoils : Obligations.PinsShowLineAndCoils := by
  refine ⟨fun s => ⟨txd_high, fun x high sending => ?line⟩, fun b stop => ofBits_getLsbD b, ?coils,
    fun s => State.off_of_absent⟩
  case line =>
    intro bit
    have positive : 0 < bit := by simp only [bit]; split <;> omega
    rw [txd_sending high sending]
    refine ⟨lineLevel_before _ _ _ positive, fun k j d hk hj hd whole => ?_⟩
    exact (lineLevel_bit _ _ _ k j d hk hj hd whole).trans (lineBits_getD _ j hj true)
  case coils =>
    intro s sh b exists_ burst p first count onSheet xBase yBase tips collars xOf yOf
    have present : sh ∈ s.cfe.layout.sheets := mem_sheets exists_
    have xMem (l : Nat) : l ∈ xLines s.cfe.layout sh (b.xCoils s.cfe.layout s.cfe.panel sh)
        ↔ xOf l := by
      simp only [xOf]
      cases b with
      | probe =>
        simp [Burst.xCoils, mem_xLines, xLineBase_eq exists_, xCount_eq, xBase, count, p]
      | tip c wx wy straddle =>
        simp [Burst.xCoils, mem_xLines_window, xLineBase_eq exists_, sheetOfCoil_is _ _ _ exists_,
          xBase_eq, xBase, onSheet, first, p]
      | collar c wx wy straddle =>
        simp [Burst.xCoils, mem_xLines_window, xLineBase_eq exists_, sheetOfCoil_is _ _ _ exists_,
          xBase_eq, xBase, onSheet, first, p]
      | search c n =>
        simp [mem_xLines, mem_bandLines, xLineBase_eq exists_, xCount_eq, xBase, count, p, and_assoc]
    have yMem (l : Nat) : l ∈ yLines s.cfe.layout sh (b.yCoils s.cfe.panel) ↔ yOf l := by
      simp only [yOf]
      cases b with
      | probe => simp [Burst.yCoils, yLines]
      | tip c wx wy straddle => simp [Burst.yCoils, mem_yLines_window, yLineBase_eq, yBase]
      | collar c wx wy straddle => simp [Burst.yCoils, mem_yLines_window, yLineBase_eq, yBase]
      | search c n => simp [Burst.yCoils, mem_yLines, yLineBase_eq, yBase, p]
    have ret : returnPin sh = if sh = .s0 then .exa else .exb := by cases sh <;> rfl
    refine ⟨fun excites => ?drive, State.driveOn_idle s sh, fun listens => ?sample,
      State.samplesOn_idle s sh⟩
    case drive =>
      have drives := State.driveOn_excite s sh b excites present burst
      rw [ret] at drives
      cases b with
      | probe => exact drives
      | tip c wx wy straddle =>
        refine ⟨_, drives.trans ?_, xMem⟩
        cases c <;> rfl
      | collar c wx wy straddle =>
        refine ⟨_, drives.trans ?_, xMem⟩
        cases c <;> rfl
      | search c n =>
        refine ⟨_, drives.trans ?_, xMem⟩
        cases c <;> rfl
    case sample =>
      refine ⟨_, State.samplesOn_listen s sh b listens present burst, ?_, xMem, yMem⟩
      cases b <;> rfl

end Sys2Proof.Proofs
end

section
/-! PROOFS. FSYNC edges: the acquisition of the lock (O25), and an edge in LOCKED (O26). -/

namespace Sys2Proof.Machine

/-! ### The rows of FSYNC_EDGE (R27) -/

theorem exec_fsync_other {p : Polarity} {s : State} (h : p ≠ s.fts.display.frameSync) :
    exec (.fsyncEdge p) s = .next s := by
  change execFsyncEdge p s = _
  simp [execFsyncEdge, h, noEffect]

theorem exec_fsync_dropped {p : Polarity} {s : State} (high : s.pins.resetLow = false)
    (h : p = s.fts.display.frameSync) (armed : s.fmo.armed.edgeDrop = true) :
    exec (.fsyncEdge p) s = .next (arbitrate (disarmEdge s)) := by
  change execFsyncEdge p s = _
  simp [execFsyncEdge, high, h, armed, done]

theorem exec_fsync_captured {p : Polarity} {s : State} (high : s.pins.resetLow = false)
    (h : p = s.fts.display.frameSync) (armed : s.fmo.armed.edgeDrop = false) :
    exec (.fsyncEdge p) s = .next (arbitrate (captureFsync s)) := by
  change execFsyncEdge p s = _
  simp [execFsyncEdge, high, h, armed, done]

theorem captureFsync_kept {s : State} {g : Fts} (judged : judgeEdge s.fts = g)
    (kept : s.fts.lock = .locked → g.lock = .locked) :
    captureFsync s = edgeReload (s.setFts g) := by
  have notLost : lockLost s.fts g = false := by
    by_cases locked : s.fts.lock = .locked
    · simp [lockLost, kept locked]
    · simp [lockLost, locked]
  simp [captureFsync, judged, notLost]

theorem captureFsync_lost {s : State} {g : Fts} (judged : judgeEdge s.fts = g)
    (locked : s.fts.lock = .locked) (lost : g.lock = .unlocked) :
    captureFsync s = raiseFault .syncLost (s.setFts g) := by
  simp [captureFsync, judged, lockLost, locked, lost]

/-! ### Edge reload (R33) -/

theorem edgeReload_off {s : State}
    (h : s.fts.scan = .stopped ∨ s.bpl.active.edgeReload = false ∨ s.fts.lock ≠ .locked) :
    edgeReload s = s := by
  unfold edgeReload
  rcases h with h | h | h <;> simp [h]

theorem edgeReload_early {s : State} (scan : s.fts.scan ≠ .stopped)
    (enabled : s.bpl.active.edgeReload = true) (locked : s.fts.lock = .locked)
    (early : s.fts.age < 300) : edgeReload s = reloadTimer s := by
  have guarded : ¬ Config.reloadGuard ≤ s.fts.age := Nat.not_le.2 early
  simp [edgeReload, scan, enabled, locked, guarded]

theorem edgeReload_late {s : State} (scan : s.fts.scan ≠ .stopped)
    (enabled : s.bpl.active.edgeReload = true) (locked : s.fts.lock = .locked)
    (late : 300 ≤ s.fts.age) : edgeReload s = boundary s := by
  have past : Config.reloadGuard ≤ s.fts.age := late
  simp [edgeReload, scan, enabled, locked, past]

/-! ### The judgement of an edge (R29 to R32) -/

theorem inTolerance_iff (f : Fts) (e : Half) : inTolerance f e = true
    ↔ f.display.period ≤ (f.timebase - e).toNat + f.display.tolerance
      ∧ (f.timebase - e).toNat ≤ f.display.period + f.display.tolerance := by
  simp [inTolerance]

theorem judgeEdge_unlocked {f : Fts} (h : f.lock = .unlocked) : judgeEdge f = beginAttempt f := by
  simp [judgeEdge, h]

theorem judgeEdge_acquiring {f : Fts} (h : f.lock = .acquiring) : judgeEdge f = judgeAcquiring f := by
  simp [judgeEdge, h]

theorem judgeEdge_locked {f : Fts} (h : f.lock = .locked) : judgeEdge f = judgeLocked f := by
  simp [judgeEdge, h]

theorem judgeAcquiring_first {f : Fts} (h : f.capture = none) :
    judgeAcquiring f = captureEdge f := by
  simp [judgeAcquiring, h]

theorem judgeAcquiring_misfit {f : Fts} {e : Half} (h : f.capture = some e)
    (out : inTolerance f e = false) : judgeAcquiring f = { captureEdge f with consec := 0 } := by
  simp [judgeAcquiring, h, out]

theorem judgeAcquiring_fit {f : Fts} {e : Half} (h : f.capture = some e)
    (fits : inTolerance f e = true) (few : f.consec < 2) :
    judgeAcquiring f = { captureEdge f with consec := f.consec + 1 } := by
  have more : ¬ 3 ≤ f.consec + 1 := by omega
  simp [judgeAcquiring, h, fits, more]

theorem judgeAcquiring_third {f : Fts} {e : Half} (h : f.capture = some e)
    (fits : inTolerance f e = true) (two : f.consec = 2) :
    judgeAcquiring f = gainLock (captureEdge f) := by
  simp [judgeAcquiring, h, fits, two]

/-- The judgements an edge in LOCKED leaves (R32). -/
def lockHistory (f : Fts) : List Bool :=
  match f.capture with
  | none => f.history
  | some e => newest 4 (f.history ++ [inTolerance f e])

theorem judgeLocked_lost {f : Fts} (h : 2 ≤ (lockHistory f).count false) :
    judgeLocked f = unlockSync f :=
  if_pos h

theorem judgeLocked_kept {f : Fts} (h : (lockHistory f).count false < 2) :
    judgeLocked f = { captureEdge f with history := lockHistory f } :=
  if_neg (Nat.not_le.2 h)

end Sys2Proof.Machine

namespace Sys2Proof.Proofs
open Sys2Proof.Machine

/-- Settles O25, by the lock state, the earlier capture and the count. -/
theorem fsyncAcquires : Obligations.FsyncAcquires := by
  intro p s high f becomes fits judged
  have captured {g : Fts} (h : judged) (edge : judgeEdge s.fts = g) (notLocked : s.fts.lock ≠ .locked) :
      exec (.fsyncEdge p) s = .next (arbitrate (edgeReload (s.setFts g))) := by
    rw [exec_fsync_captured high h.1 h.2, captureFsync_kept edge fun locked => absurd locked notLocked]
  have unreloaded {g : Fts} (h : judged) (edge : judgeEdge s.fts = g) (before : s.fts.lock ≠ .locked)
      (after : g.lock ≠ .locked) : becomes g := by
    refine (captured h edge before).trans ?_
    rw [edgeReload_off (.inr (.inr after))]
    rfl
  refine ⟨exec_fsync_other, exec_fsync_dropped high, fun h unlocked => ?unlocked,
    fun h acquiring first => ?first, fun e h acquiring earlier out => ?misfit,
    fun e h acquiring earlier ok few => ?fit, fun e h acquiring earlier ok two => ?third⟩
  case unlocked =>
    exact unreloaded h (judgeEdge_unlocked unlocked) (by simp [unlocked]) (by simp [beginAttempt])
  case first =>
    have notLocked : s.fts.lock ≠ .locked := by simp [acquiring]
    exact unreloaded h ((judgeEdge_acquiring acquiring).trans (judgeAcquiring_first first))
      notLocked notLocked
  case misfit =>
    have notLocked : s.fts.lock ≠ .locked := by simp [acquiring]
    have outside : inTolerance s.fts e = false :=
      Bool.eq_false_iff.2 fun inside => out ((inTolerance_iff _ _).1 inside)
    exact unreloaded h ((judgeEdge_acquiring acquiring).trans (judgeAcquiring_misfit earlier outside))
      notLocked notLocked
  case fit =>
    have notLocked : s.fts.lock ≠ .locked := by simp [acquiring]
    exact unreloaded h ((judgeEdge_acquiring acquiring).trans
      (judgeAcquiring_fit earlier ((inTolerance_iff _ _).2 ok) few))
      notLocked notLocked
  case third =>
    have offered := captured h ((judgeEdge_acquiring acquiring).trans
      (judgeAcquiring_third earlier ((inTolerance_iff _ _).2 ok) two)) (by simp [acquiring])
    refine ⟨fun unused => offered.trans ?_, fun scan enabled early => offered.trans ?_,
      fun scan enabled late => offered.trans ?_⟩
    · rw [edgeReload_off (s := s.setFts (gainLock (captureEdge s.fts))) (unused.imp id .inl)]
      rfl
    · rw [edgeReload_early (s := s.setFts (gainLock (captureEdge s.fts))) scan enabled rfl early]
      rfl
    · rw [edgeReload_late (s := s.setFts (gainLock (captureEdge s.fts))) scan enabled rfl late]
      rfl

/-- Settles O26, by the misfits among the last four judgements. -/
theorem fsyncInLocked : Obligations.FsyncInLocked := by
  intro p s high polarity armed locked fits history kept becomes
  have judgements : lockHistory s.fts = history := by
    simp only [history, lockHistory]
    cases s.fts.capture with
    | none => rfl
    | some e =>
      have judged : inTolerance s.fts e = fits e := by
        simp [fits, inTolerance]
      simp [newest, judged]
  have captured := exec_fsync_captured high polarity armed
  have keeps (few : history.count false < 2) :
      exec (.fsyncEdge p) s = .next (arbitrate (edgeReload (s.setFts kept))) := by
    have edge : judgeEdge s.fts = kept := by
      rw [judgeEdge_locked locked, judgeLocked_kept (by rw [judgements]; exact few), judgements]
      rfl
    rw [captured, captureFsync_kept edge fun _ => locked]
  refine ⟨fun many => ?lost, fun few unused => (keeps few).trans ?_,
    fun few scan enabled early => (keeps few).trans ?_, fun few scan enabled late => (keeps few).trans ?_⟩
  case lost =>
    have edge : judgeEdge s.fts = unlockSync s.fts := by
      rw [judgeEdge_locked locked, judgeLocked_lost (by rw [judgements]; exact many)]
    simp only [becomes]
    rw [captured, captureFsync_lost edge locked rfl]
    rfl
  · rw [edgeReload_off (s := s.setFts kept) (unused.imp id .inl)]
    rfl
  · rw [edgeReload_early (s := s.setFts kept) scan enabled locked early]
    rfl
  · rw [edgeReload_late (s := s.setFts kept) scan enabled locked late]
    rfl

end Sys2Proof.Proofs
end

section
/-! PROOFS. The burst engines: how a listening is placed (O30) and how an entry starts (O31). -/

namespace Sys2Proof.Machine

/-! ### A change of the engines of a burst -/

/-- At most the engines have changed. -/
def EnginesMoved (s t : State) : Prop :=
  t = { s with cfe := { s.cfe with engine := t.cfe.engine } }

theorem EnginesMoved.refl (s : State) : EnginesMoved s s := rfl

theorem EnginesMoved.trans {s t u : State} (first : EnginesMoved s t) (second : EnginesMoved t u) :
    EnginesMoved s u := by
  unfold EnginesMoved at *
  rw [second, first]

theorem setEngine_moved (s : State) (sh : Sheet) (e : Engine) : EnginesMoved s (s.setEngine sh e) :=
  rfl

/-- Where `f` makes one sheet's engine new from what it was, a fold of `f` over distinct sheets makes
each of their engines so, and changes nothing else. -/
theorem foldl_setEngine {f : State → Sheet → State} {new : Engine → Engine} {s : State}
    (one : ∀ u x, EnginesMoved s u → f u x = u.setEngine x (new (u.engine x))) {l : List Sheet}
    (distinct : l.Nodup) {u : State} (moved : EnginesMoved s u) :
    EnginesMoved s (l.foldl f u)
      ∧ ∀ x, (l.foldl f u).engine x = if x ∈ l then new (u.engine x) else u.engine x := by
  induction l generalizing u with
  | nil => exact ⟨moved, fun x => by simp⟩
  | cons a l ih =>
    obtain ⟨notIn, distinct⟩ := List.nodup_cons.1 distinct
    have next : EnginesMoved s (f u a) := by
      rw [one u a moved]
      exact moved.trans (setEngine_moved ..)
    obtain ⟨frame, engines⟩ := ih distinct next
    refine ⟨frame, fun x => ?_⟩
    rw [List.foldl_cons, engines, one u a moved, State.engine_setEngine]
    by_cases same : x = a
    · subst same
      simp [notIn]
    · simp [same]

theorem involved_nodup (s : State) (sh : Sheet) : (s.involved sh).Nodup := by
  unfold State.involved
  split
  · decide
  · simp

theorem mem_involved (s : State) (x sh : Sheet) :
    x ∈ s.involved sh ↔ x = sh ∨ (s.burstAt sh).any Burst.straddles = true := by
  unfold State.involved
  split
  next h => cases x <;> simp [bothSheets, h]
  next h => simp [h]

/-- What is done to the engine of each sheet of a burst. -/
theorem foldl_involved {f : State → Sheet → State} {new : Engine → Engine} {s : State} (sh : Sheet)
    (one : ∀ u x, EnginesMoved s u → f u x = u.setEngine x (new (u.engine x))) :
    (∀ x, ((s.involved sh).foldl f s).engine x
      = if x = sh ∨ (s.burstAt sh).any Burst.straddles = true then new (s.engine x) else s.engine x)
    ∧ EnginesMoved s ((s.involved sh).foldl f s) := by
  obtain ⟨moved, engines⟩ := foldl_setEngine one (involved_nodup s sh) (EnginesMoved.refl s)
  refine ⟨fun x => ?_, moved⟩
  rw [engines]
  simp only [mem_involved]

/-! ### A sheet's engine in the bursts' rows -/

theorem placeListening_eq (s : State) (sh : Sheet) :
    let aligned := s.fts.lock = .locked ∧ s.bpl.active.align = true
    placeListening s sh = s.setEngine sh { s.engine sh with
      st := if aligned then .align else .listen, wait := 0, since := none
      unsynced := !decide aligned } := by
  intro aligned
  unfold placeListening
  by_cases h : aligned
  · rw [if_pos (by simpa [aligned] using h)]
    simp [h, setEngineState]
  · rw [if_neg (by simpa [aligned] using h)]
    simp [h, setEngineState]

theorem exec_excitationEnd {sh : Sheet} {s : State} (hp : s.pins.resetLow = false)
    (he : (s.engine sh).st = .excite) : exec (.excitationEnd sh) s
      = .next (arbitrate ((s.involved sh).foldl placeListening s)) := by
  simp [exec, execExcitationEnd, State.engineIn, hp, he, done]

theorem exec_lsyncEdge_active {p : Polarity} {s : State} (hp : s.pins.resetLow = false)
    (h : p = s.fts.display.lineSync) : exec (.lsyncEdge p) s
      = .next (arbitrate (s.setCfe { s.cfe with
          engine := ⟨seeLine s.cfe.engine.s0, seeLine s.cfe.engine.s1⟩ })) := by
  simp [exec, execLsyncEdge, hp, h, done]

theorem exec_lsyncEdge_other {p : Polarity} {s : State} (h : p ≠ s.fts.display.lineSync) :
    exec (.lsyncEdge p) s = .next s := by
  simp [exec, execLsyncEdge, h, noEffect]

theorem exec_listenGuardEnd {sh : Sheet} {s : State} {n : Nat} (hp : s.pins.resetLow = false)
    (he : (s.engine sh).st = .align) (hs : (s.engine sh).since = some n) (hn : 3 ≤ n) :
    exec (.listenGuardEnd sh) s
      = .next (arbitrate ((s.involved sh).foldl (setEngineState .listen false) s)) := by
  simp [exec, execListenGuardEnd, State.guardDue, State.engineIn, hp, he, hs, done,
    Config.listenGuard, hn]

theorem exec_alignTimeout {sh : Sheet} {s : State} (hp : s.pins.resetLow = false)
    (he : (s.engine sh).st = .align) (hs : (s.engine sh).since = none)
    (hw : 64 ≤ (s.engine sh).wait) : exec (.alignTimeout sh) s
      = .next (arbitrate ((s.involved sh).foldl (setEngineState .listen true) s)) := by
  simp [exec, execAlignTimeout, State.alignDue, State.engineIn, hp, he, hs, done,
    Config.alignLimit, hw]

theorem seeLine_eq (e : Engine) :
    seeLine e = if e.st = .align ∧ e.since = none then { e with since := some 0 } else e := by
  unfold seeLine
  simp

/-! ### An entry starts (R7, R15, R41) -/

/-- At most the engines and the plans have changed. -/
def EnginesAndPlansMoved (s t : State) : Prop :=
  t = { s with
    cfe := { s.cfe with engine := t.cfe.engine }, bpl := { s.bpl with plan := t.bpl.plan } }

theorem beginEntry_moved (s : State) (sh : Sheet) : EnginesAndPlansMoved s (beginEntry s sh) := by
  unfold beginEntry
  split
  · rfl
  · unfold placeListening
    split <;> rfl
  · split
    · split <;> rfl
    · rfl

theorem beginEntry_none {s : State} {sh : Sheet} (h : s.burstAt sh = none) :
    beginEntry s sh = setEngineState .idle false s sh := by
  simp [beginEntry, h]

/-- A straddling burst, whether or not the other sheet's engine is waiting for it (R15). -/
theorem beginEntry_straddling {s : State} {sh : Sheet} {b : Burst} (h : s.burstAt sh = some b)
    (hs : b.straddles = true) : beginEntry s sh
      = if (s.engine (otherSheet sh)).st = .paired ∧ s.burstAt (otherSheet sh) = some b then
          bothSheets.foldl enterExcite s
        else setEngineState .paired false s sh := by
  cases b with
  | probe => cases hs
  | search c band => cases hs
  | tip c wx wy st =>
    obtain rfl : st = true := hs
    simp [beginEntry, h, Burst.straddles]
  | collar c wx wy st =>
    obtain rfl : st = true := hs
    simp [beginEntry, h, Burst.straddles]

theorem enterExcite_engine (s : State) (sh x : Sheet) :
    (enterExcite s sh).engine x = if x = sh
      then { s.engine sh with st := .excite, wait := 0, since := none, unsynced := false }
      else s.engine x := by
  rw [enterExcite, setEngineState_engine, setRun_engine, setRun_engine]

theorem enterExcite_plan (s : State) (sh x : Sheet) :
    sheetGet (enterExcite s sh).bpl.plan x = if x = sh
      then (sheetGet s.bpl.plan sh).modify (s.engine sh).pos fun e => { e with run := .inFlight }
      else sheetGet s.bpl.plan x := setRun_at ..

theorem enterExcite_both (s : State) (x : Sheet) :
    (bothSheets.foldl enterExcite s).engine x
      = { s.engine x with st := .excite, wait := 0, since := none, unsynced := false }
    ∧ sheetGet (bothSheets.foldl enterExcite s).bpl.plan x
      = (sheetGet s.bpl.plan x).modify (s.engine x).pos fun e => { e with run := .inFlight } := by
  cases x <;> simp [bothSheets, enterExcite_engine, enterExcite_plan]

@[simp] theorem otherSheet_ne (sh : Sheet) : otherSheet sh ≠ sh := by cases sh <;> nofun

/-! ### The next entry of each sheet of an ended burst (R7, R19) -/

theorem involved_of_burst {s : State} {sh : Sheet} {b : Burst} (h : s.burstAt sh = some b) :
    s.involved sh = if b.straddles then [Sheet.s0, Sheet.s1] else [sh] := by
  simp [State.involved, h, bothSheets]

theorem foldl_stepPast (l : List Sheet) (distinct : l.Nodup) (s : State) :
    EnginesMoved s (l.foldl stepPast s) ∧ ∀ x, (l.foldl stepPast s).engine x
      = if x ∈ l then { idleEngine with pos := (s.engine x).pos + 1 } else s.engine x :=
  foldl_setEngine (new := fun e => { idleEngine with pos := e.pos + 1 }) (fun _ _ _ => rfl) distinct
    (EnginesMoved.refl s)

theorem foldl_setRun_bursts (run : RunState) (l : List Sheet) (s : State) (x : Sheet) :
    (sheetGet (l.foldl (setRun run) s).bpl.plan x).map (·.burst)
      = (sheetGet s.bpl.plan x).map (·.burst) :=
  foldl_keeps (fun u => (sheetGet u.bpl.plan x).map (·.burst)) _
    (fun u y => setRun_bursts run u y x) l s

/-- The state in which the next entries of the sheets begin, the ended burst's effects in `u`. -/
theorem startNext_goesOn {l : List Sheet} (distinct : l.Nodup) {s u : State}
    (engines : ∀ x, u.engine x = s.engine x)
    (bursts : ∀ x, (sheetGet u.bpl.plan x).map (·.burst) = (sheetGet s.bpl.plan x).map (·.burst))
    (active : u.bpl.active = s.bpl.active) (fts : u.fts = s.fts)
    (layout : u.cfe.layout = s.cfe.layout) :
    ∃ v, startNext l u = l.foldl beginEntry v
      ∧ (∀ x, v.engine x = if x ∈ l then { idleEngine with pos := (s.engine x).pos + 1 }
          else s.engine x)
      ∧ (∀ x, (sheetGet v.bpl.plan x).map (·.burst) = (sheetGet s.bpl.plan x).map (·.burst))
      ∧ v.bpl.active = s.bpl.active ∧ v.fts = s.fts ∧ v.cfe.layout = s.cfe.layout := by
  obtain ⟨-, stepped⟩ := foldl_stepPast l distinct u
  refine ⟨l.foldl stepPast u, rfl, fun x => ?_, fun x => ?_, ?_, ?_, ?_⟩
  · rw [stepped, engines]
  · rw [foldl_stepPast_bpl, bursts]
  · rw [foldl_stepPast_bpl, active]
  · rw [foldl_stepPast_fts, fts]
  · rw [foldl_stepPast_cfe_layout, layout]

theorem completeBurst_unarmed {sh : Sheet} {b : Burst} {r : Reading} {s : State}
    (h : s.fmo.armed.driverTrip = false) : completeBurst sh b r s = startNext (s.involved sh)
      (deliver (resultRecord s sh b r) ((s.involved sh).foldl (setRun .completed) s)) :=
  startBursts_of_unarmed _ _ (by simpa using h)

theorem overcurrent_goesOn {sh : Sheet} {s : State} (hf : s.fts.frame = .planned)
    (hn : NoHaltBy [.driverTrip] s.fmo) (ha : s.fmo.armed.driverTrip = false) :
    overcurrent sh s = startNext (s.involved sh)
      (recordFault .driverTrip ((s.involved sh).foldl (setRun .unrun) s)) := by
  unfold overcurrent
  dsimp only
  rw [if_pos (by simp [tripBurst_of_not hn, hf]), startBursts_of_unarmed _ _ (by simpa using ha),
    tripBurst_of_not hn]

end Sys2Proof.Machine

namespace Sys2Proof.Proofs
open Sys2Proof.Machine

/-- Settles O30. -/
theorem listeningPlaced : Obligations.ListeningPlaced := by
  refine ⟨?ended, ?rows⟩
  case ended =>
    intro sh s high excited aligned
    obtain ⟨engines, moved⟩ := foldl_involved (s := s) (f := placeListening) sh
      (new := fun e => { e with
        st := if aligned then .align else .listen, wait := 0, since := none
        unsynced := !decide aligned })
      (fun u x moved => by rw [moved]; exact placeListening_eq ..)
    exact ⟨_, exec_excitationEnd high excited, engines, moved⟩
  case rows =>
    intro sh s high listens
    refine ⟨?edge, ?other, ?guard, ?limit⟩
    case edge =>
      intro p active
      refine ⟨_, exec_lsyncEdge_active high active, fun x => ?_, rfl⟩
      cases x <;> exact seeLine_eq _
    case other => exact fun p other => exec_lsyncEdge_other other
    case guard =>
      intro n align since due
      obtain ⟨engines, moved⟩ := foldl_involved (s := s) (f := setEngineState .listen false) sh
        (new := fun e => { e with st := .listen, wait := 0, since := none, unsynced := false })
        (fun u x moved => rfl)
      exact ⟨_, exec_listenGuardEnd high align since due, engines, moved⟩
    case limit =>
      intro align since due
      obtain ⟨engines, moved⟩ := foldl_involved (s := s) (f := setEngineState .listen true) sh
        (new := fun e => { e with st := .listen, wait := 0, since := none, unsynced := true })
        (fun u x moved => rfl)
      exact ⟨_, exec_alignTimeout high align since due, engines, moved⟩

/-- Settles O31: an entry begins by its burst, an ended burst's sheets step on, a frame opens at its
PROBEs. -/
theorem entriesStart : Obligations.EntriesStart := by
  refine ⟨?begins, ?goesOn, ?opens⟩
  case begins =>
    intro sh s t aligned entered flies kept alone pairs
    refine ⟨fun none => ?_, fun probe => ?_, fun b burst notProbe single => ?_,
      fun b burst straddles waits => ?_, fun b burst straddles paired x => ?_, beginEntry_moved s sh⟩
    · have idle : t = setEngineState .idle false s sh := beginEntry_none none
      simp only [entered, kept, alone, idle, setEngineState_engine, setEngineState_bpl, if_true,
        otherSheet_ne, if_false, and_self]
    · obtain ⟨plan, engine⟩ := beginEntry_probe_at s sh sh probe
      obtain ⟨otherPlan, otherEngine⟩ := beginEntry_probe_at s sh (otherSheet sh) probe
      rw [if_pos rfl] at plan engine
      rw [if_neg (otherSheet_ne sh)] at otherPlan otherEngine
      exact ⟨engine, plan, otherEngine, otherPlan⟩
    · have excite : t = enterExcite s sh := beginEntry_excite burst notProbe single
      simp only [entered, flies, kept, alone, excite, enterExcite_engine, enterExcite_plan, if_true,
        otherSheet_ne, if_false, and_self]
    · have paired : t = setEngineState .paired false s sh :=
        (beginEntry_straddling burst straddles).trans (if_neg waits)
      simp only [entered, kept, alone, paired, setEngineState_engine, setEngineState_bpl, if_true,
        otherSheet_ne, if_false, and_self]
    · have excite : t = bothSheets.foldl enterExcite s :=
        (beginEntry_straddling burst straddles).trans (if_pos paired)
      obtain ⟨engine, plan⟩ := enterExcite_both s x
      simp only [entered, flies, excite]
      exact ⟨engine, plan⟩
  case goesOn =>
    intro sh b s high burst unarmed sheets goesOn
    have sheetsEq : s.involved sh = sheets := involved_of_burst burst
    refine ⟨fun r listens => ?_, fun excited planned passes => ?_⟩
    · obtain ⟨v, starts, holds⟩ := startNext_goesOn (involved_nodup s sh)
        (u := deliver (resultRecord s sh b r) ((s.involved sh).foldl (setRun .completed) s)) (s := s)
        (fun x => by simp [State.engine]) (fun x => by rw [deliver_bpl_plan, foldl_setRun_bursts])
        (by simp) (by simp) (by simp)
      rw [← completeBurst_unarmed unarmed] at starts
      refine ⟨v, (exec_burstComplete r high listens burst).trans ?_, sheetsEq ▸ holds⟩
      rw [starts, sheetsEq]
    · obtain ⟨v, starts, holds⟩ := startNext_goesOn (involved_nodup s sh)
        (u := recordFault .driverTrip ((s.involved sh).foldl (setRun .unrun) s)) (s := s)
        (fun x => by simp [State.engine]) (fun x => by rw [recordFault_bpl, foldl_setRun_bursts])
        (by simp) (by simp) (by simp)
      rw [← overcurrent_goesOn planned passes unarmed] at starts
      refine ⟨v, (exec_driverOvercurrent high excited).trans ?_, sheetsEq ▸ holds⟩
      rw [starts, sheetsEq]
  case opens =>
    intro s running t aligned sh exists_
    obtain ⟨plan, -, engine⟩ := (frameOpened s running).sheets sh exists_
    obtain ⟨rest, probe⟩ := sheetPlan_head s.cfe.layout s.cfe.panel (openedFrame s).ptr.slots
      (openedFrame s).bpl.cursor (openFrame s).bpl.budget (sheetGet s.bpl.rotation sh) sh
    have planned : sheetGet t.bpl.plan sh = ⟨.probe, .inFlight⟩ :: rest := by
      rw [probe] at plan
      exact plan
    refine ⟨engine, by rw [planned]; rfl, fun e mem => sheetPlan_planned (layout := s.cfe.layout)
      (p := s.cfe.panel) (slots := (openedFrame s).ptr.slots) (cursor := (openedFrame s).bpl.cursor)
      (budget := (openFrame s).bpl.budget) (rotation := sheetGet s.bpl.rotation sh) (sh := sh) ?_⟩
    rw [planned] at mem
    rw [probe]
    exact List.mem_cons_of_mem _ mem

end Sys2Proof.Proofs
end

section
/-! PROOFS. What a completed burst records and moves: PROBE (O32), SEARCH (O33), TIP and COLLAR (O34). -/

namespace Sys2Proof.Machine

/-! ### The greatest of a list of amplitudes -/

theorem foldl_max_spec (l : List Nat) (m : Nat) :
    m ≤ l.foldl max m ∧ (∀ a ∈ l, a ≤ l.foldl max m)
      ∧ (l.foldl max m = m ∨ l.foldl max m ∈ l) := by
  induction l generalizing m with
  | nil => simp
  | cons a l ih =>
    obtain ⟨start, members, reached⟩ := ih (max m a)
    rw [List.foldl_cons]
    refine ⟨by omega, fun b mem => ?_, ?_⟩
    · rcases List.mem_cons.1 mem with rfl | mem
      · omega
      · exact members b mem
    · rcases reached with same | mem
      · rcases Nat.le_total m a with less | less
        · rw [Nat.max_eq_right less] at same ⊢
          exact .inr (by rw [same]; exact List.mem_cons_self)
        · rw [Nat.max_eq_left less] at same ⊢
          exact .inl same
      · exact .inr (List.mem_cons_of_mem _ mem)

theorem le_greatest {l : List Nat} {a : Nat} (h : a ∈ l) : a ≤ greatest l :=
  (foldl_max_spec l 0).2.1 a h

theorem greatest_mem {l : List Nat} (h : l ≠ []) : greatest l ∈ l := by
  obtain ⟨a, mem⟩ := List.exists_mem_of_ne_nil l h
  rcases (foldl_max_spec l 0).2.2 with zero | reached
  · have least := le_greatest mem
    unfold greatest at least ⊢
    rw [zero] at least ⊢
    exact Nat.le_zero.1 least ▸ mem
  · exact reached

/-- The greatest amplitude that `n` coils read. -/
theorem amplitude_le_greatest (l : List Half) {n k : Nat} (h : k < n) :
    (l.getD k 0).toNat ≤ greatest (readCoils l n) :=
  le_greatest (List.mem_map.2 ⟨k, List.mem_range.2 h, rfl⟩)

/-- The lowest of the coils with the greatest amplitude (R13, R16). -/
theorem greatestAt_readCoils (l : List Half) {n : Nat} (h : 0 < n) :
    let first := greatestAt (readCoils l n)
    first < n ∧ (l.getD first 0).toNat = greatest (readCoils l n)
      ∧ ∀ k, k < first → (l.getD k 0).toNat < (l.getD first 0).toNat := by
  intro first
  have length : (readCoils l n).length = n := by simp [readCoils]
  have coil {k : Nat} (hk : k < (readCoils l n).length) : (readCoils l n)[k] = (l.getD k 0).toNat := by
    simp [readCoils]
  have reached : greatest (readCoils l n) ∈ readCoils l n :=
    greatest_mem (List.ne_nil_of_length_pos (by omega))
  have inside : first < (readCoils l n).length :=
    List.findIdx_lt_length_of_exists ⟨_, reached, by simp⟩
  have attained : (l.getD first 0).toNat = greatest (readCoils l n) := by
    have found := List.findIdx_getElem (w := inside)
    rw [← coil inside]
    exact of_decide_eq_true found
  refine ⟨by omega, attained, fun k lower => ?_⟩
  have passed := List.not_of_lt_findIdx lower
  rw [coil (by omega)] at passed
  have bound := amplitude_le_greatest l (show k < n by omega)
  rw [attained]
  exact Nat.lt_of_le_of_ne bound (by simpa using passed)

/-! ### What the completion of a burst leaves (R7, R10, R41) -/

/-- A burst is completed with DRIVER_TRIP not armed: its record is delivered, its entry COMPLETED and
its engine one entry on, on each of its sheets. -/
structure Completed (sh : Sheet) (rec : BurstRecord) (s t : State) : Prop where
  ptr : t.ptr = { s.ptr with records := s.ptr.records ++ [rec] }
  fts : t.fts = s.fts
  fmo : t.fmo = s.fmo
  rqu : t.rqu = s.rqu
  entry : ∀ x ∈ s.involved sh, ∀ e, (sheetGet s.bpl.plan x)[(s.engine x).pos]? = some e →
    (sheetGet t.bpl.plan x)[(s.engine x).pos]? = some { e with run := .completed }
  pos : ∀ x ∈ s.involved sh, (t.engine x).pos = (s.engine x).pos + 1
  floor : t.cfe.floor = (recordEffect rec s).cfe.floor
  threshold : t.cfe.threshold = (recordEffect rec s).cfe.threshold
  cursor : t.bpl.cursor = (recordEffect rec s).bpl.cursor

/-- A record's effect outside the Pen Tracker depends on the blocks it moves alone. -/
theorem recordEffect_congr {rec : BurstRecord} {s u : State} (cfe : u.cfe = s.cfe)
    (active : u.bpl.active = s.bpl.active) (cursor : u.bpl.cursor = s.bpl.cursor) :
    (recordEffect rec u).cfe = (recordEffect rec s).cfe
      ∧ (recordEffect rec u).bpl.cursor = (recordEffect rec s).bpl.cursor := by
  cases rec with
  | probe sh mark a => simp [recordEffect, updateFloor, cfe, active, cursor]
  | search sh c mark band px py a =>
    simp only [recordEffect, advanceCursor_cfe, cfe, true_and]
    unfold advanceCursor
    dsimp only
    rw [cursor, cfe]
    split
    · rfl
    · exact cursor
  | tip w period => exact ⟨cfe, cursor⟩
  | collar w => exact ⟨cfe, cursor⟩

theorem completeBurst_completed {sh : Sheet} {b : Burst} (r : Reading) {s : State}
    (h : s.fmo.armed.driverTrip = false) :
    Completed sh (resultRecord s sh b r) s (completeBurst sh b r s) := by
  obtain ⟨rec, hrec⟩ : ∃ rec, rec = resultRecord s sh b r := ⟨_, rfl⟩
  have goes := completeBurst_unarmed (sh := sh) (b := b) (r := r) h
  have entries := fun x mem => completeBurst_entry sh x b r s h mem
  rw [← hrec] at goes ⊢
  obtain ⟨cfe, cursor⟩ := recordEffect_congr (rec := rec) (s := s)
    (u := ((s.involved sh).foldl (setRun .completed) s).setPtr
      { ((s.involved sh).foldl (setRun .completed) s).ptr with
        records := ((s.involved sh).foldl (setRun .completed) s).ptr.records ++ [rec] })
    (by simp) (by simp) (by simp)
  exact {
    ptr := by rw [goes]; simp
    fts := by rw [goes]; simp
    fmo := by rw [goes]; simp
    rqu := by rw [goes]; simp
    entry := fun x mem => (entries x mem).2
    pos := fun x mem => (entries x mem).1
    floor := by rw [goes, startNext_cfe_floor]; exact congrArg Cfe.floor cfe
    threshold := by rw [goes, startNext_cfe_threshold]; exact congrArg Cfe.threshold cfe
    cursor := by rw [goes, startNext_bpl_cursor]; exact cursor }

theorem exists_entry_of_burstAt {s : State} {sh : Sheet} {b : Burst} (h : s.burstAt sh = some b) :
    ∃ e, (sheetGet s.bpl.plan sh)[(s.engine sh).pos]? = some e ∧ e.burst = b :=
  Option.map_eq_some_iff.1 h

theorem mem_involved_self (s : State) (sh : Sheet) : sh ∈ s.involved sh :=
  (mem_involved s sh sh).2 (.inl rfl)

theorem advanceCursor_cursor (sh x : Sheet) (c d : Channel) (band : Nat) (s : State) :
    sheetGet ((advanceCursor sh c band s).bpl.cursor.get d) x
      = if d = c ∧ x = sh ∧ band = sheetGet (s.bpl.cursor.get c) sh
        then (band + 1) % s.cfe.panel.bands sh else sheetGet (s.bpl.cursor.get d) x := by
  unfold advanceCursor
  dsimp only
  split
  next h =>
    by_cases same : d = c
    · subst same
      simp [PerChannel.get_set, ← h]
    · simp [PerChannel.get_set, same]
  next h => simp [h]

/-- The record of a TIP or COLLAR, by the sheets its burst is on (R13, R14, R15). -/
theorem windowRecord_fired {s : State} {sh : Sheet} {st : Bool}
    (fired : ∀ x, x ∈ s.involved sh ↔ x = sh ∨ st = true) (mark : Bool) (c : Channel) (wx wy : Nat)
    (r : Reading) : windowRecord (s.involved sh) mark c wx wy r
      = ⟨c, mark, wx, wy, readCoils r.x 9,
        ⟨if Sheet.s0 = sh ∨ st = true then readCoils r.y.s0 9 else [],
          if Sheet.s1 = sh ∨ st = true then readCoils r.y.s1 9 else []⟩⟩ := by
  simp only [windowRecord, fired]

theorem periodCount_eq (s : State) (w : WindowRec) (r : Reading) : periodCount s w r
    = if sheetGet s.cfe.threshold (sheetOfCoil s.cfe.layout s.cfe.panel (w.wx + greatestAt w.x)) / 2
          ≤ r.ringLow.toNat ∧ r.ringTicks ≤ 65535 then some r.ringTicks else none := by
  unfold periodCount
  simp only [Bool.and_eq_true, decide_eq_true_eq]
  rfl

end Sys2Proof.Machine

namespace Sys2Proof.Proofs
open Sys2Proof.Machine

/-- Settles O32. -/
theorem probeMovesFloor : Obligations.ProbeMovesFloor := by
  intro sh r s high listens burst unarmed
  have done := completeBurst_completed (sh := sh) (b := .probe) r unarmed
  obtain ⟨e, entry, -⟩ := exists_entry_of_burstAt burst
  have floors (x : Sheet) := congrArg (sheetGet · x) done.floor
  have thresholds (x : Sheet) := congrArg (sheetGet · x) done.threshold
  simp only [resultRecord, recordEffect, updateFloor_floor, updateFloor_threshold] at floors thresholds
  refine ⟨_, greatest (readCoils r.x (s.cfe.panel.xCount sh)), exec_burstComplete r high listens burst,
    done.ptr, fun k => amplitude_le_greatest r.x, fun some => ?_, ?_, ?_, ?_, ?_, ?_, ?_, done.fts,
    done.fmo, done.rqu, done.cursor⟩
  · obtain ⟨inside, attained, -⟩ := greatestAt_readCoils r.x some
    exact ⟨_, inside, attained⟩
  · rw [floors, if_pos rfl]
    rfl
  · rw [thresholds, floors, if_pos rfl, if_pos rfl]
    rfl
  · rw [floors, if_neg (otherSheet_ne sh)]
  · rw [thresholds, if_neg (otherSheet_ne sh)]
  · rw [done.entry sh (mem_involved_self s sh) e entry]
    rfl
  · exact done.pos sh (mem_involved_self s sh)

/-- Settles O33. -/
theorem searchFindsPeak : Obligations.SearchFindsPeak := by
  intro sh r c band s high listens burst unarmed bandHas yHas n x y
  have done := completeBurst_completed (sh := sh) (b := .search c band) r unarmed
  obtain ⟨⟨b, run⟩, entry, rfl⟩ := exists_entry_of_burstAt burst
  obtain ⟨xIn, xTop, xLowest⟩ := greatestAt_readCoils r.x
    (show 0 < bandCoils s.cfe.panel sh band by unfold bandCoils; omega)
  obtain ⟨yIn, yTop, yLowest⟩ := greatestAt_readCoils (sheetGet r.y sh) yHas
  have cursors (d : Channel) (z : Sheet) := congrArg (fun cur => sheetGet (cur.get d) z) done.cursor
  simp only [resultRecord, recordEffect, advanceCursor_cursor] at cursors
  refine ⟨_, greatestAt (readCoils r.x n), greatestAt (readCoils (sheetGet r.y sh) s.cfe.panel.yCount),
    exec_burstComplete r high listens burst, ?_, xIn, fun k below => ?_, xLowest, yIn,
    fun k below => ?_, yLowest, ?_, fun d z other => ?_, ?_, ?_, ?_, ?_, done.fts, done.fmo,
    done.rqu, ?_⟩
  · have amplitudes : min (x (greatestAt (readCoils r.x n)))
        (y (greatestAt (readCoils (sheetGet r.y sh) s.cfe.panel.yCount)))
        = min (greatest (readCoils r.x n))
          (greatest (readCoils (sheetGet r.y sh) s.cfe.panel.yCount)) := congrArg₂ min xTop yTop
    rw [amplitudes, done.ptr]
    rfl
  · exact (amplitude_le_greatest r.x below).trans_eq xTop.symm
  · exact (amplitude_le_greatest _ below).trans_eq yTop.symm
  · rw [cursors]
    simp only [true_and]
    rfl
  · rw [cursors, if_neg]
    rintro ⟨rfl, rfl, -⟩
    exact other.elim (absurd rfl) (absurd rfl)
  · exact done.entry sh (mem_involved_self s sh) _ entry
  · exact done.pos sh (mem_involved_self s sh)
  · simpa [resultRecord, recordEffect] using done.floor
  · simpa [resultRecord, recordEffect] using done.threshold
  · rw [done.ptr]

/-- Settles O34: both records are of the sheets the burst is on. -/
theorem windowBurstsRecord : Obligations.WindowBurstsRecord := by
  intro sh r c wx wy st s high listens unarmed nine fired w completed
  have onSheets {b : Burst} (burst : s.burstAt sh = some b) (straddles : b.straddles = st) (x : Sheet) :
      x ∈ s.involved sh ↔ fired x := by
    rw [mem_involved, burst, Option.any_some, straddles]
  have entries {b : Burst} (burst : s.burstAt sh = some b) (straddles : b.straddles = st) :
      completed (completeBurst sh b r s) := by
    have done := completeBurst_completed (sh := sh) (b := b) r unarmed
    intro x isFired
    have mem := (onSheets burst straddles x).2 isFired
    exact ⟨done.pos x mem, done.entry x mem⟩
  refine ⟨fun burst => ?collar, fun burst => ?tip⟩
  case collar =>
    have done := completeBurst_completed (sh := sh) (b := .collar c wx wy st) r unarmed
    have record : windowRecord (s.involved sh) (s.engine sh).unsynced c wx wy r = w :=
      windowRecord_fired (onSheets burst rfl) ..
    have delivered := done.ptr
    simp only [resultRecord, record] at delivered
    exact ⟨_, exec_burstComplete r high listens burst, delivered, entries burst rfl, done.floor,
      done.threshold, done.fts, done.fmo, done.rqu, done.cursor⟩
  case tip =>
    have done := completeBurst_completed (sh := sh) (b := .tip c wx wy st) r unarmed
    have record : windowRecord (s.involved sh) (s.engine sh).unsynced c wx wy r = w :=
      windowRecord_fired (onSheets burst rfl) ..
    have delivered := done.ptr
    simp only [resultRecord, record] at delivered
    obtain ⟨inside, top, lowest⟩ := greatestAt_readCoils r.x (n := 9) (by decide)
    refine ⟨_, greatestAt (readCoils r.x 9), periodCount s w r,
      exec_burstComplete r high listens burst, delivered, inside, fun k below => ?_, lowest, ?_,
      entries burst rfl, done.floor, done.threshold, done.fts, done.fmo, done.rqu, done.cursor⟩
    · exact (amplitude_le_greatest r.x below).trans_eq top.symm
    · exact periodCount_eq s w r

end Sys2Proof.Proofs
end

section
/-! PROOFS. Frame boundaries: those after which no planned frame opens (O28) and those in RUNNING that
open the next (O29). -/

namespace Sys2Proof.Machine

/-! ### Faults that cannot halt the part (R157) -/

/-- No record halts the part, and recording a fault of `fs` makes none that does. -/
def HarmlessRecs (fs : List FaultId) (recs : PerFault FaultRec) : Prop :=
  (∀ g, (recs.get g).halts = false) ∧ ∀ f ∈ fs, (recs.get f).masked = true ∨ (recs.get f).halt = false

theorem halting_eq_false_iff (m : Fmo) : m.halting = false ↔ ∀ g, (m.recs.get g).halts = false := by
  simp [← Bool.not_eq_true, Fmo.halting_iff]

theorem noHaltBy_iff (fs : List FaultId) (m : Fmo) : NoHaltBy fs m ↔ HarmlessRecs fs m.recs :=
  and_congr_left fun _ => halting_eq_false_iff m

theorem HarmlessRecs.record {fs : List FaultId} {recs : PerFault FaultRec} (h : HarmlessRecs fs recs)
    {f : FaultId} (mem : f ∈ fs) :
    HarmlessRecs fs (recs.set f { recs.get f with status := true, marker := true }) := by
  obtain ⟨none, policy⟩ := h
  refine ⟨fun g => ?_, fun g memG => ?_⟩
  · rw [PerFault.get_set]
    split
    · rcases policy f mem with masked | notice
      · simp [FaultRec.halts, masked]
      · simp [FaultRec.halts, notice]
    · exact none g
  · rw [PerFault.get_set]
    split
    · exact policy f mem
    · exact policy g memG

theorem closing_harmless {s : State} (h : HarmlessRecs boundaryFaults s.fmo.recs) :
    HarmlessRecs boundaryFaults (closing s).fmo.recs := by
  rw [closing_eq]
  split
  · rw [recordFault_recs]
    exact h.record (by decide)
  · exact h

theorem closedSlots_harmless {s : State} (h : HarmlessRecs boundaryFaults s.fmo.recs) :
    HarmlessRecs boundaryFaults (closedSlots s).fmo.recs := by
  refine closeSlots_kept (Q := HarmlessRecs boundaryFaults) (fun f mem recs held => held.record ?_)
    ((closing s).modRqu fun r => { r with fresh := some 0 }) (closing_harmless h)
  revert f
  decide

/-- Of the faults of a close FRAME_CUT is recorded before the slots are closed alone (R26). -/
theorem closedSlots_frameCut (s : State) : ((closedSlots s).fmo.recs.get .frameCut).status = true
    ↔ (s.fmo.recs.get .frameCut).status = true ∨ LeavesUnrun s := by
  have slots : (closedSlots s).fmo.recs.get .frameCut = (closing s).fmo.recs.get .frameCut := by
    refine closeSlots_kept (Q := fun r => r.get .frameCut = (closing s).fmo.recs.get .frameCut)
      (fun f mem recs held => ?_) ((closing s).modRqu fun r => { r with fresh := some 0 }) rfl
    rw [PerFault.get_set, if_neg, held]
    rintro rfl
    revert mem
    decide
  rw [slots, closing_eq]
  by_cases unrun : LeavesUnrun s
  · rw [if_pos unrun]
    simp [unrun]
  · rw [if_neg unrun]
    simp [unrun, abandonBursts]

/-! ### The close of a frame (R24, R37, R59, R159) -/

theorem exec_frameTimerExpiry {s : State} (high : s.pins.resetLow = false)
    (on : s.fts.timerOn = true) (due : s.fts.period ≤ s.fts.timer) :
    exec .frameTimerExpiry s = .next (arbitrate (boundary s)) := by
  simp [exec, execFrameTimerExpiry, State.frameDue, high, on, due, done]

/-- What every close leaves of the state. -/
structure CloseKeeps (s u : State) : Prop where
  pins : u.pins = s.pins
  fts : u.fts = s.fts
  cfe : u.cfe = { s.cfe with engine := everySheet idleEngine }
  bpl : u.bpl = { s.bpl with plan := everySheet [], budget := 0 }
  enabled : u.ptr.enabled = s.ptr.enabled
  records : u.ptr.records = []
  wdc : u.wdc = s.wdc
  ptb : u.ptb = s.ptb
  lnk : u.lnk = s.lnk
  cpr : u.cpr = s.cpr

theorem FrameClosed.keeps {s u : State} (h : FrameClosed s u) : CloseKeeps s u := by
  unfold FrameClosed at h
  split at h
  · obtain ⟨-, same⟩ := h
    rw [same]
    constructor <;> rfl
  · rw [h]
    constructor <;> rfl

theorem frameClosed_planned {s u : State} (planned : s.fts.frame = .planned)
    (processed : CloseProcessed s u) : FrameClosed s u := by
  unfold FrameClosed
  rwa [if_pos planned]

theorem frameClosed_unplanned {s : State} (h : s.fts.frame ≠ .planned) :
    FrameClosed s (discardFrame (abandonBursts s)) := by
  unfold FrameClosed
  rw [if_neg h]
  rfl

theorem carryOutStop_requested {s : State} (running : s.fts.scan = .running)
    (stop : s.fts.stopReq = true) : carryOutStop s = clearForStop (stopScanning s) := by
  simp [carryOutStop, running, stop]

theorem carryOutStop_of_not {s : State} (h : s.fts.scan = .running → s.fts.stopReq = false) :
    carryOutStop s = s := by
  unfold carryOutStop
  rw [if_neg]
  intro both
  simp only [Bool.and_eq_true, decide_eq_true_eq] at both
  obtain ⟨running, stop⟩ := both
  simp [h running] at stop

/-- The close of a frame that was not planned hands nothing to the tracker (R24). -/
theorem closeFrame_unplanned {s : State} (h : s.fts.frame ≠ .planned) :
    closeFrame s = carryOutStop (discardFrame (abandonBursts s)) := by
  have uncut : frameCut s = false := by simp [frameCut, h]
  have kept : handedOver (abandonBursts s) = false := by simp [handedOver, abandonBursts, h]
  simp only [closeFrame, uncut, Bool.false_eq_true, if_false, kept]

theorem settleClose_of_not {u : State} (h : u.fmo.halting = false) :
    settleClose u = carryOutStop u := by
  simp [settleClose, h, haltIfHeld_of_not]

/-- A close in RUNNING with no fault that can halt the part: the frame is closed, and then a stop
requested is carried out (R24, R37). -/
theorem closeFrame_running {s : State} (running : s.fts.scan = .running)
    (harmless : NoHaltBy boundaryFaults s.fmo) :
    ∃ u, FrameClosed s u ∧ closeFrame s = carryOutStop u
      ∧ (s.fts.frame = .planned → u.fmo = (closedSlots s).fmo) := by
  have recs := (noHaltBy_iff _ _).1 harmless
  by_cases planned : s.fts.frame = .planned
  · have processed := closeProcessed s
    have ⟨_, same⟩ := processed
    have faults := congrArg State.fmo same
    refine ⟨_, frameClosed_planned planned processed, ?_, fun _ => faults⟩
    rw [closeFrame_closing s running planned ((halting_eq_false_iff _).2 (closing_harmless recs).1),
      settleClose_of_not]
    rw [faults]
    exact (halting_eq_false_iff _).2 (closedSlots_harmless recs).1
  · exact ⟨_, frameClosed_unplanned planned, closeFrame_unplanned planned, fun h => absurd h planned⟩

theorem boundary_stopped {s : State} (h : (closeFrame s).fts.scan = .stopped) :
    boundary s = closeFrame s := if_pos h

theorem boundary_opens {s : State} (h : (closeFrame s).fts.scan ≠ .stopped) :
    boundary s = openFrame (reloadTimer (closeFrame s)) := if_neg h

/-- Where the close has halted the part, the next frame opens planless (R25, R38). -/
theorem boundary_halted {s : State} (h : (closeFrame s).fts.scan = .halted) :
    boundary s = { closeFrame s with
      fts := { reloaded (closeFrame s).fts with frame := .planless, age := 0 } } := by
  rw [boundary_opens (by simp [h]), openFrame_halted (s := reloadTimer (closeFrame s)) h]
  rfl

theorem StopCarriedOut.state_eq {u t : State} (h : StopCarriedOut u t) (c : Channel) :
    (t.slot c).state = if (u.slot c).state.active then .search else (u.slot c).state := by
  rw [h.slots]
  split <;> rfl

/-- A boundary in RUNNING with a stop pending ends STOPPED (R37). -/
theorem boundary_stops {s : State} (running : s.fts.scan = .running) (stop : s.fts.stopReq = true)
    (harmless : NoHaltBy boundaryFaults s.fmo) :
    ∃ u, FrameClosed s u ∧ StopCarriedOut u (boundary s)
      ∧ (s.fts.frame = .planned → (boundary s).fmo = (closedSlots s).fmo) := by
  obtain ⟨u, closed, close, faults⟩ := closeFrame_running running harmless
  have fts := closed.keeps.fts
  rw [carryOutStop_requested (by rw [fts, running]) (by rw [fts, stop])] at close
  have stopped := stopCarriedOut u
  have same := boundary_stopped (s := s) (by rw [close, stopped.rest])
  rw [same, close]
  exact ⟨u, closed, stopped, fun planned => by rw [← faults planned, stopped.rest]⟩

/-- A boundary in RUNNING with no stop pending opens the next frame on what the close left (R23, R24). -/
theorem boundary_goesOn {s : State} (running : s.fts.scan = .running) (stop : s.fts.stopReq = false)
    (harmless : NoHaltBy boundaryFaults s.fmo) :
    ∃ u, FrameClosed s u ∧ boundary s = openFrame { u with fts := reloaded u.fts }
      ∧ (s.fts.frame = .planned → (boundary s).fmo = (closedSlots s).fmo) := by
  obtain ⟨u, closed, close, faults⟩ := closeFrame_running running harmless
  have fts := closed.keeps.fts
  rw [carryOutStop_of_not fun _ => by rw [fts, stop]] at close
  have opens := boundary_opens (s := s) (by rw [close, fts, running]; nofun)
  rw [close] at opens
  refine ⟨u, closed, opens, fun planned => ?_⟩
  have scan : (reloadTimer u).fts.scan = .running := (congrArg Fts.scan fts).trans running
  rw [opens, (frameOpened _ scan).faults]
  exact faults planned

/-- FRAME_CUT of HALT severity halts the part before the tracker is handed anything (R38, R78). -/
theorem closeFrame_cut {s : State} (running : s.fts.scan = .running) (planned : s.fts.frame = .planned)
    (unrun : LeavesUnrun s) (unmasked : (s.fmo.recs.get .frameCut).masked = false)
    (halts : (s.fmo.recs.get .frameCut).halt = true) : closeFrame s = enterHalt (closing s) := by
  have fts : (closing s).fts = s.fts := (closing_keeps s).2.1
  have held : (closing s).fmo.halting = true := by
    rw [closing_eq, if_pos unrun]
    exact recordFault_halting unmasked halts
  have entry : haltIfHeld (closing s) = enterHalt (closing s) :=
    haltIfHeld_of_held _ held (by rw [fts, running])
  have scan : (enterHalt (closing s)).fts.scan ≠ .running := by
    rw [enterHalt_fts]
    split <;> nofun
  unfold closeFrame
  dsimp only
  rw [closing_raised s planned, if_pos (show _ ∧ _ from ⟨unrun, unmasked⟩), entry,
    if_neg (by simp [handedOver, scan]), discardFrame_enterHalt, carryOutStop_of_not fun h => absurd h scan]

theorem enterHalt_scan (s : State) :
    (enterHalt s).fts.scan = if s.fts.stopReq then .stopped else .halted := by
  rw [enterHalt_fts]
  split <;> rfl

/-- The boundary whose close has entered HALTED, or by it STOPPED (R38). -/
theorem boundary_enterHalt {s u : State} (close : closeFrame s = enterHalt u) :
    boundary s = if u.fts.stopReq then enterHalt u else { enterHalt u with
      fts := { reloaded (enterHalt u).fts with frame := .planless, age := 0 } } := by
  have scan := enterHalt_scan u
  rw [← close] at scan ⊢
  split
  next stop => exact boundary_stopped (by rw [scan, if_pos stop])
  next go => exact boundary_halted (by rw [scan, if_neg go])

/-- A fault of HALT severity raised in the processing of a close, with a stop pending: the free value
says which comes first (R159, log 9). -/
theorem settleClose_both {u : State} (held : u.fmo.halting = true) (running : u.fts.scan = .running)
    (stop : u.fts.stopReq = true) : settleClose u = enterHalt u.drawFree
      ∨ settleClose u = clearForStop (stopScanning u.drawFree) := by
  unfold settleClose
  dsimp only
  rw [if_pos (by simp [held, running, stop])]
  split
  · exact .inr (carryOutStop_requested (s := u.drawFree) running stop)
  · exact .inl (haltIfHeld_of_held u.drawFree held running)

theorem settleClose_held {u : State} (held : u.fmo.halting = true) (running : u.fts.scan = .running)
    (go : u.fts.stopReq = false) : settleClose u = enterHalt u := by
  have halted := enterHalt_scan u
  unfold settleClose
  dsimp only
  rw [if_neg (by simp [go]), haltIfHeld_of_held u held running, carryOutStop_of_not]
  intro h
  simp [halted, go] at h

end Sys2Proof.Machine

namespace Sys2Proof.Proofs
open Sys2Proof.Machine

/-- Settles O28, by the scan state, the stop request and the faults of the close. -/
theorem boundaryCloses : Obligations.BoundaryCloses := by
  intro s t opensHalted
  refine ⟨exec_frameTimerExpiry, fun halted unplanned => ?halted, fun running stop harmless => ?stopped,
    fun running planned unrun unmasked halts => ?cut, fun running planned before held => ?heldAfter,
    fun running planned harmless => ?frameCut⟩
  case halted =>
    have close : closeFrame s = discardFrame (abandonBursts s) :=
      (closeFrame_unplanned unplanned).trans (carryOutStop_of_not fun h => nomatch halted.symm.trans h)
    have opens := boundary_halted (s := s) (by rw [close]; exact halted)
    rw [close] at opens
    exact opens
  case stopped =>
    obtain ⟨u, closed, stopped, -⟩ := boundary_stops running stop harmless
    have ⟨_, fts, cfe, bpl, enabled, records, wdc, ptb, lnk, _⟩ := closed.keeps
    have rest : t = _ := stopped.rest
    refine ⟨by rw [rest, fts], fun c => ?_, fun c search => ?_, by rw [rest, bpl], by rw [rest, bpl],
      by rw [rest, bpl], by rw [rest, cfe], by rw [rest, records], by rw [rest, enabled],
      by rw [rest, ptb], by rw [rest, wdc], by rw [rest, lnk], u, closed, stopped⟩
    · rw [stopped.state_eq]
      cases (u.slot c).state <;> simp [SlotState.active]
    · rw [stopped.cursors, if_neg]
      intro idle
      have state := stopped.state_eq c
      rw [search, idle] at state
      exact nomatch state
  case cut =>
    have stop : (closing s).fts.stopReq = s.fts.stopReq := congrArg Fts.stopReq (closing_keeps s).2.1
    have boundary := boundary_enterHalt (closeFrame_cut running planned unrun unmasked halts)
    rw [stop] at boundary
    exact boundary
  case heldAfter =>
    obtain ⟨u, hu⟩ : ∃ u, u = discardFrame (processClose (s.rqu.queue.contains .alert) (closing s)) :=
      ⟨_, rfl⟩
    have close : closeFrame s = settleClose u := hu ▸ closeFrame_closing s running planned before
    have processed : CloseProcessed s u := hu ▸ closeProcessed s
    have ⟨_, same⟩ := processed
    have fts : u.fts = s.fts := by rw [same]
    have halting : u.fmo.halting = true := by rw [same]; exact held
    refine ⟨u, processed, fun go => ?_, fun stop => ?_⟩
    · rw [settleClose_held halting (by rw [fts, running]) (by rw [fts, go])] at close
      have boundary := boundary_enterHalt close
      rw [fts, go] at boundary
      exact boundary
    · intro drawn
      rcases settleClose_both halting (by rw [fts, running]) (by rw [fts, stop]) with entry | entry
      · have boundary := boundary_enterHalt (close.trans entry)
        have requested : u.drawFree.fts.stopReq = true := (congrArg Fts.stopReq fts).trans stop
        rw [requested] at boundary
        exact .inl boundary
      · have stopped := stopCarriedOut drawn
        have ended := boundary_stopped (s := s) (by rw [close, entry]; exact congrArg (·.fts.scan) stopped.rest)
        refine .inr ?_
        rw [show t = clearForStop (stopScanning drawn) from ended.trans (close.trans entry)]
        exact stopped
  case frameCut =>
    have faults : t.fmo = (closedSlots s).fmo := by
      cases stop : s.fts.stopReq with
      | true =>
        obtain ⟨-, -, -, faults⟩ := boundary_stops running stop harmless
        exact faults planned
      | false =>
        obtain ⟨-, -, -, faults⟩ := boundary_goesOn running stop harmless
        exact faults planned
    rw [faults]
    exact closedSlots_frameCut s

/-- Settles O29. -/
theorem runningBoundaryOpensNext : Obligations.RunningBoundaryOpensNext := by
  intro s running stop harmless t
  obtain ⟨u, closed, opens, -⟩ := boundary_goesOn running stop harmless
  have ⟨pins, fts, cfe, bpl, enabled, records, wdc, ptb, lnk, cpr⟩ := closed.keeps
  let v : State := { u with fts := reloaded u.fts }
  have scan : v.fts.scan = .running := (congrArg Fts.scan fts).trans running
  have kept := openFrame_opensOn v scan
  have frame : FrameOpened v (openFrame v) := frameOpened v scan
  have ⟨pinsV, ftsV, ptbV, fmoV, lnkV, cprV, layoutV, fixedV, panelV, floorV, recordsV⟩ :=
    openedFrame_keeps v
  have ⟨activeV, wordV, enableV, stagedV⟩ := takeUp_takes { v with fts := { v.fts with
    frameNo := v.fts.frameNo + 1, frame := .planned, age := 0 } }
  have same : t = openFrame v := opens
  refine ⟨exec_frameTimerExpiry, ?_⟩
  rw [same]
  refine ⟨?_, kept.staged.trans stagedV, ?_, ?_, ?_, ?_, ?_, ?_, ?_, ?_, ?_,
    kept.pins.trans (pinsV.trans pins), kept.ptb.trans (ptbV.trans ptb),
    kept.lnk.trans (lnkV.trans lnk), kept.cpr.trans (cprV.trans cpr), u, closed, ?_, ?_, ?_, rfl, frame⟩
  · rw [kept.fts, ftsV, ← fts]
  · refine (kept.active.trans activeV).trans ?_
    show u.bpl.staged.scan.getD u.bpl.active = _
    rw [bpl]
  · refine (kept.wdc.trans wordV).trans ?_
    show u.bpl.staged.word.getD u.wdc = _
    rw [bpl, wdc]
  · refine ((congrArg Ptr.enabled kept.ptr).trans enableV).trans ?_
    show u.bpl.staged.enable.getD u.ptr.enabled = _
    rw [bpl, enabled]
  · rw [frame.budget, ← fts]
  · exact (congrArg Ptr.records kept.ptr).trans (recordsV.trans records)
  · exact kept.layout.trans (layoutV.trans (by rw [show v.cfe = _ from cfe]))
  · exact kept.fixed.trans (fixedV.trans (by rw [show v.cfe = _ from cfe]))
  · exact kept.panel.trans (panelV.trans (by rw [show v.cfe = _ from cfe]))
  · exact kept.floor.trans (floorV.trans (by rw [show v.cfe = _ from cfe]))
  · rw [cfe]
  · rw [cfe]
  · rw [bpl]

end Sys2Proof.Proofs
end

section
/-! PROOFS. What a delivered TIP record is (O43), and the collar bit of a close (O44). -/

namespace Sys2Proof.Machine

/-! ### A hit and what it shows (R57, R60, R61) -/

/-- A main-peak search that reaches the half-threshold level (R18). -/
theorem collarPeaks_iff (s : State) (c : Channel) (k : WindowRec) (pk : Peaks) :
    collarPeaks s (s.slot c) k = some pk
      ↔ Shows s c k (fun sh => sheetGet s.cfe.threshold sh / 2) pk := by
  have levels : sheetGet (halfLevels s) = fun sh => sheetGet s.cfe.threshold sh / 2 := by
    funext sh
    cases sh <;> rfl
  exact (shows_iff s c k (halfLevels s) pk).trans (by rw [levels])

theorem classifyTip_iff {c : Channel} {w : WindowRec} {p : Option Nat} {s : State} {v : HitView} :
    classifyTip c s w p = some v ↔ s.fmo.armed.tipMiss.get c = false
      ∧ ∃ pk, Shows s c w (sheetGet s.cfe.threshold) pk
        ∧ viewHit s (s.slot c) w p pk (collarRecord c s.ptr.records) = v := by
  unfold classifyTip
  split
  next armed => simp [armed]
  next unarmed =>
    simp only [Option.map_eq_some_iff, Bool.not_eq_true] at unarmed ⊢
    simp only [unarmed, true_and]
    exact exists_congr fun pk => and_congr_left fun _ => shows_iff ..

theorem viewHit_collarPeaks (s : State) (c : Channel) (w : WindowRec) (p : Option Nat) (pk : Peaks)
    (collar : Option WindowRec) (pk' : Peaks) :
    (viewHit s (s.slot c) w p pk collar).collarPeaks = some pk'
      ↔ ∃ k, collar = some k ∧ Shows s c k (fun sh => sheetGet s.cfe.threshold sh / 2) pk' := by
  simp [viewHit, Option.bind_eq_some_iff, collarPeaks_iff]

/-- A view is that of a hit exactly where its parts are what the records show (R18, R64). -/
theorem viewHit_iff (s : State) (c : Channel) (w : WindowRec) (p : Option Nat) (v : HitView) :
    viewHit s (s.slot c) w p v.peaks (collarRecord c s.ptr.records) = v
      ↔ v.tip = w ∧ v.period = p ∧ v.collar = collarRecord c s.ptr.records
        ∧ ∀ pk, v.collarPeaks = some pk ↔ ∃ k, v.collar = some k
          ∧ Shows s c k (fun sh => sheetGet s.cfe.threshold sh / 2) pk := by
  constructor
  · intro same
    have peaks := viewHit_collarPeaks s c w p v.peaks (collarRecord c s.ptr.records)
    rw [same] at peaks
    have collar : v.collar = collarRecord c s.ptr.records := by rw [← same]; rfl
    exact ⟨by rw [← same]; rfl, by rw [← same]; rfl, collar, by rw [collar]; exact peaks⟩
  · obtain ⟨tip, peaks, period, collar, found⟩ := v
    rintro ⟨rfl, rfl, rfl, shown⟩
    refine congrArg (HitView.mk tip peaks period _) (Option.ext fun pk => ?_)
    exact (viewHit_collarPeaks s c tip period peaks _ pk).trans (shown pk).symm

theorem classifyTip_eq_some {c : Channel} {w : WindowRec} {p : Option Nat} {s : State} {v : HitView} :
    classifyTip c s w p = some v ↔ s.fmo.armed.tipMiss.get c = false
      ∧ Shows s c w (sheetGet s.cfe.threshold) v.peaks ∧ v.tip = w ∧ v.period = p
      ∧ v.collar = collarRecord c s.ptr.records
      ∧ ∀ pk, v.collarPeaks = some pk ↔ ∃ k, v.collar = some k
        ∧ Shows s c k (fun sh => sheetGet s.cfe.threshold sh / 2) pk := by
  rw [classifyTip_iff, ← viewHit_iff]
  refine and_congr_right fun _ => ⟨?_, fun ⟨shown, same⟩ => ⟨v.peaks, shown, same⟩⟩
  rintro ⟨pk, shown, rfl⟩
  exact ⟨shown, rfl⟩

/-! ### The collar bit at a close (R62, R83, R84, R168) -/

theorem closeActive_eq {s : State} {c : Channel} (h : (s.slot c).state.active = true) :
    closeSlot s c = closeActive c s := by
  unfold closeSlot
  cases state : (s.slot c).state <;> simp_all [SlotState.active]

theorem closeSlot_skipped {s : State} {c : Channel} (active : (s.slot c).state.active = true)
    (none : tipRecord c s.ptr.records = none) : closeSlot s c = s := by
  rw [closeActive_eq active, closeActive, none]

theorem handBit_armed (c : Channel) (bit : Option Bool) (s : State) :
    (handBit c bit s).1.fmo.armed = { s.fmo.armed with
      collarFlip := if (s.slot c).word.isSome = true ∧ s.fmo.armed.collarFlip.get c = true
          ∧ bit ≠ none
        then s.fmo.armed.collarFlip.set c false else s.fmo.armed.collarFlip } := by
  unfold handBit
  dsimp only
  cases (s.slot c).word with
  | none => simp
  | some u =>
    by_cases flips : s.fmo.armed.collarFlip.get c = true ∧ bit ≠ none
    · simp [flips, disarmCollarFlip, Option.isSome_iff_ne_none]
    · simp [flips, Option.isSome_iff_ne_none]

/-- A close with a TIP record consumes an armed TIP_MISS of the channel, and an armed COLLAR_FLIP
where a known bit is handed (R61, R84, R168). -/
theorem closeSlot_armed {c : Channel} {w : WindowRec} {p : Option Nat} {s : State}
    (active : (s.slot c).state.active = true) (tip : tipRecord c s.ptr.records = some (w, p)) :
    (closeSlot s c).fmo.armed = { s.fmo.armed with
      tipMiss := s.fmo.armed.tipMiss.set c false
      collarFlip := if (s.slot c).word.isSome = true ∧ s.fmo.armed.collarFlip.get c = true
          ∧ collarBit (classifyTip c s w p) ≠ none
        then s.fmo.armed.collarFlip.set c false else s.fmo.armed.collarFlip } := by
  rw [closeActive_eq active, closeActive, tip]
  dsimp only
  unfold closePen
  dsimp only
  cases classifyTip c s w p with
  | none =>
    simp only [Option.any_none, Bool.false_eq_true, if_false, closeMiss_fmo_armed,
      takeTool_fmo_armed, handBit_armed]
    rfl
  | some v =>
    simp only [closeHit_fmo_armed, takeTool_fmo_armed, handBit_armed]
    split
    · rw [recordFault_fmo_armed, recordFault_slot]
      rfl
    · rfl

/-- The bit that is handed, an armed COLLAR_FLIP inverting a known one (R84). -/
theorem flipped_eq (armed : Bool) (bit : Option Bool) : bit.map (· != armed)
    = if armed = true ∧ bit ≠ none then bit.map (!·) else bit := by
  cases armed <;> cases bit <;> simp

/-- A close leaves no sub-record, or one that its bit has entered (R83). -/
theorem closeSlot_enters {c : Channel} {w : WindowRec} {p : Option Nat} {s : State} {u x : WordRec}
    (active : (s.slot c).state.active = true) (word : (s.slot c).word = some u)
    (tip : tipRecord c s.ptr.records = some (w, p)) (after : ((closeSlot s c).slot c).word = some x) :
    x.history = (u.history ++ [HistoryEntry.mk ((collarBit (classifyTip c s w p)).map
        (· != s.fmo.armed.collarFlip.get c)) u.count]).drop (u.history.length + 1 - 16)
      ∧ x.count = (u.count + 1) % 8 := by
  obtain ⟨d, hit, miss, slot, -⟩ := closeSlot_pen c w p s tip active
  have kept : wordMark (closeSlot s c) c = none ∨ wordMark (closeSlot s c) c = wordMark d c := by
    cases view : classifyTip c s w p with
    | none =>
      rw [miss view]
      exact closeMiss_wordMark ..
    | some v =>
      rw [hit v view]
      exact closeHit_wordMark ..
  have mark : wordMark (closeSlot s c) c = some (x.history, x.count) := by simp [wordMark, after]
  have entered := decodeBit_enters s.wdc
    ((collarBit (classifyTip c s w p)).map (· != s.fmo.armed.collarFlip.get c)) u
  rcases kept with gone | kept
  · rw [mark] at gone
    cases gone
  · have decoded : wordMark d c = some ((decodeBit s.wdc ((collarBit (classifyTip c s w p)).map
        (· != s.fmo.armed.collarFlip.get c)) u).1.history, (u.count + 1) % 8) := by
      rw [wordMark, slot, word, ← entered.2]
      rfl
    rw [mark, decoded, entered.1] at kept
    obtain ⟨history, count⟩ := Prod.mk.inj (Option.some.inj kept)
    exact ⟨history, count⟩

end Sys2Proof.Machine

namespace Sys2Proof.Proofs
open Sys2Proof.Machine

/-- Settles O43. -/
theorem hitClassified : Obligations.HitClassified := by
  refine ⟨?tip, localMax_iff, fun c recs =>
    ⟨tipRecord_eq_none, fun w p => tipRecord_mem, collarRecord_eq_none, fun w => collarRecord_mem⟩⟩
  case tip =>
    intro c w p s detect half unarmed
    refine ⟨?_, fun v => classifyTip_eq_some⟩
    rw [Option.isSome_iff_exists]
    constructor
    · rintro ⟨v, hit⟩
      obtain ⟨unarmed, shown, -⟩ := classifyTip_eq_some.1 hit
      exact ⟨unarmed, v.peaks, shown⟩
    · rintro ⟨unarmed, pk, shown⟩
      exact ⟨_, classifyTip_iff.2 ⟨unarmed, pk, shown, rfl⟩⟩

/-- Settles O44. -/
theorem collarBitHanded : Obligations.CollarBitHanded := by
  intro c w p s hit bit half
  refine ⟨fun miss => ?miss, fun v isHit none => ?noCollar, fun v k isHit collar => ?collar,
    fun u active word => ?handed⟩
  case miss =>
    rw [show bit = collarBit hit from rfl, miss]
    rfl
  case noCollar =>
    obtain ⟨-, -, -, -, record, -⟩ := classifyTip_eq_some.1 isHit
    rw [show bit = collarBit hit from rfl, isHit, collarBit, record, none]
    rfl
  case collar =>
    obtain ⟨-, -, -, -, record, peaks⟩ := classifyTip_eq_some.1 isHit
    rw [collar] at record
    have known : bit = some v.collarPeaks.isSome := by
      rw [show bit = collarBit hit from rfl, isHit, collarBit, record]
      rfl
    rw [known]
    refine ⟨fun ⟨pk, shown⟩ => ?_, fun hidden => ?_⟩
    · rw [(peaks pk).2 ⟨k, record, shown⟩]
      rfl
    · cases found : v.collarPeaks with
      | none => rfl
      | some pk =>
        obtain ⟨k', same, shown⟩ := (peaks pk).1 found
        rw [record] at same
        exact absurd (Option.some.inj same ▸ shown) (hidden pk)
  case handed =>
    intro t flips handed
    refine ⟨closeSlot_skipped active, fun tip => ⟨?_, fun x after => ?_⟩⟩
    · rw [show t = closeSlot s c from rfl, closeSlot_armed active tip, word]
      simp only [Option.isSome_some, true_and]
      rfl
    · have entered := closeSlot_enters active word tip after
      rw [flipped_eq] at entered
      exact entered

end Sys2Proof.Proofs
end

section
/-! PROOFS. The Word Decoder: the alignment search (O49) and the words of an aligned sub-record (O50). -/

namespace Sys2Proof.Machine

/-! ### An offset is matched by the two newest triples (R85) -/

/-- The last two of a rising list. -/
theorem rising_ends_iff {l : List Nat} (rising : l.Pairwise (· < ·)) (i j : Nat) :
    (∃ before, l = before ++ [i, j]) ↔ i < j ∧ i ∈ l ∧ j ∈ l ∧ ∀ k ∈ l, i < k → k = j := by
  constructor
  · rintro ⟨before, rfl⟩
    obtain ⟨-, ends, below⟩ := List.pairwise_append.1 rising
    have less : i < j := by simpa using ends
    refine ⟨less, by simp, by simp, fun k mem later => ?_⟩
    rcases List.mem_append.1 mem with mem | mem
    · have := below k mem i (by simp)
      omega
    · simp only [List.mem_cons, List.not_mem_nil, or_false] at mem
      omega
  · rintro ⟨less, memI, memJ, last⟩
    obtain ⟨before, after, rfl⟩ := List.append_of_mem memI
    obtain ⟨-, ends, below⟩ := List.pairwise_append.1 rising
    obtain ⟨above, rises⟩ := List.pairwise_cons.1 ends
    have only (k : Nat) (mem : k ∈ after) : k = j := last k (by simp [mem]) (above k mem)
    refine ⟨before, ?_⟩
    cases after with
    | nil =>
      rcases List.mem_append.1 memJ with mem | mem
      · have := below j mem i (by simp)
        omega
      · have := List.mem_singleton.1 mem
        omega
    | cons a rest =>
      cases rest with
      | nil => rw [only a (by simp)]
      | cons b rest =>
        have := (List.pairwise_cons.1 rises).1 b (by simp)
        have := only a (by simp)
        have := only b (by simp)
        omega

theorem matchedAt_iff (h : List HistoryEntry) (o : Nat) :
    matchedAt h o = true ↔ ∃ before, triplesAt o h = before ++ [true, true] := by
  have ends : matchedAt h o = true ↔ ∃ rest, (triplesAt o h).reverse = true :: true :: rest := by
    unfold matchedAt
    split
    next rest same => exact ⟨fun _ => ⟨rest, same⟩, fun _ => rfl⟩
    next other =>
      refine ⟨nofun, fun ⟨rest, same⟩ => absurd same (other rest)⟩
  rw [ends]
  constructor
  · rintro ⟨rest, same⟩
    refine ⟨rest.reverse, ?_⟩
    rw [← List.reverse_reverse (triplesAt o h), same]
    simp
  · rintro ⟨before, same⟩
    exact ⟨before.reverse, by rw [same]; simp⟩

/-- The positions of the sync triples at an offset. -/
def triplePositions (o : Nat) (h : List HistoryEntry) : List Nat :=
  (List.range h.length).filter (tripleAt o h)

theorem mem_triplePositions {o : Nat} {h : List HistoryEntry} {i : Nat} :
    i ∈ triplePositions o h ↔ i + 2 < h.length ∧ (h[i]?).map (·.count) = some o := by
  simp only [triplePositions, List.mem_filter, List.mem_range, tripleAt, Bool.and_eq_true,
    decide_eq_true_eq]
  exact ⟨fun ⟨_, triple⟩ => triple, fun triple => ⟨by omega, triple⟩⟩

theorem triplePositions_rising (o : Nat) (h : List HistoryEntry) :
    (triplePositions o h).Pairwise (· < ·) := List.pairwise_lt_range.filter _

theorem readsAt_iff (h : List HistoryEntry) (i : Nat) : readsAt h i = true
    ↔ (h[i]?).map (·.bit) = some (some true) ∧ (h[i + 1]?).map (·.bit) = some (some true)
      ∧ (h[i + 2]?).map (·.bit) = some (some false) := by
  simp only [readsAt, Bool.and_eq_true, decide_eq_true_eq, and_assoc]

theorem matchedAt_positions (h : List HistoryEntry) (o : Nat) : matchedAt h o = true
    ↔ ∃ i j, (∃ before, triplePositions o h = before ++ [i, j])
      ∧ readsAt h i = true ∧ readsAt h j = true := by
  rw [matchedAt_iff, triplesAt_eq]
  constructor
  · rintro ⟨before, same⟩
    obtain ⟨l₁, l₂, split, -, lastTwo⟩ := List.map_eq_append_iff.1 same
    obtain ⟨i, rest, rfl, readsI, rest'⟩ := List.map_eq_cons_iff.1 lastTwo
    obtain ⟨j, none, rfl, readsJ, ended⟩ := List.map_eq_cons_iff.1 rest'
    obtain rfl := List.map_eq_nil_iff.1 ended
    exact ⟨i, j, ⟨l₁, split⟩, readsI, readsJ⟩
  · rintro ⟨i, j, ⟨before, split⟩, readsI, readsJ⟩
    refine ⟨before.map (readsAt h), ?_⟩
    change (triplePositions o h).map _ = _
    rw [split]
    simp [readsI, readsJ]

/-! ### The alignment search (R86, R87, R90) -/

theorem searchAlignment_keeps (ws : WordSettings) (w : WordRec) :
    (searchAlignment ws w).history = w.history ∧ (searchAlignment ws w).lost = w.lost
      ∧ (searchAlignment ws w).buttons = w.buttons := by
  unfold searchAlignment
  split
  · exact ⟨rfl, rfl, rfl⟩
  · exact ⟨rfl, rfl, rfl⟩
  · split <;> exact ⟨rfl, rfl, rfl⟩

theorem searchAlignment_nothing {ws : WordSettings} {w : WordRec} (h : matchedOffsets w.history = []) :
    searchAlignment ws w = { w with mimic := false } := by
  simp [searchAlignment, h]

theorem searchAlignment_acquires {ws : WordSettings} {w : WordRec} {o : Nat} {rest : List Nat}
    (h : matchedOffsets w.history = o :: rest) (takes : ws.strict = false ∨ rest = []) :
    searchAlignment ws w = acquire o w := by
  cases rest with
  | nil => simp [searchAlignment, h]
  | cons o' rest =>
    have lenient : ws.strict = false := takes.resolve_right nofun
    simp [searchAlignment, h, lenient]

theorem searchAlignment_mimic {ws : WordSettings} {w : WordRec} {o o' : Nat} {rest : List Nat}
    (h : matchedOffsets w.history = o :: o' :: rest) (strict : ws.strict = true) :
    searchAlignment ws w = { w with mimic := true } := by
  simp [searchAlignment, h, strict]

theorem decodeBit_unaligned {ws : WordSettings} {bit : Option Bool} {w : WordRec}
    (h : w.aligned = none) : decodeBit ws bit w = (searchAlignment ws (enterBit bit w), none) := by
  simp [decodeBit, h]

/-! ### A completed word (R88, R89) -/

theorem decodeBit_between {ws : WordSettings} {bit : Option Bool} {w : WordRec} {o : Nat}
    (h : w.aligned = some o) (other : w.count ≠ (o + 7) % 8) :
    decodeBit ws bit w = (enterBit bit w, none) := by
  simp [decodeBit, h, other]

theorem decodeBit_completes {ws : WordSettings} {bit : Option Bool} {w : WordRec} {o : Nat}
    (h : w.aligned = some o) (last : w.count = (o + 7) % 8) :
    decodeBit ws bit w = completeWord ws (enterBit bit w) := by
  simp [decodeBit, h, last]

theorem cleanWord_eq (word : List (Option Bool)) :
    cleanWord word = decide (word.take 3 = [some true, some true, some false]) := by
  rw [Bool.eq_iff_iff, decide_eq_true_eq]
  unfold cleanWord
  split
  next => simp
  next other =>
    refine ⟨nofun, fun same => ?_⟩
    refine absurd ?_ (other (word.drop 3))
    rw [← List.take_append_drop 3 word, same]
    rfl

theorem allKnown_eq_some {word : List (Option Bool)} {bits : List Bool} :
    allKnown word = some bits ↔ word = bits.map some := by
  induction word generalizing bits with
  | nil =>
    cases bits with
    | nil => simp [allKnown]
    | cons b bits => simp [allKnown]
  | cons bit word ih =>
    cases bit with
    | none =>
      cases bits with
      | nil => simp [allKnown]
      | cons b bits => simp [allKnown]
    | some known =>
      cases bits with
      | nil => simp [allKnown]
      | cons b bits =>
        simp only [allKnown, Option.map_eq_some_iff, ih, List.map_cons, List.cons.injEq,
          Option.some.injEq]
        constructor
        · rintro ⟨rest, same, rfl, rfl⟩
          exact ⟨rfl, same⟩
        · rintro ⟨rfl, same⟩
          exact ⟨bits, same, rfl, rfl⟩

/-- A word is usable exactly where it is clean, complete and all known (R88). -/
theorem usableWord_eq_some {word : List (Option Bool)} {u : Buttons} {id marker : Bool} :
    usableWord word = some ⟨u, id, marker⟩ ↔ word = [some true, some true, some false,
      some u.b1, some u.b2, some u.tail, some id, some marker] := by
  constructor
  · intro usable
    unfold usableWord at usable
    split at usable
    next clean =>
      split at usable
      next s0 s1 s2 b1 b2 tail idBit mark known =>
        obtain rfl := allKnown_eq_some.1 known
        rw [cleanWord_eq] at clean
        simp only [List.map_cons, List.map_nil, List.take_succ_cons, List.take_zero,
          decide_eq_true_eq, List.cons.injEq, Option.some.injEq, and_true] at clean
        obtain ⟨rfl, rfl, rfl⟩ := clean
        cases usable
        rfl
      next => cases usable
    next => cases usable
  · rintro rfl
    rfl

theorem usableWord_eq_none {word : List (Option Bool)} (h : ∀ (u : Buttons) (id marker : Bool),
      word ≠ [some true, some true, some false, some u.b1, some u.b2, some u.tail, some id,
        some marker]) : usableWord word = none := by
  cases found : usableWord word with
  | none => rfl
  | some u => exact absurd (usableWord_eq_some.1 found) (h u.buttons u.idBit u.marker)

/-- Of a sub-record at most its cycle and the previous cycle value have changed. -/
def CycleMoved (w t : WordRec) : Prop := t = { w with cycle := t.cycle, lastCycle := t.lastCycle }

theorem feedCycle_moved (ws : WordSettings) (u : Option UsableWord) (w : WordRec) :
    CycleMoved w (feedCycle ws u w).1 := by
  unfold feedCycle
  split
  · rfl
  · split <;> rfl
  · split
    · rfl
    · dsimp only
      split
      · unfold completeCycle
        dsimp only
        split <;> rfl
      · rfl

theorem feedCycle_restarts (ws : WordSettings) {u : UsableWord} {w : WordRec} {bits : List Bool}
    (marker : u.marker = true) (gathering : w.cycle = some bits) :
    feedCycle ws (some u) w = ({ w with cycle := some [u.idBit], lastCycle := none }, none) := by
  simp [feedCycle, marker, gathering]

theorem feedCycle_waits (ws : WordSettings) {u : UsableWord} {w : WordRec}
    (marker : u.marker = false) (idle : w.cycle = none) :
    feedCycle ws (some u) w = ({ w with lastCycle := none }, none) := by
  simp [feedCycle, marker, idle]

/-- A sub-record once its word is judged and has fed the buttons (R88, R91). -/
def judgedWord (ws : WordSettings) (u : Option UsableWord) (w : WordRec) : WordRec :=
  feedButtons ws u (judgeWord ws (newestWord w) w)

theorem judgedWord_usable (ws : WordSettings) (u : UsableWord) (w : WordRec) :
    judgedWord ws (some u) w = { w with
      errors := newest ws.window (w.errors ++ [!cleanWord (newestWord w)])
      previous := some u.buttons
      buttons := if ws.debounce = true ∧ w.previous ≠ some u.buttons then w.buttons
        else some u.buttons } := by
  simp [judgedWord, feedButtons, judgeWord]

/-- A sub-record once a completed word has fed its cycle, its alignment not yet looked at. -/
def fedWord (ws : WordSettings) (u : Option UsableWord) (w : WordRec) : WordRec × Option Nat :=
  feedCycle ws u (judgedWord ws u w)

/-- What a completed word leaves before the loss of alignment is looked at. -/
structure FedKeeps (w t : WordRec) (errors : List Bool) : Prop where
  history : t.history = w.history
  count : t.count = w.count
  mimic : t.mimic = w.mimic
  realigned : t.realigned = w.realigned
  aligned : t.aligned = w.aligned
  lost : t.lost = w.lost
  errors : t.errors = errors

theorem fedWord_keeps (ws : WordSettings) (u : Option UsableWord) (w : WordRec) :
    FedKeeps w (fedWord ws u w).1
      (newest ws.window (w.errors ++ [!cleanWord (newestWord w)])) := by
  have moved : (fedWord ws u w).1 = _ := feedCycle_moved ws u (judgedWord ws u w)
  rw [moved]
  cases u with
  | none => exact ⟨rfl, rfl, rfl, rfl, rfl, rfl, rfl⟩
  | some u => exact ⟨rfl, rfl, rfl, rfl, rfl, rfl, rfl⟩

theorem completeWord_eq (ws : WordSettings) (w : WordRec) :
    completeWord ws w
      = if 2 ≤ (newest ws.window (w.errors ++ [!cleanWord (newestWord w)])).count true
        then (loseAlignment (fedWord ws (usableWord (newestWord w)) w).1,
          (fedWord ws (usableWord (newestWord w)) w).2)
        else fedWord ws (usableWord (newestWord w)) w := by
  rw [← (fedWord_keeps ws (usableWord (newestWord w)) w).errors]
  rfl

theorem fedWord_unusable (ws : WordSettings) (w : WordRec) : fedWord ws none w = ({ w with
    errors := newest ws.window (w.errors ++ [!cleanWord (newestWord w)]), previous := none
    cycle := none, lastCycle := none }, none) := rfl

theorem fedWord_usable (ws : WordSettings) (u : UsableWord) (w : WordRec) :
    (fedWord ws (some u) w).1.previous = some u.buttons
      ∧ (fedWord ws (some u) w).1.buttons
        = if ws.debounce = true ∧ w.previous ≠ some u.buttons then w.buttons
          else some u.buttons := by
  have moved : (fedWord ws (some u) w).1 = _ := feedCycle_moved ws (some u) (judgedWord ws (some u) w)
  rw [moved, judgedWord_usable]
  exact ⟨rfl, rfl⟩

/-- The sixteenth bit of a cycle (R92, R93). -/
theorem completeCycle_eq (ws : WordSettings) (v : Nat) (w : WordRec) :
    completeCycle ws v w = ({ w with cycle := none, lastCycle := if v = 0 then none else some v },
      if v ≠ 0 ∧ (ws.debounce = false ∨ w.lastCycle = some v) then some v else none) := by
  by_cases zero : v = 0
  · subst zero
    exact completeCycle_zero ws w
  · simp [completeCycle_of_ne_zero ws w zero, zero]

end Sys2Proof.Machine

namespace Sys2Proof.Proofs
open Sys2Proof.Machine

/-- Settles O49. -/
theorem alignmentSearch : Obligations.AlignmentSearch := by
  refine ⟨fun ws bit w => ?enters, fun h o => ?matched, fun ws bit w unaligned => ?search⟩
  case enters =>
    intro all
    rw [show all.length = w.history.length + 1 by simp [all]]
    exact decodeBit_enters ws bit w
  case matched =>
    intro triple reads
    rw [matchedAt_positions]
    simp only [rising_ends_iff (triplePositions_rising o h), mem_triplePositions, readsAt_iff]
    refine exists_congr fun i => exists_congr fun j => ?_
    constructor
    · rintro ⟨⟨less, tripleI, tripleJ, last⟩, readsI, readsJ⟩
      exact ⟨less, tripleI, tripleJ, last, readsI, readsJ⟩
    · rintro ⟨less, tripleI, tripleJ, last, readsI, readsJ⟩
      exact ⟨⟨less, tripleI, tripleJ, last⟩, readsI, readsJ⟩
  case search =>
    obtain ⟨history, lost, buttons⟩ := searchAlignment_keeps ws (enterBit bit w)
    rw [decodeBit_unaligned unaligned]
    intro t matched
    have found : matched = matchedOffsets (enterBit bit w).history := by
      rw [← history]
      rfl
    rw [found]
    refine ⟨rfl, fun none => ?_, fun o rest acquires takes => ?_, fun o o' rest several strict => ?_,
      lost, buttons⟩
    · rw [show t = _ from searchAlignment_nothing none]
      exact ⟨unaligned, rfl⟩
    · rw [show t = _ from searchAlignment_acquires acquires takes]
      refine ⟨rfl, rfl, rfl, rfl, rfl, rfl, ?_⟩
      show (w.realigned || match w.lost with
        | some l => l != o
        | none => false) = _
      cases w.lost <;> rfl
    · rw [show t = _ from searchAlignment_mimic several strict]
      exact ⟨unaligned, rfl⟩

/-- Settles O50: a completed word by its usability, its cycle by the marker and the bits gathered. -/
theorem wordCompletes : Obligations.WordCompletes := by
  intro ws bit w o aligned r t entered
  have enteredEq : entered = enterBit bit w := by simp [entered, enterBit, newest]
  refine ⟨fun between => ?_, fun last => ?_⟩
  · rw [enteredEq]
    exact decodeBit_between aligned between
  · intro word clean usable errors
    have completes : r = completeWord ws entered := by
      rw [enteredEq]
      exact decodeBit_completes aligned last
    have errorsEq : newest ws.window (entered.errors ++ [!cleanWord (newestWord entered)]) = errors := by
      rw [cleanWord_eq]
      simp only [newest, List.length_append, List.length_singleton]
      rfl
    have completed : r = if 2 ≤ errors.count true
        then (loseAlignment (fedWord ws (usableWord word) entered).1,
          (fedWord ws (usableWord word) entered).2)
        else fedWord ws (usableWord word) entered := by
      rw [completes, completeWord_eq, errorsEq]
      rfl
    have fed := fedWord_keeps ws (usableWord word) entered
    rw [errorsEq] at fed
    have noUse (unusable : ∀ u id marker, ¬ usable u id marker) :
        fedWord ws (usableWord word) entered = ({ entered with
          errors := errors, previous := none, cycle := none, lastCycle := none }, none) := by
      rw [usableWord_eq_none unusable, fedWord_unusable, errorsEq]
    by_cases many : 2 ≤ errors.count true
    · rw [if_pos many] at completed
      have ended : t = loseAlignment (fedWord ws (usableWord word) entered).1 :=
        congrArg Prod.fst completed
      rw [ended]
      refine ⟨fed.history, fed.count, fed.mimic, fed.realigned,
        fun _ => ⟨rfl, fed.aligned.trans aligned, rfl, rfl, rfl, rfl, rfl⟩,
        fun few => absurd many (Nat.not_le.2 few), fun unusable => ?_⟩
      rw [completed, noUse unusable]
    · rw [if_neg many] at completed
      have goesOn : t = (fedWord ws (usableWord word) entered).1 := congrArg Prod.fst completed
      rw [goesOn, completed]
      refine ⟨fed.history, fed.count, fed.mimic, fed.realigned, fun some => absurd some many,
        fun _ => ⟨fed.aligned.trans aligned, fed.lost, fed.errors, fun u id marker use => ?_,
          fun unusable => ?_⟩, fun unusable => ?_⟩
      · rw [usableWord_eq_some.2 use]
        let read : UsableWord := ⟨u, id, marker⟩
        have feeds : fedWord ws (some read) entered
            = feedCycle ws (some read) (judgedWord ws (some read) entered) := rfl
        have cycle : (judgedWord ws (some read) entered).cycle = w.cycle := rfl
        obtain ⟨previous, buttons⟩ := fedWord_usable ws read entered
        refine ⟨previous, buttons, fun marked => ?_, fun unmarked idle => ?_,
          fun bits unmarked gathered short => ?_, fun bits unmarked gathered full => ?_⟩
        · cases gathering : w.cycle with
          | none =>
            rw [feeds, feedCycle_starts (u := read) ws marked (cycle.trans gathering)]
            exact ⟨rfl, rfl, rfl⟩
          | some bits =>
            rw [feeds, feedCycle_restarts (u := read) ws marked (cycle.trans gathering)]
            exact ⟨rfl, rfl, rfl⟩
        · rw [feeds, feedCycle_waits (u := read) ws unmarked (cycle.trans idle)]
          exact ⟨idle, rfl, rfl⟩
        · rw [feeds, feedCycle_joins (u := read) ws unmarked (cycle.trans gathered) short]
          exact ⟨rfl, rfl, rfl⟩
        · intro value
          rw [feeds, feedCycle_completes (u := read) ws unmarked (cycle.trans gathered) full,
            completeCycle_eq]
          exact ⟨rfl, rfl, rfl⟩
      · rw [noUse unusable]
        exact ⟨rfl, rfl, rfl, rfl⟩
      · rw [noUse unusable]

end Sys2Proof.Proofs
end

section
/-! PROOFS. The tilt of a sample (O54). -/

namespace Sys2Proof.Machine

/-! ### The integer square root (R114) -/

theorem sqrtBits_spec (n b r : Nat) (low : r * r ≤ n) (high : n < (r + 2 ^ b) * (r + 2 ^ b)) :
    sqrtBits n b r * sqrtBits n b r ≤ n
      ∧ n < (sqrtBits n b r + 1) * (sqrtBits n b r + 1) := by
  induction b generalizing r with
  | zero => exact ⟨low, high⟩
  | succ b ih =>
    unfold sqrtBits
    split
    next fits =>
      refine ih (r + 2 ^ b) fits ?_
      rwa [show r + 2 ^ b + 2 ^ b = r + 2 ^ (b + 1) by rw [Nat.pow_succ]; omega]
    next exceeds => exact ih r low (Nat.lt_of_not_le exceeds)

theorem isqrt_spec (n : Nat) : isqrt n * isqrt n ≤ n ∧ n < (isqrt n + 1) * (isqrt n + 1) := by
  refine sqrtBits_spec n _ 0 (Nat.zero_le n) ?_
  rw [Nat.zero_add, ← Nat.pow_add]
  exact Nat.lt_of_lt_of_le Nat.lt_log2_self (Nat.pow_le_pow_right (by decide) (by omega))

/-! ### The table of tangents (R115) -/

theorem tableAngle_le (q k : Nat) (l : List Nat) (short : k + l.length ≤ 13) :
    tableAngle q l k ≤ 600 := by
  induction l generalizing k with
  | nil => exact Nat.le_refl 600
  | cons a l ih =>
    cases l with
    | nil => exact Nat.le_refl 600
    | cons b rest =>
      unfold tableAngle
      simp only [List.length_cons] at short ih
      split
      next below =>
        have part : 50 * (q - a) / (b - a) ≤ 50 :=
          Nat.div_le_of_le_mul (by rw [Nat.mul_comm]; exact Nat.mul_le_mul_right 50 (by omega))
        omega
      next => exact ih (k + 1) (by omega)

/-- The magnitude that a rising table gives a quotient between two of its entries. -/
theorem tableAngle_between {q : Nat} {l : List Nat} (rising : l.Pairwise (· ≤ ·)) {k : Nat}
    (inside : k + 1 < l.length) (low : l.getD k 0 ≤ q) (high : q < l.getD (k + 1) 0) (first : Nat) :
    tableAngle q l first = 50 * (first + k)
      + 50 * (q - l.getD k 0) / (l.getD (k + 1) 0 - l.getD k 0) := by
  induction k generalizing l first with
  | zero =>
    match l, inside with
    | a :: b :: rest, _ =>
      have below : q < b := high
      simp [tableAngle, below]
  | succ k ih =>
    match l, inside with
    | a :: b :: rest, inside =>
      obtain ⟨-, rises⟩ := List.pairwise_cons.1 rising
      have entry : (b :: rest).getD k 0 ∈ b :: rest := by
        rw [List.getD_eq_getElem _ 0 (by simpa using Nat.lt_of_succ_lt inside)]
        exact List.getElem_mem _
      have least : b ≤ (b :: rest).getD k 0 := by
        rcases List.mem_cons.1 entry with same | mem
        · exact Nat.le_of_eq same.symm
        · exact (List.pairwise_cons.1 rises).1 _ mem
      have past : ¬ q < b := Nat.not_lt.2 (least.trans low)
      have rest := ih rises (by simpa using inside) low high (first + 1)
      rw [tableAngle, if_neg past, rest]
      simp only [List.getD_cons_succ]
      omega

theorem tangents_rise : tangents.Pairwise (· ≤ ·) := by decide

theorem tangents_le {k : Nat} (h : k < 13) : tangents.getD k 0 ≤ 443 := by
  revert k
  decide

/-! ### A tilt's components (R114, R115) -/

theorem tiltQuotient_le (d : Int) (z : Nat) : tiltQuotient d z ≤ 443 := Nat.min_le_left ..

/-- The magnitude of a tilt component. -/
def tiltMagnitude (q : Nat) : Nat := if q < 443 then tableAngle q tangents 0 else 600

theorem tiltComponent_eq (d : Int) (z : Nat) : tiltComponent d z
    = if d < 0 then -(tiltMagnitude (tiltQuotient d z) : Int) else tiltMagnitude (tiltQuotient d z) := by
  unfold tiltComponent tiltMagnitude
  dsimp only
  by_cases inTable : tiltQuotient d z < 443
  · rw [if_pos inTable, if_pos inTable]
  · rw [if_neg inTable, if_neg inTable]
    rfl

theorem tiltComponent_natAbs (d : Int) (z : Nat) :
    (tiltComponent d z).natAbs = tiltMagnitude (tiltQuotient d z) := by
  rw [tiltComponent_eq]
  split <;> simp

theorem tiltMagnitude_le (q : Nat) : tiltMagnitude q ≤ 600 := by
  unfold tiltMagnitude
  split
  · exact tableAngle_le q 0 tangents (by decide)
  · exact Nat.le_refl 600

theorem tiltMagnitude_between {q k : Nat} (inside : k < 12) (low : tangents.getD k 0 ≤ q)
    (high : q < tangents.getD (k + 1) 0) : tiltMagnitude q
      = 50 * k + 50 * (q - tangents.getD k 0) / (tangents.getD (k + 1) 0 - tangents.getD k 0) := by
  have inTable : q < 443 := Nat.lt_of_lt_of_le high (tangents_le (by omega))
  have size : tangents.length = 13 := rfl
  rw [tiltMagnitude, if_pos inTable,
    tableAngle_between tangents_rise (by omega) low high, Nat.zero_add]

theorem tiltComponent_sign (d : Int) (z : Nat) :
    (0 ≤ d → 0 ≤ tiltComponent d z) ∧ (d ≤ 0 → tiltComponent d z ≤ 0) := by
  rw [tiltComponent_eq]
  refine ⟨fun positive => ?_, fun negative => ?_⟩
  · rw [if_neg (by omega)]
    exact Int.natCast_nonneg _
  · split
    · omega
    · obtain rfl : d = 0 := by omega
      have zero : tiltQuotient 0 z = 0 := by simp [tiltQuotient]
      rw [zero]
      decide

theorem tiltQuotient_saturates (d : Int) (z : Nat) :
    tiltQuotient d z = 443 ↔ 443 ≤ d.natAbs * 256 / z := by
  unfold tiltQuotient
  omega

theorem tiltOf_saturated (h : Nat) (dx dy : Int) : (tiltOf h dx dy).2 = true
    ↔ collarZ h dx dy < h / 2 ∨ tiltQuotient dx (max (collarZ h dx dy) (h / 2)) = 443
      ∨ tiltQuotient dy (max (collarZ h dx dy) (h / 2)) = 443 := by
  simp [tiltOf, or_assoc]

/-! ### The tilt that a sample carries (R113, R115, R116) -/

theorem sampleTilt_off {layout : Layout} {panel : Panel} {pr : Profile} {sl : Slot} {v : HitView}
    {raw : Int × Int} (h : pr.tilt = false) :
    sampleTilt layout panel pr sl v raw = (none, false, false) := by
  simp [sampleTilt, h]

theorem sampleTilt_held {layout : Layout} {panel : Panel} {pr : Profile} {sl : Slot} {v : HitView}
    {raw : Int × Int} (h : pr.tilt = true) (absent : v.collar = none ∨ v.collarPeaks = none) :
    sampleTilt layout panel pr sl v raw = (sl.heldTilt, sl.heldTilt.isSome, false) := by
  unfold sampleTilt
  rw [if_pos h]
  split
  next collar peaks => simp [collar, peaks] at absent
  next => rfl

theorem sampleTilt_computed {layout : Layout} {panel : Panel} {pr : Profile} {sl : Slot}
    {v : HitView} {raw : Int × Int} {k : WindowRec} {pk : Peaks} (h : pr.tilt = true)
    (collar : v.collar = some k) (peaks : v.collarPeaks = some pk) :
    sampleTilt layout panel pr sl v raw
      = (some (tiltOf pr.height ((rawPosition layout panel k pk).1 - raw.1)
          ((rawPosition layout panel k pk).2 - raw.2)).1, false,
        (tiltOf pr.height ((rawPosition layout panel k pk).1 - raw.1)
          ((rawPosition layout panel k pk).2 - raw.2)).2) := by
  simp [sampleTilt, h, collar, peaks]

theorem sampleUnsynced_eq (v : HitView) :
    sampleUnsynced v = (v.tip.unsynced || v.collar.any (·.unsynced)) := by
  unfold sampleUnsynced
  cases v.collar <;> rfl

end Sys2Proof.Machine

namespace Sys2Proof.Proofs
open Sys2Proof.Machine

/-- Settles O54. -/
theorem tiltWithinBounds : Obligations.TiltWithinBounds := by
  refine ⟨isqrt_spec, ?components, ?sample⟩
  case components =>
    intro h dx dy _ _ t z
    refine ⟨?_, ?_, (tiltComponent_sign dx z).1, (tiltComponent_sign dx z).2,
      (tiltComponent_sign dy z).1, (tiltComponent_sign dy z).2, ?_, ?_⟩
    · exact (tiltComponent_natAbs dx z).trans_le (tiltMagnitude_le _)
    · exact (tiltComponent_natAbs dy z).trans_le (tiltMagnitude_le _)
    · rw [← tiltQuotient_saturates, ← tiltQuotient_saturates]
      exact tiltOf_saturated h dx dy
    · intro table converts
      have converted (d : Int) : converts d (tiltComponent d z) := by
        have size := tiltComponent_natAbs d z
        refine ⟨fun saturated => size.trans ?_,
          fun k inside low high => size.trans (tiltMagnitude_between inside low high)⟩
        rw [show tiltQuotient d z = 443 from saturated]
        rfl
      exact ⟨converted dx, converted dy⟩
  case sample =>
    intro c v s sl pr sm after raw
    have slot : after = holdSample pr sl v sm := by
      simp only [after, sampleSlot_slot, if_true]
      rfl
    refine ⟨sampleUnsynced_eq v, by rw [slot]; rfl, fun off => ?_, fun on absent => ?_,
      fun k pk on collar peaks => ?_⟩
    · have tilt : sampleTilt s.cfe.layout s.cfe.panel pr sl v raw = _ := sampleTilt_off off
      exact ⟨congrArg (·.1) tilt, congrArg (·.2.1) tilt, congrArg (·.2.2) tilt⟩
    · have tilt : sampleTilt s.cfe.layout s.cfe.panel pr sl v raw = _ := sampleTilt_held on absent
      exact ⟨congrArg (·.1) tilt, congrArg (·.2.1) tilt, congrArg (·.2.2) tilt⟩
    · have tilt : sampleTilt s.cfe.layout s.cfe.panel pr sl v raw = _ :=
        sampleTilt_computed on collar peaks
      exact ⟨congrArg (·.1) tilt, congrArg (·.2.1) tilt, congrArg (·.2.2) tilt⟩

end Sys2Proof.Proofs
end

section
/-! PROOFS. The close of a slot in TRACK: misses (O47), and the twins and tool IDs of a close (O46). -/

namespace Sys2Proof.Machine

/-! ### What becomes of a slot in TRACK (R67 to R70) -/

/-- A slot in TRACK with a close's outcomes entered. -/
def enteredSlot (n : Nat) (r : Resolution) (sl : Slot) : Slot :=
  { sl with misses := enterOutcomes n r.entries sl.misses, pendingRel := r.pendingRel }

theorem lostBy_iff {limit : Nat} {entries misses : List Bool} (some : entries ≠ []) :
    lostBy limit entries misses = true ↔ limit ≤ misses.count true := by
  simp [lostBy, some]

theorem enterOutcomes_eq {n : Nat} {entries misses : List Bool} (some : entries ≠ []) :
    enterOutcomes n entries misses
      = (misses ++ entries).drop (misses.length + entries.length - n) := by
  simp [enterOutcomes, some, newest]

section
variable {s : State} {c : Channel} {sm : Option Sample} {twin due : Bool} {r : Resolution}
  (resolved : resolve s.bpl.active.jump s.fts.frameNo ((s.slot c).lastX, (s.slot c).lastY)
    (s.slot c).pendingRel (sm.map fun m => (m.rawX, m.rawY)) = r)
include resolved

/-- A slot that the loss test loses ends its proximity (R68, R71). -/
theorem closeTrack_ends (lost : lostBy s.bpl.active.missLimit r.entries
      (enterOutcomes s.bpl.active.missWindow r.entries (s.slot c).misses) = true) :
    closeTrack c sm twin due s
      = endProximity c .search (s.setSlot c (enteredSlot s.bpl.active.missWindow r (s.slot c))) := by
  unfold closeTrack
  dsimp only
  rw [resolved, if_pos lost]
  rfl

/-- A slot that is kept hands a due TOOL, and the MOTION of a hit that is reported (R67, R72). -/
theorem closeTrack_goesOn (kept : lostBy s.bpl.active.missLimit r.entries
      (enterOutcomes s.bpl.active.missWindow r.entries (s.slot c).misses) = false) :
    closeTrack c sm twin due s
      = match sm, r.report with
        | some m, some relocated => reportSample c m twin relocated (handDueTool due c
            (s.setSlot c (enteredSlot s.bpl.active.missWindow r (s.slot c))))
        | _, _ => handDueTool due c
            (s.setSlot c (enteredSlot s.bpl.active.missWindow r (s.slot c))) := by
  unfold closeTrack
  dsimp only
  rw [resolved, if_neg (by simp [kept])]
  cases sm with
  | none => rfl
  | some m => cases r.report <;> rfl

end

theorem handDueTool_false (c : Channel) (s : State) : handDueTool false c s = s := by
  unfold handDueTool
  split
  next isDue _ => cases isDue
  next => rfl

/-! ### The records that a slot's steps 4 and 5 leave (R138, R154) -/

theorem handMotion_rec (m : Motion) (s : State) {f : FaultId} (other : f ≠ .queueDrop) :
    (handMotion m s).fmo.recs.get f = s.fmo.recs.get f := by
  unfold handMotion
  dsimp only
  split
  · simp [other]
  · rfl

theorem reportSample_rec (c : Channel) (sm : Sample) (twin relocated : Bool) (s : State) {f : FaultId}
    (other : f ≠ .queueDrop) :
    (reportSample c sm twin relocated s).fmo.recs.get f = s.fmo.recs.get f :=
  handMotion_rec _ _ other

theorem closeTrack_rec (c : Channel) (sm : Option Sample) (twin due : Bool) (s : State) {f : FaultId}
    (other : f ≠ .queueDrop) : (closeTrack c sm twin due s).fmo.recs.get f = s.fmo.recs.get f := by
  unfold closeTrack
  dsimp only
  split
  · rw [endProximity_fmo]
    rfl
  · split
    · rw [reportSample_rec _ _ _ _ _ other, handDueTool_fmo]
      rfl
    · rw [handDueTool_fmo]
      rfl

theorem closeConfirm_rec (c : Channel) (v : HitView) (twin due : Bool) (s : State) {f : FaultId}
    (other : f ≠ .queueDrop) : (closeConfirm c v twin due s).fmo.recs.get f = s.fmo.recs.get f := by
  unfold closeConfirm
  dsimp only
  split
  · split
    · unfold enterTrack
      dsimp only
      rw [reportSample_rec _ _ _ _ _ other, handDueTool_fmo]
      rfl
    · rfl
  · rfl

theorem closeHit_rec (c : Channel) (v : HitView) (twin due : Bool) (s : State) {f : FaultId}
    (other : f ≠ .queueDrop) : (closeHit c v twin due s).fmo.recs.get f = s.fmo.recs.get f := by
  unfold closeHit
  dsimp only
  split
  · rw [closeTrack_rec _ _ _ _ _ other]
    rfl
  · rw [closeConfirm_rec _ _ _ _ _ other]
    rfl
  · rfl

theorem closeMiss_rec (c : Channel) (due : Bool) (s : State) {f : FaultId}
    (other : f ≠ .queueDrop) : (closeMiss c due s).fmo.recs.get f = s.fmo.recs.get f := by
  unfold closeMiss
  split
  · exact closeTrack_rec _ _ _ _ _ other
  · rfl
  · rfl

/-! ### A hit of a slot in TRACK -/

/-- The state in which a hit's full sample is computed (R60, R64). -/
def hitState (c : Channel) (v : HitView) (s : State) : State :=
  s.setSlot c (recentre v.peaks (s.slot c))

theorem closeHit_track {s : State} {c : Channel} (h : (s.slot c).state = .track) (v : HitView)
    (twin due : Bool) : closeHit c v twin due s
      = closeTrack c (some (sampleSlot c v (hitState c v s)).2) twin due
          (sampleSlot c v (hitState c v s)).1 := by
  have state : ((s.setSlot c (recentre v.peaks (s.slot c))).slot c).state = .track := by
    rw [State.slot_setSlot, if_pos rfl]
    exact h
  unfold closeHit
  dsimp only
  rw [state]
  rfl

theorem closeHit_confirm {s : State} {c : Channel} (h : (s.slot c).state = .confirm) (v : HitView)
    (twin due : Bool) :
    closeHit c v twin due s = closeConfirm c v twin due (hitState c v s) := by
  have state : ((s.setSlot c (recentre v.peaks (s.slot c))).slot c).state = .confirm := by
    rw [State.slot_setSlot, if_pos rfl]
    exact h
  unfold closeHit
  dsimp only
  rw [state]
  rfl

/-- The slot of a hit once its full sample has been computed: the window centre at the main peaks, the
held state that of the sample (R60, R64). -/
theorem sampled_slot (c : Channel) (v : HitView) (s : State) :
    (sampleSlot c v (hitState c v s)).1.slot c = { s.slot c with
      centreX := v.peaks.coilX, centreY := v.peaks.coilY
      tip := (sampleSlot c v (hitState c v s)).2.tip
      heldPressure := if v.period.isSome
        then some (sampleOut (slotProfile s c) (s.slot c) v.period) else (s.slot c).heldPressure
      heldTilt := (sampleSlot c v (hitState c v s)).2.tilt } := by
  have centred : (hitState c v s).slot c = recentre v.peaks (s.slot c) := by simp [hitState]
  have profile : slotProfile (hitState c v s) c = slotProfile s c := by
    rw [slotProfile, centred]
    rfl
  rw [sampleSlot_slot, if_pos rfl, profile, centred]
  rfl

/-- Where a due TOOL is handed, it is that of the slot's tool ID and bound record (R72). -/
theorem handDueTool_true {c : Channel} {s : State} {id : Nat} (h : (s.slot c).toolId = some id) :
    (handDueTool true c s).rqu = s.rqu.handTool c id (s.slot c).bound := by
  unfold handDueTool
  rw [h]
  rfl

theorem closeMiss_track {s : State} {c : Channel} (h : (s.slot c).state = .track) (due : Bool) :
    closeMiss c due s = closeTrack c none false due s := by
  simp [closeMiss, h]

theorem closeMiss_confirm {s : State} {c : Channel} (h : (s.slot c).state = .confirm) (due : Bool) :
    closeMiss c due s = s.setSlot c (dropConfirm (s.slot c)) := by
  simp [closeMiss, h]

/-! ### The entries that are no MOTION (R137) -/

theorem mergeNewest_others {m : Motion} {gap : Bool} {l q : List Entry}
    (merged : mergeNewest m gap l = some q) :
    q.filter (!·.isMotion) = l.filter (!·.isMotion) := by
  induction l generalizing q with
  | nil => exact nomatch merged
  | cons e l ih =>
    by_cases own : e.channel = some m.ch
    · cases e with
      | motion held =>
        rw [mergeNewest_motion (Option.some_inj.mp own)] at merged
        obtain ⟨-, same⟩ := Option.ite_none_right_eq_some.mp merged
        rw [← Option.some_inj.mp same]
        rfl
      | _ => exact absurd ((mergeNewest_notice own rfl l).symm.trans merged) nofun
    · rw [mergeNewest_cons own] at merged
      obtain ⟨later, found, rfl⟩ := Option.map_eq_some_iff.mp merged
      rw [List.filter_cons, List.filter_cons, ih found]

/-- A MOTION handed leaves the other entries of the queue. -/
theorem Rqu.handMotion_others (r : Rqu) (m : Motion) :
    (r.handMotion m).1.queue.filter (!·.isMotion) = r.queue.filter (!·.isMotion) := by
  by_cases room : motionCount r.queue < Config.motionLimit
  · rw [handMotion_below r m room]
    simp [Entry.isMotion]
  · have full := Nat.not_lt.mp room
    cases merged : mergeNewest m (r.gap.get m.ch) r.queue.reverse with
    | none => rw [Rqu.handMotion_dropped full merged]
    | some q =>
      rw [Rqu.handMotion_merged full merged]
      show q.reverse.filter _ = _
      rw [List.filter_reverse, mergeNewest_others merged, List.filter_reverse, List.reverse_reverse]

theorem Rqu.mem_handMotion {r : Rqu} {e : Entry} (m : Motion) (notice : e.isMotion = false)
    (mem : e ∈ r.queue) : e ∈ (r.handMotion m).1.queue := by
  have kept : e ∈ r.queue.filter (!·.isMotion) := List.mem_filter.2 ⟨mem, by simp [notice]⟩
  rw [← Rqu.handMotion_others r m] at kept
  exact (List.mem_filter.1 kept).1

theorem filter_tools_of_others (c : Channel) (q : List Entry) :
    (q.filter (!·.isMotion)).filter (Entry.isToolOf c) = q.filter (Entry.isToolOf c) := by
  rw [List.filter_filter]
  refine List.filter_congr fun e _ => ?_
  cases tool : e.isToolOf c with
  | false => rfl
  | true => simp [Entry.isToolOf_not_motion c e tool]

theorem Rqu.handMotion_tools (r : Rqu) (m : Motion) (c : Channel) :
    (r.handMotion m).1.queue.filter (Entry.isToolOf c) = r.queue.filter (Entry.isToolOf c) := by
  rw [← filter_tools_of_others, Rqu.handMotion_others, filter_tools_of_others]

theorem Rqu.handAlert_tools (r : Rqu) (c : Channel) :
    r.handAlert.queue.filter (Entry.isToolOf c) = r.queue.filter (Entry.isToolOf c) := by
  unfold Rqu.handAlert
  split
  · rfl
  · simp [Entry.isToolOf]

theorem reportSample_tools (c : Channel) (sm : Sample) (twin relocated : Bool) (s : State) :
    (reportSample c sm twin relocated s).rqu.queue.filter (Entry.isToolOf c)
      = s.rqu.queue.filter (Entry.isToolOf c) := by
  rw [(reportSample_rqu c sm twin relocated s).1]
  split
  · rw [Rqu.handAlert_tools, Rqu.handMotion_tools]
  · rw [Rqu.handMotion_tools]

/-- Where a slot stays in TRACK, its TOOLs are those that its due TOOL leaves (R72). -/
theorem closeTrack_tools {c : Channel} {sm : Option Sample} {twin due : Bool} {s : State}
    (stays : ((closeTrack c sm twin due s).slot c).state = .track) :
    (closeTrack c sm twin due s).rqu.queue.filter (Entry.isToolOf c)
      = (handDueTool due c s).rqu.queue.filter (Entry.isToolOf c) := by
  have toolSame (n : Nat) (r : Resolution) :
      (handDueTool due c (s.setSlot c (enteredSlot n r (s.slot c)))).rqu = (handDueTool due c s).rqu := by
    unfold handDueTool
    simp only [State.slot_setSlot, if_true, enteredSlot]
    split <;> rfl
  cases lost : lostBy s.bpl.active.missLimit _ (enterOutcomes s.bpl.active.missWindow _ (s.slot c).misses) with
  | true =>
    rw [closeTrack_ends rfl lost] at stays
    simp [endedSlot] at stays
  | false =>
    rw [closeTrack_goesOn rfl lost]
    split
    · rw [reportSample_tools, toolSame]
    · rw [toolSame]

/-- What a slot in TRACK keeps of its tool ID and its bound record, where it is not lost. -/
theorem closeTrack_bound {c : Channel} {sm : Option Sample} {twin due : Bool} {s : State}
    (stays : ((closeTrack c sm twin due s).slot c).state = .track) :
    ((closeTrack c sm twin due s).slot c).toolId = (s.slot c).toolId
      ∧ ((closeTrack c sm twin due s).slot c).bound = (s.slot c).bound := by
  cases lost : lostBy s.bpl.active.missLimit _ (enterOutcomes s.bpl.active.missWindow _ (s.slot c).misses) with
  | true =>
    rw [closeTrack_ends rfl lost] at stays
    simp [endedSlot] at stays
  | false =>
    rw [closeTrack_goesOn rfl lost]
    split
    · simp [reportedSlot, enteredSlot]
    · simp [enteredSlot]

/-! ### A miss at a close (R61, R68) -/

theorem resolve_miss (jump : Nat) (frame : Half) (last : Int × Int) (p : Option Relocation) :
    resolve jump frame last p none = ⟨if p.isSome then [true, true] else [true], none, none⟩ := by
  cases p <;> rfl

theorem validated_of_unknown (ws : WordSettings) (word : Option WordRec) :
    (word.bind fun u => (decodeBit ws none u).2) = none := by
  cases word with
  | none => rfl
  | some u => exact decodeBit_unknown ws u

/-- A miss validates no tool ID and holds no twin, so it moves the decoder's sub-record alone before
it is resolved (R61, R62). -/
theorem closeSlot_missed {c : Channel} {w : WindowRec} {p : Option Nat} {s : State}
    (active : (s.slot c).state.active = true) (tip : tipRecord c s.ptr.records = some (w, p))
    (miss : classifyTip c s w p = none) :
    ∃ d, closeSlot s c = closeMiss c false d
      ∧ d.slot c = { s.slot c with
          word := (s.slot c).word.map fun u => (decodeBit s.wdc none u).1 }
      ∧ d.rqu = s.rqu ∧ d.fmo.recs = s.fmo.recs ∧ d.bpl = s.bpl ∧ d.fts = s.fts := by
  obtain ⟨d, -, missed, slot, rqu, recs, -, -, fts, bpl, -⟩ := closeSlot_pen c w p s tip active
  have closes := missed miss
  simp only [miss, collarBit, Option.map_none, validated_of_unknown, Option.filter_none,
    Option.isSome_none, Option.none_or, Bool.false_eq_true, if_false, Option.any_none, false_and,
    and_false, or_self] at closes slot rqu recs
  exact ⟨d, closes, slot, rqu, PerFault.ext_get recs, bpl, fts⟩

/-! ### Twins (R58) -/

theorem hasTwin_iff (threshold : Nat) (a : List Nat) (k : Nat) : hasTwin threshold a k = true
    ↔ ∃ j, j < 9 ∧ localMax a j = true ∧ (j + 3 ≤ k ∨ k + 3 ≤ j)
      ∧ threshold ≤ a.getD j 0 ∧ a.getD k 0 / 2 ≤ a.getD j 0 := by
  unfold hasTwin localMaxima
  rw [List.any_eq_true]
  refine exists_congr fun j => ?_
  have apart : 3 ≤ coilDist j k ↔ j + 3 ≤ k ∨ k + 3 ≤ j := by
    unfold coilDist
    omega
  simp only [List.mem_filter, List.mem_range, Bool.and_eq_true, decide_eq_true_eq, apart,
    Nat.max_le, and_assoc]
  rfl

/-! ### A tool ID that is new to its slot (R63, R94) -/

theorem toolMissed_iff (t : Ptb) (new : Option Nat) : (new.isSome = true ∧ boundOf t new = none)
    ↔ ∃ id, new = some id ∧ toolRecord t id = none := by
  cases new with
  | none => simp
  | some id =>
    rw [boundOf_some]
    cases held : toolRecord t id <;> simp [held]

end Sys2Proof.Machine

namespace Sys2Proof.Proofs
open Sys2Proof.Machine

/-- Settles O47. -/
theorem missesResolve : Obligations.MissesResolve := by
  refine ⟨fun c s active undelivered => ?skipped, fun c w p s track tip miss => ?track,
    fun c w p s confirm tip miss => ?confirm, fun c w p s active tip => ?injected⟩
  case skipped => exact closeSlot_skipped active (tipRecord_eq_none.2 undelivered)
  case track =>
    intro t all misses
    obtain ⟨d, closes, slot, rqu, recs, bpl, fts⟩ :=
      closeSlot_missed (by rw [track]; rfl) tip miss
    rw [closeMiss_track (by rw [slot]; exact track)] at closes
    have same : t = closeTrack c none false false d := closes
    let entries : List Bool := if (s.slot c).pendingRel.isSome then [true, true] else [true]
    have some : entries ≠ [] := by
      simp only [entries]
      split <;> nofun
    have resolved : resolve d.bpl.active.jump d.fts.frameNo ((d.slot c).lastX, (d.slot c).lastY)
        (d.slot c).pendingRel ((none : Option Sample).map fun m => (m.rawX, m.rawY))
        = ⟨entries, none, none⟩ := by
      rw [slot]
      exact resolve_miss ..
    have window : enterOutcomes d.bpl.active.missWindow entries (d.slot c).misses = misses := by
      rw [enterOutcomes_eq some, slot, bpl, ← List.length_append]
    by_cases lost : s.bpl.active.missLimit ≤ misses.count true
    · have ends := closeTrack_ends (twin := false) (due := false) resolved
        (by rw [window, bpl]; exact (lostBy_iff some).2 lost)
      rw [same, ends]
      have queue : (endProximity c .search (d.setSlot c (enteredSlot d.bpl.active.missWindow
          ⟨entries, none, none⟩ (d.slot c)))).rqu
          = if (s.slot c).prox then s.rqu.handOut c else s.rqu := by
        rw [endProximity_rqu, State.slot_setSlot, if_pos rfl, State.setSlot_rqu, rqu, slot]
        rfl
      refine ⟨fun _ => ⟨?_, ?_, ?_, ?_, ?_, queue⟩, fun few => absurd lost (Nat.not_le.2 few),
        by rw [endProximity_fmo]; exact recs, ?_, ?_, ?_, ?_, ?_, ?_, fun e other => ?_⟩
      · simp [endedSlot]
      · simp [endedSlot]
      · simp [endedSlot]
      · simp [endedSlot]
      · simp [endedSlot]
      · simp [endedSlot]
      · simp [endedSlot, enteredSlot, slot]
      · simp [endedSlot, enteredSlot, slot]
      · simp [endedSlot, enteredSlot, slot]
      · simp [endedSlot, enteredSlot, slot]
      · rw [queue]
        split
        · exact Rqu.handOut_motionCount ..
        · exact Nat.le_refl _
      · rw [← ends, ← closes]
        exact closeSlot_other c e s other
    · have kept : t = d.setSlot c (enteredSlot d.bpl.active.missWindow ⟨entries, none, none⟩
          (d.slot c)) := by
        have goesOn := closeTrack_goesOn (twin := false) (due := false) resolved
          (by
            rw [window, bpl]
            exact Bool.eq_false_iff.2 fun held => lost ((lostBy_iff some).1 held))
        rw [same, goesOn]
        exact handDueTool_false c _
      have others (e : Channel) (other : e ≠ c) : t.slot e = s.slot e := closeSlot_other c e s other
      have entered : t.slot c = enteredSlot d.bpl.active.missWindow ⟨entries, none, none⟩ (d.slot c) := by
        rw [kept, State.slot_setSlot, if_pos rfl]
      have queue : t.rqu = s.rqu := by rw [kept]; exact rqu
      have faults : t.fmo.recs = s.fmo.recs := by rw [kept]; exact recs
      rw [entered, queue, faults]
      refine ⟨fun many => absurd many lost, fun _ => ⟨?_, window, ?_, rfl⟩, rfl, rfl, ?_, ?_, ?_, ?_,
        Nat.le_refl _, others⟩
      · simp [enteredSlot, slot, track]
      · simp [enteredSlot, slot]
      · simp [enteredSlot, slot]
      · simp [enteredSlot, slot]
      · simp [enteredSlot, slot]
      · simp [enteredSlot, slot]
  case confirm =>
    intro t
    obtain ⟨d, closes, slot, rqu, recs, -⟩ := closeSlot_missed (by rw [confirm]; rfl) tip miss
    rw [closeMiss_confirm (by rw [slot]; exact confirm)] at closes
    have dropped : t.slot c = dropConfirm (d.slot c) := by
      rw [show t = _ from closes, State.slot_setSlot, if_pos rfl]
    have queue : t.rqu = s.rqu := by rw [show t = _ from closes]; exact rqu
    have faults : t.fmo.recs = s.fmo.recs := by rw [show t = _ from closes]; exact recs
    rw [dropped, slot]
    exact ⟨rfl, rfl, rfl, rfl, queue, faults, fun e other => closeSlot_other c e s other⟩
  case injected =>
    intro t
    have after : t.fmo.armed = _ := closeSlot_armed active tip
    have misses (armed : s.fmo.armed.tipMiss.get c = true) : classifyTip c s w p = none := by
      simp [classifyTip, armed]
    rw [after]
    refine ⟨misses, ?_, fun d other => ?_, fun armed => ?_⟩
    · simp
    · simp [other]
    · simp [misses armed, collarBit]

/-- Settles O46. -/
theorem twinAndToolAtClose : Obligations.TwinAndToolAtClose := by
  refine ⟨fun threshold v => ?twin, fun c w p s active tip => ?records,
    fun c w p u id s track tip word validates => ?tool⟩
  case twin =>
    intro twin
    unfold twinSeen
    rw [Bool.or_eq_true, hasTwin_iff, hasTwin_iff]
  case records =>
    intro t hit bit validated twin missed raised
    obtain ⟨d, isHit, isMiss, -, -, recs, -⟩ := closeSlot_pen c w p s tip active
    have kept {f : FaultId} (other : f ≠ .queueDrop) : t.fmo.recs.get f = d.fmo.recs.get f := by
      cases view : classifyTip c s w p with
      | none =>
        rw [show t = _ from isMiss view]
        exact closeMiss_rec _ _ _ other
      | some v =>
        rw [show t = _ from isHit v view]
        exact closeHit_rec _ _ _ _ _ other
    have twinIff : hit.any (twinSeen s.cfe.threshold) = true ↔ twin := by
      simp only [Option.any_eq_true, twin]
    have missedIff : ((validated.filter fun id => (s.slot c).toolId ≠ some id).isSome = true
        ∧ boundOf s.ptb (validated.filter fun id => (s.slot c).toolId ≠ some id) = none) ↔ missed := by
      rw [toolMissed_iff]
      simp only [Option.filter_eq_some_iff, decide_eq_true_eq, and_assoc, missed]
    have unknown (miss : hit = none) : validated = none := by
      simp only [validated, bit, miss, collarBit, Option.map_none]
      exact validated_of_unknown ..
    have twinRecord := recs .twin
    have missRecord := recs .profileMiss
    rw [← kept (f := .twin) (by decide)] at twinRecord
    rw [← kept (f := .profileMiss) (by decide)] at missRecord
    refine ⟨fun seen => ?_, fun unseen => ?_, fun isMissed => ?_, fun found => ?_, unknown⟩
    · rw [twinRecord, if_pos (.inl ⟨rfl, twinIff.2 seen⟩)]
    · rw [twinRecord, if_neg]
      rintro (⟨-, seen⟩ | ⟨other, -⟩)
      · exact unseen (twinIff.1 seen)
      · exact nomatch other
    · rw [missRecord, if_pos (.inr ⟨rfl, missedIff.2 isMissed⟩)]
    · rw [missRecord, if_neg]
      rintro (⟨other, -⟩ | ⟨-, isMissed⟩)
      · exact nomatch other
      · exact found (missedIff.1 isMissed)
  case tool =>
    intro t new bound
    obtain ⟨d, isHit, -, slot, rqu, -⟩ := closeSlot_pen c w p s tip (by rw [track]; rfl)
    cases view : classifyTip c s w p with
    | none =>
      rw [view, collarBit, Option.map_none, decodeBit_unknown] at validates
      exact nomatch validates
    | some v =>
      have closes := isHit v view
      rw [view] at validates
      simp only [view, word, Option.bind_some, validates] at closes slot rqu
      rw [closeHit_track (by rw [slot]; exact track)] at closes
      obtain ⟨e, he⟩ : ∃ e, e = (sampleSlot c v (hitState c v d)).1 := ⟨_, rfl⟩
      have sampled := sampled_slot c v d
      rw [← he] at closes sampled
      have queue : e.rqu = d.rqu := by rw [he, sampleSlot_rqu]; rfl
      have same : t = _ := closes
      by_cases isNew : new
      · have due : ((some id).filter fun id => decide ((s.slot c).toolId ≠ some id)) = some id := by
          simpa using isNew
        rw [due] at same slot
        have toolId : (e.slot c).toolId = some id := by rw [sampled, slot]; rfl
        have boundTo : (e.slot c).bound = bound := by
          rw [sampled, slot]
          exact boundOf_some s.ptb id
        refine ⟨fun stays => ?_, fun stays _ => ⟨?_, ?_⟩, fun notNew => absurd isNew notNew⟩
        · rw [same] at stays ⊢
          exact (closeTrack_bound stays).1.trans toolId
        · rw [same] at stays ⊢
          exact (closeTrack_bound stays).2.trans boundTo
        · rw [same] at stays ⊢
          have tools := closeTrack_tools stays
          have handed : Entry.tool c id bound ∈ (handDueTool true c e).rqu.queue := by
            rw [handDueTool_true toolId, boundTo]
            exact Rqu.tool_mem_handTool ..
          have mine : Entry.tool c id bound
              ∈ (handDueTool true c e).rqu.queue.filter (Entry.isToolOf c) :=
            List.mem_filter.2 ⟨handed, by simp [Entry.isToolOf]⟩
          rw [show (some id).isSome = true from rfl] at tools ⊢
          rw [← tools] at mine
          exact (List.mem_filter.1 mine).1
      · have held : (s.slot c).toolId = some id := not_not.1 isNew
        have due : ((some id).filter fun id => decide ((s.slot c).toolId ≠ some id)) = none := by
          simpa using held
        rw [due] at same slot
        have toolId : (e.slot c).toolId = some id := by rw [sampled, slot]; exact held
        have boundTo : (e.slot c).bound = (s.slot c).bound := by rw [sampled, slot]; rfl
        refine ⟨fun stays => ?_, fun _ isNew' => absurd isNew' isNew, fun _ stays => ⟨?_, ?_⟩⟩
        · rw [same] at stays ⊢
          exact (closeTrack_bound stays).1.trans toolId
        · rw [same] at stays ⊢
          exact (closeTrack_bound stays).2.trans boundTo
        · rw [same] at stays ⊢
          rw [closeTrack_tools stays, show (none : Option Nat).isSome = false from rfl,
            handDueTool_false, queue, rqu]
          split
          · exact Rqu.handAlert_tools ..
          · rfl

end Sys2Proof.Proofs
end

section
/-! PROOFS. A hit of a slot in CONFIRM or TRACK (O45). -/

namespace Sys2Proof.Machine

/-! ### What a hit resolves (R67, R69, R70) -/

theorem rawDist_le (a b : Int × Int) (jump : Nat) :
    rawDist a b ≤ jump ↔ (a.1 - b.1).natAbs ≤ jump ∧ (a.2 - b.2).natAbs ≤ jump := Nat.max_le

section
variable {jump : Nat} {frame : Half} {last raw : Int × Int} {q : Relocation}

theorem resolve_near (near : rawDist raw last ≤ jump) :
    resolve jump frame last none (some raw) = ⟨[false], some false, none⟩ := if_pos near

theorem resolve_far (far : ¬ rawDist raw last ≤ jump) :
    resolve jump frame last none (some raw) = ⟨[], none, some ⟨raw.1, raw.2, frame⟩⟩ := if_neg far

theorem resolve_relocated (near : rawDist raw (q.x, q.y) ≤ jump) :
    resolve jump frame last (some q) (some raw) = ⟨[false, false], some true, none⟩ := if_pos near

theorem resolve_returned (far : ¬ rawDist raw (q.x, q.y) ≤ jump) (near : rawDist raw last ≤ jump) :
    resolve jump frame last (some q) (some raw) = ⟨[true, false], some false, none⟩ :=
  (if_neg far).trans (if_pos near)

theorem resolve_elsewhere (far : ¬ rawDist raw (q.x, q.y) ≤ jump) (away : ¬ rawDist raw last ≤ jump) :
    resolve jump frame last (some q) (some raw) = ⟨[true], none, some ⟨raw.1, raw.2, frame⟩⟩ :=
  (if_neg far).trans (if_neg away)

end

/-! ### A sample depends on the held state of its slot alone (R64) -/

theorem sampleOut_congr {pr : Profile} {a b : Slot} (pressure : a.heldPressure = b.heldPressure)
    (period : Option Nat) : sampleOut pr a period = sampleOut pr b period := by
  unfold sampleOut
  rw [pressure]

theorem fullSample_congr {layout : Layout} {panel : Panel} {pr : Profile} {a b : Slot}
    (tip : a.tip = b.tip) (pressure : a.heldPressure = b.heldPressure)
    (tilt : a.heldTilt = b.heldTilt) (v : HitView) :
    fullSample layout panel pr a v = fullSample layout panel pr b v := by
  unfold fullSample sampleTilt
  rw [sampleOut_congr pressure, tip, tilt]

theorem reportedCoord_eq (raw : Int) (origin extent : Nat) :
    (reportedCoord raw origin extent : Int) = max 0 (min (raw - origin) extent) := by
  unfold reportedCoord
  rw [clampInt_eq _ (by omega)]
  omega

/-! ### The queue of a hit's close -/

/-- An entry that is no TOOL of the channel stays when one is handed. -/
theorem Rqu.mem_handTool {r : Rqu} {c : Channel} {e : Entry} (id : Nat) (bound : Option Nat)
    (other : e.isToolOf c = false) (mem : e ∈ r.queue) : e ∈ (r.handTool c id bound).queue := by
  unfold Rqu.handTool
  split
  · split
    · exact List.mem_append_left _ (List.mem_filter.2 ⟨mem, by simp [other]⟩)
    · exact List.mem_map.2 ⟨e, mem, by simp [other]⟩
  · exact List.mem_append_left _ mem

theorem Rqu.mem_handAlert {r : Rqu} {e : Entry} (mem : e ∈ r.queue) : e ∈ r.handAlert.queue := by
  unfold Rqu.handAlert
  split
  · exact mem
  · exact List.mem_append_left _ mem

theorem reportSample_mem {c : Channel} {sm : Sample} {twin relocated : Bool} {s : State} {e : Entry}
    (notice : e.isMotion = false) (mem : e ∈ s.rqu.queue) :
    e ∈ (reportSample c sm twin relocated s).rqu.queue := by
  rw [(reportSample_rqu c sm twin relocated s).1]
  split
  · exact Rqu.mem_handAlert (Rqu.mem_handMotion _ notice mem)
  · exact Rqu.mem_handMotion _ notice mem

/-- The bit of a hit's close as it is handed to the decoder (R62, R84). -/
def handedBit (c : Channel) (v : HitView) (s : State) : Option Bool :=
  (collarBit (some v)).map (· != s.fmo.armed.collarFlip.get c)

/-- The tool ID that a hit's close validates, where it is new to the slot (R63). -/
def newTool (c : Channel) (v : HitView) (s : State) : Option Nat :=
  ((s.slot c).word.bind fun u => (decodeBit s.wdc (handedBit c v s) u).2).filter
    fun id => (s.slot c).toolId ≠ some id

/-- The slot's word sub-record once the bit is handed (R62). -/
def decodedWord (c : Channel) (v : HitView) (s : State) : Option WordRec :=
  (s.slot c).word.map fun u => (decodeBit s.wdc (handedBit c v s) u).1

/-- The raw position of a hit (R105). -/
def hitRaw (v : HitView) (s : State) : Int × Int :=
  rawPosition s.cfe.layout s.cfe.panel v.tip v.peaks

/-- The queue after the ALERT of a TWIN or a PROFILE_MISS (R154). -/
def alertedQueue (c : Channel) (v : HitView) (s : State) : Rqu :=
  if (twinSeen s.cfe.threshold v = true ∧ (s.fmo.recs.get .twin).masked = false)
      ∨ ((∃ id, newTool c v s = some id ∧ toolRecord s.ptb id = none)
        ∧ (s.fmo.recs.get .profileMiss).masked = false)
    then s.rqu.handAlert else s.rqu

/-- The queue after the TOOL that is due (R72). -/
def tooledQueue (c : Channel) (v : HitView) (s : State) (r : Rqu) : Rqu :=
  match newTool c v s with
  | none => r
  | some id => r.handTool c id (if (toolRecord s.ptb id).isSome then some id else none)

theorem alertedQueue_keeps (c : Channel) (v : HitView) (s : State) :
    motionCount (alertedQueue c v s).queue = motionCount s.rqu.queue
      ∧ (alertedQueue c v s).gap = s.rqu.gap := by
  unfold alertedQueue
  split <;> simp

theorem tooledQueue_keeps (c : Channel) (v : HitView) (s : State) (r : Rqu) :
    motionCount (tooledQueue c v s r).queue = motionCount r.queue
      ∧ (tooledQueue c v s r).gap = r.gap := by
  unfold tooledQueue
  split <;> simp

theorem handIn_keeps (r : Rqu) (c : Channel) :
    motionCount (r.handIn c).queue = motionCount r.queue ∧ (r.handIn c).gap = r.gap := by
  refine ⟨?_, rfl⟩
  simp [motionCount, Entry.isMotion]

theorem mem_tooledQueue {c : Channel} {v : HitView} {s : State} {r : Rqu} {e : Entry}
    (other : e.isToolOf c = false) (mem : e ∈ r.queue) : e ∈ (tooledQueue c v s r).queue := by
  unfold tooledQueue
  split
  · exact mem
  · exact Rqu.mem_handTool _ _ other mem

/-! ### A hit before it is resolved (R59 to R63) -/

/-- `d` is what the steps 1 to 3 of a hit's close leave, before the hit is resolved. -/
structure HitPrepared (c : Channel) (v : HitView) (s d : State) : Prop where
  closes : closeSlot s c
    = closeHit c v (twinSeen s.cfe.threshold v) (newTool c v s).isSome d
  slot : d.slot c = { s.slot c with
    word := decodedWord c v s
    toolId := (newTool c v s).or (s.slot c).toolId
    bound := if (newTool c v s).isSome then boundOf s.ptb (newTool c v s) else (s.slot c).bound }
  rqu : d.rqu = alertedQueue c v s
  drops : d.fmo.recs.get .queueDrop = s.fmo.recs.get .queueDrop
  ptb : d.ptb = s.ptb
  cfe : d.cfe = s.cfe
  fts : d.fts = s.fts
  bpl : d.bpl = s.bpl

theorem closeSlot_hit {c : Channel} {w : WindowRec} {p : Option Nat} {v : HitView} {s : State}
    (active : (s.slot c).state.active = true) (tip : tipRecord c s.ptr.records = some (w, p))
    (hit : classifyTip c s w p = some v) : ∃ d, HitPrepared c v s d := by
  obtain ⟨d, isHit, -, slot, rqu, recs, ptb, cfe, fts, bpl, -⟩ := closeSlot_pen c w p s tip active
  have closes := isHit v hit
  rw [hit] at closes slot rqu recs
  refine ⟨d, closes, slot, ?_, ?_, ptb, cfe, fts, bpl⟩
  · rw [rqu]
    exact if_congr (or_congr_right (and_congr_left fun _ => toolMissed_iff ..)) rfl rfl
  · rw [recs, if_neg]
    rintro (⟨other, -⟩ | ⟨other, -⟩)
    · exact nomatch other
    · exact nomatch other

section
variable {c : Channel} {v : HitView} {s d x : State} (h : HitPrepared c v s d)
include h

/-- A state with the slot's tool ID and bound record hands the TOOL that is due. -/
theorem HitPrepared.handDueTool_rqu (toolId : (x.slot c).toolId = (d.slot c).toolId)
    (bound : (x.slot c).bound = (d.slot c).bound) :
    (handDueTool (newTool c v s).isSome c x).rqu = tooledQueue c v s x.rqu := by
  rw [h.slot] at toolId bound
  unfold tooledQueue
  cases new : newTool c v s with
  | none =>
    rw [show (none : Option Nat).isSome = false from rfl, handDueTool_false]
  | some id =>
    rw [new] at toolId bound
    rw [show (some id).isSome = true from rfl, handDueTool_true toolId, bound]
    simp only [Option.isSome_some, if_true, boundOf_some]

/-- The full sample of a slot that holds what `held` holds and is bound as after the close's tool ID
(R64, R128). -/
theorem HitPrepared.sample (held : Slot) (tip : (x.slot c).tip = held.tip)
    (pressure : (x.slot c).heldPressure = held.heldPressure)
    (tilt : (x.slot c).heldTilt = held.heldTilt) (bound : (x.slot c).bound = (d.slot c).bound)
    (ptb : x.ptb = d.ptb) (cfe : x.cfe = d.cfe) :
    (sampleSlot c v x).2 = fullSample s.cfe.layout s.cfe.panel
      (boundProfile s.ptb c (d.slot c).bound) held v := by
  have profile : slotProfile x c = boundProfile s.ptb c (d.slot c).bound := by
    rw [slotProfile, bound, ptb, h.ptb]
  show fullSample x.cfe.layout x.cfe.panel (slotProfile x c) (x.slot c) v = _
  rw [profile, cfe, h.cfe]
  exact fullSample_congr tip pressure tilt v

end

/-- With no collar present and no tilt held a sample carries none (R116). -/
theorem sampleTilt_none {layout : Layout} {panel : Panel} {pr : Profile} {sl : Slot} {v : HitView}
    {raw : Int × Int} (held : sl.heldTilt = none) (absent : v.collarPeaks = none) :
    (sampleTilt layout panel pr sl v raw).1 = none := by
  cases mode : pr.tilt with
  | false => rw [sampleTilt_off mode]
  | true => rw [sampleTilt_held mode (.inr absent), held]

/-! ### What a report rests on (R73, R90) -/

/-- The slot is ready to hand its sample `sm`: what its MOTION and the slot after it hold. -/
structure ReportReady (c : Channel) (s y : State) (decoded : Option WordRec) (sm : Sample)
    (pressure : Option Nat) (r : Rqu) : Prop where
  rqu : y.rqu = r
  gap : r.gap = s.rqu.gap
  count : motionCount r.queue = motionCount s.rqu.queue
  drops : y.fmo.recs.get .queueDrop = s.fmo.recs.get .queueDrop
  frame : y.fts.frameNo = s.fts.frameNo
  word : (y.slot c).word = decoded
  tip : (y.slot c).tip = sm.tip
  heldTilt : (y.slot c).heldTilt = sm.tilt
  heldPressure : (y.slot c).heldPressure = pressure

/-- The queue and QUEUE_DROP's record after a report (R136 to R138, R154). -/
theorem ReportReady.queued {c : Channel} {s y : State} {decoded : Option WordRec} {sm : Sample}
    {pressure : Option Nat} {r : Rqu} (h : ReportReady c s y decoded sm pressure r)
    (twin relocated : Bool) :
    let m := motionOf c y.fts.frameNo (y.slot c) sm twin relocated
    let t := reportSample c sm twin relocated y
    t.rqu = (if (r.handMotion m).2 = true ∧ (s.fmo.recs.get .queueDrop).masked = false
        then (r.handMotion m).1.handAlert else (r.handMotion m).1)
      ∧ t.fmo.recs.get .queueDrop = (if (r.handMotion m).2
        then { s.fmo.recs.get .queueDrop with status := true, marker := true }
        else s.fmo.recs.get .queueDrop)
      ∧ (motionCount s.rqu.queue < 48 →
        t.rqu.queue.getLast? = some (.motion { m with gapMark := s.rqu.gap.get c })) := by
  intro m t
  have handed := reportSample_rqu c sm twin relocated y
  have last := reportSample_last c sm twin relocated y
  simp only [h.rqu, h.drops, h.gap, h.count] at handed last
  exact ⟨handed.1, handed.2, last⟩

theorem realignedPending_eq (sl : Slot) : realignedPending sl = sl.word.any (·.realigned) := by
  unfold realignedPending
  cases sl.word <;> rfl

/-! ### A hit in TRACK (R67 to R73) -/

/-- `e` is what `d` becomes once the full sample `sm` of a hit in TRACK is computed (R60, R64). -/
structure TrackSampled (c : Channel) (v : HitView) (s d e : State) (sm : Sample) : Prop where
  closes : closeSlot s c
    = closeTrack c (some sm) (twinSeen s.cfe.threshold v) (newTool c v s).isSome e
  slot : e.slot c = { d.slot c with
    centreX := v.peaks.coilX, centreY := v.peaks.coilY, tip := sm.tip
    heldPressure := if v.period.isSome
      then some (sampleOut (boundProfile s.ptb c (d.slot c).bound) (s.slot c) v.period)
      else (s.slot c).heldPressure
    heldTilt := sm.tilt }
  rqu : e.rqu = alertedQueue c v s
  drops : e.fmo.recs.get .queueDrop = s.fmo.recs.get .queueDrop
  bpl : e.bpl = s.bpl
  fts : e.fts = s.fts
  sample : sm = fullSample s.cfe.layout s.cfe.panel (boundProfile s.ptb c (d.slot c).bound)
    (s.slot c) v

theorem HitPrepared.sampled {c : Channel} {v : HitView} {s d : State} (h : HitPrepared c v s d)
    (track : (s.slot c).state = .track) : ∃ e sm, TrackSampled c v s d e sm := by
  have slot := sampled_slot c v d
  have profile : slotProfile d c = boundProfile s.ptb c (d.slot c).bound := by
    rw [slotProfile, h.ptb]
  have pressure : (d.slot c).heldPressure = (s.slot c).heldPressure := by rw [h.slot]
  have state : (d.slot c).state = .track := by
    rw [h.slot]
    exact track
  rw [profile, sampleOut_congr pressure, pressure] at slot
  refine ⟨_, _, h.closes.trans (closeHit_track state v _ _), slot, ?_, ?_, ?_, ?_, ?_⟩
  · rw [sampleSlot_rqu]
    exact h.rqu
  · rw [sampleSlot_fmo]
    exact h.drops
  · rw [sampleSlot_bpl]
    exact h.bpl
  · rw [sampleSlot_fts]
    exact h.fts
  · refine h.sample (x := hitState c v d) (s.slot c) ?_ ?_ ?_ ?_ rfl rfl
    · simp [hitState, recentre, h.slot]
    · simp [hitState, recentre, h.slot]
    · simp [hitState, recentre, h.slot]
    · simp [hitState, recentre]

/-- A slot in TRACK that its hit's close does not lose, its due TOOL handed and its sample not yet. -/
structure SlotStays (c : Channel) (v : HitView) (s d y : State) (r : Resolution) (sm : Sample) :
    Prop where
  state : (y.slot c).state = .track
  misses : (y.slot c).misses
    = enterOutcomes s.bpl.active.missWindow r.entries (s.slot c).misses
  pendingRel : (y.slot c).pendingRel = r.pendingRel
  prox : (y.slot c).prox = (s.slot c).prox
  centre : (y.slot c).centreX = v.peaks.coilX ∧ (y.slot c).centreY = v.peaks.coilY
  last : (y.slot c).lastX = (s.slot c).lastX ∧ (y.slot c).lastY = (s.slot c).lastY
  bound : (y.slot c).bound = (d.slot c).bound
  ready : ReportReady c s y (decodedWord c v s) sm
    (if v.period.isSome
      then some (sampleOut (boundProfile s.ptb c (d.slot c).bound) (s.slot c) v.period)
      else (s.slot c).heldPressure) (tooledQueue c v s (alertedQueue c v s))

section
variable {c : Channel} {v : HitView} {s d e : State} {sm : Sample} {r : Resolution}
  (h : TrackSampled c v s d e sm) (prepared : HitPrepared c v s d)
  (resolved : resolve s.bpl.active.jump s.fts.frameNo ((s.slot c).lastX, (s.slot c).lastY)
    (s.slot c).pendingRel (some (hitRaw v s)) = r)
include h prepared

theorem TrackSampled.misses : enterOutcomes e.bpl.active.missWindow r.entries (e.slot c).misses
    = enterOutcomes s.bpl.active.missWindow r.entries (s.slot c).misses := by
  rw [h.bpl, h.slot, prepared.slot]

include resolved

theorem TrackSampled.resolves : resolve e.bpl.active.jump e.fts.frameNo
    ((e.slot c).lastX, (e.slot c).lastY) (e.slot c).pendingRel
    ((some sm).map fun m => (m.rawX, m.rawY)) = r := by
  rw [h.bpl, h.fts, h.slot, prepared.slot, h.sample]
  exact resolved

theorem TrackSampled.loses (lost : lostBy s.bpl.active.missLimit r.entries
      (enterOutcomes s.bpl.active.missWindow r.entries (s.slot c).misses) = true) :
    (closeSlot s c).slot c = endedSlot .search { s.slot c with
        centreX := v.peaks.coilX, centreY := v.peaks.coilY }
      ∧ (closeSlot s c).rqu = (if (s.slot c).prox then (alertedQueue c v s).handOut c
        else alertedQueue c v s)
      ∧ (closeSlot s c).fmo.recs.get .queueDrop = s.fmo.recs.get .queueDrop := by
  rw [← h.misses prepared, ← h.bpl] at lost
  have closed := h.closes.trans (closeTrack_ends (h.resolves prepared resolved) lost)
  rw [closed]
  refine ⟨?_, ?_, ?_⟩
  · rw [endProximity_slot, if_pos rfl, State.slot_setSlot, if_pos rfl, h.slot, prepared.slot]
    rfl
  · rw [endProximity_rqu, State.slot_setSlot, if_pos rfl, State.setSlot_rqu, h.rqu]
    simp only [enteredSlot, h.slot, prepared.slot]
  · rw [endProximity_fmo]
    exact h.drops

theorem TrackSampled.stays (track : (s.slot c).state = .track)
    (kept : lostBy s.bpl.active.missLimit r.entries
      (enterOutcomes s.bpl.active.missWindow r.entries (s.slot c).misses) = false) :
    ∃ y, SlotStays c v s d y r sm
      ∧ closeSlot s c = r.report.elim y
        fun relocated => reportSample c sm (twinSeen s.cfe.threshold v) relocated y := by
  rw [← h.misses prepared, ← h.bpl] at kept
  have goesOn := h.closes.trans (closeTrack_goesOn (h.resolves prepared resolved) kept)
  obtain ⟨y, hy⟩ : ∃ y, y = handDueTool (newTool c v s).isSome c
    (e.setSlot c (enteredSlot e.bpl.active.missWindow r (e.slot c))) := ⟨_, rfl⟩
  rw [← hy] at goesOn
  have slot : y.slot c = enteredSlot e.bpl.active.missWindow r (e.slot c) := by
    rw [hy, handDueTool_slot, State.slot_setSlot, if_pos rfl]
  have rqu : y.rqu = tooledQueue c v s (alertedQueue c v s) := by
    rw [hy, prepared.handDueTool_rqu, State.setSlot_rqu, h.rqu]
    · simp [enteredSlot, h.slot]
    · simp [enteredSlot, h.slot]
  have alerted := alertedQueue_keeps c v s
  have tooled := tooledQueue_keeps c v s (alertedQueue c v s)
  have misses : (y.slot c).misses
      = enterOutcomes s.bpl.active.missWindow r.entries (s.slot c).misses := by
    rw [slot]
    exact h.misses prepared
  have ready : ReportReady c s y (decodedWord c v s) sm
      (if v.period.isSome
        then some (sampleOut (boundProfile s.ptb c (d.slot c).bound) (s.slot c) v.period)
        else (s.slot c).heldPressure) (tooledQueue c v s (alertedQueue c v s)) := {
    rqu := rqu
    gap := tooled.2.trans alerted.2
    count := tooled.1.trans alerted.1
    drops := by rw [hy, handDueTool_fmo]; exact h.drops
    frame := by rw [hy, handDueTool_fts]; exact congrArg Fts.frameNo h.fts
    word := by rw [slot, h.slot, prepared.slot]; rfl
    tip := by rw [slot, h.slot]; rfl
    heldTilt := by rw [slot, h.slot]; rfl
    heldPressure := by rw [slot, h.slot]; rfl }
  refine ⟨y, ?_, ?_⟩
  · rw [h.slot] at slot
    have whole := slot
    rw [prepared.slot] at whole
    exact ⟨by rw [whole]; exact track, misses, by rw [slot]; rfl, by rw [whole]; rfl,
      by rw [slot]; exact ⟨rfl, rfl⟩, by rw [whole]; exact ⟨rfl, rfl⟩, by rw [slot]; rfl, ready⟩
  · cases report : r.report with
    | none =>
      rw [report] at goesOn
      exact goesOn
    | some relocated =>
      rw [report] at goesOn
      exact goesOn

end

/-! ### A hit in CONFIRM (R66) -/

/-- A slot whose confirm count a hit raises. -/
def countedSlot (raw : Int × Int) (sl : Slot) : Slot :=
  { sl with confirm := sl.confirm + 1, lastX := raw.1, lastY := raw.2 }

section
variable {s : State} {c : Channel} {v : HitView} {twin due : Bool}

theorem closeConfirm_far (far : ¬ rawDist (rawPosition s.cfe.layout s.cfe.panel v.tip v.peaks)
      ((s.slot c).lastX, (s.slot c).lastY) ≤ s.bpl.active.jump) :
    closeConfirm c v twin due s = s.setSlot c (dropConfirm (s.slot c)) := if_neg far

theorem closeConfirm_near (near : rawDist (rawPosition s.cfe.layout s.cfe.panel v.tip v.peaks)
      ((s.slot c).lastX, (s.slot c).lastY) ≤ s.bpl.active.jump) :
    closeConfirm c v twin due s
      = if s.bpl.active.confirm ≤ (s.slot c).confirm + 1
        then enterTrack c v twin due (s.setSlot c
          (countedSlot (rawPosition s.cfe.layout s.cfe.panel v.tip v.peaks) (s.slot c)))
        else s.setSlot c
          (countedSlot (rawPosition s.cfe.layout s.cfe.panel v.tip v.peaks) (s.slot c)) :=
  if_pos near

end

/-- The state in which a completed confirmation has its sample computed (R64, R66). -/
def beginState (c : Channel) (s : State) : State := s.setSlot c (beginProximity (s.slot c))

/-- A completed confirmation with its sample computed and its IN handed (R66, R72). -/
def inState (c : Channel) (v : HitView) (s : State) : State :=
  ((sampleSlot c v (beginState c s)).1.setSlot c
    { (sampleSlot c v (beginState c s)).1.slot c with prox := true }).modRqu (·.handIn c)

theorem enterTrack_eq (c : Channel) (v : HitView) (twin due : Bool) (s : State) :
    enterTrack c v twin due s = reportSample c (sampleSlot c v (beginState c s)).2 twin false
      (handDueTool due c (inState c v s)) := rfl

theorem inState_slot (c : Channel) (v : HitView) (s : State) :
    (inState c v s).slot c = { s.slot c with
      state := .track, misses := [false], prox := true
      tip := (sampleSlot c v (beginState c s)).2.tip
      heldPressure := if v.period.isSome
        then some (sampleOut (slotProfile s c) (beginProximity (s.slot c)) v.period) else none
      heldTilt := (sampleSlot c v (beginState c s)).2.tilt } := by
  have begun : (beginState c s).slot c = beginProximity (s.slot c) := by simp [beginState]
  have profile : slotProfile (beginState c s) c = slotProfile s c := by
    rw [slotProfile, begun]
    rfl
  rw [inState, State.slot_modRqu, State.slot_setSlot, if_pos rfl, sampleSlot_slot, if_pos rfl,
    profile, begun]
  rfl

theorem inState_rqu (c : Channel) (v : HitView) (s : State) :
    (inState c v s).rqu = s.rqu.handIn c := by
  simp [inState, beginState]


section
variable {c : Channel} {v : HitView} {s d : State} (h : HitPrepared c v s d)
  (confirm : (s.slot c).state = .confirm)
include h confirm

/-- What a hit in CONFIRM comes to, by its distance and the confirm count (R66). -/
theorem HitPrepared.confirms :
    let near := rawDist (hitRaw v s) ((s.slot c).lastX, (s.slot c).lastY) ≤ s.bpl.active.jump
    let u := hitState c v d
    let counted := u.setSlot c (countedSlot (hitRaw v s) (u.slot c))
    (¬ near → closeSlot s c = u.setSlot c (dropConfirm (u.slot c)))
      ∧ (near → s.bpl.active.confirm ≤ (s.slot c).confirm + 1 → closeSlot s c
        = enterTrack c v (twinSeen s.cfe.threshold v) (newTool c v s).isSome counted)
      ∧ (near → (s.slot c).confirm + 1 < s.bpl.active.confirm → closeSlot s c = counted) := by
  intro near u counted
  have state : (d.slot c).state = .confirm := by
    rw [h.slot]
    exact confirm
  have closes := h.closes.trans (closeHit_confirm state v _ _)
  have raw : rawPosition u.cfe.layout u.cfe.panel v.tip v.peaks = hitRaw v s := by
    rw [hitRaw, ← h.cfe]
    rfl
  have last : ((u.slot c).lastX, (u.slot c).lastY) = ((s.slot c).lastX, (s.slot c).lastY) := by
    simp [u, hitState, recentre, h.slot]
  have count : (u.slot c).confirm = (s.slot c).confirm := by
    simp [u, hitState, recentre, h.slot]
  have bpl : u.bpl = s.bpl := h.bpl
  have isNear : rawDist (rawPosition u.cfe.layout u.cfe.panel v.tip v.peaks)
      ((u.slot c).lastX, (u.slot c).lastY) ≤ u.bpl.active.jump ↔ near := by rw [raw, last, bpl]
  refine ⟨fun far => closes.trans (closeConfirm_far fun held => far (isNear.1 held)),
    fun within enough => ?_, fun within few => ?_⟩
  · rw [closes, closeConfirm_near (isNear.2 within), raw, count, bpl, if_pos enough]
  · rw [closes, closeConfirm_near (isNear.2 within), raw, count, bpl, if_neg (Nat.not_le.2 few)]

end

/-- A slot at the beginning of a proximity, of which no pressure or tilt is held (R64, R99). -/
def freshSlot (sl : Slot) : Slot := { sl with tip := .up, heldPressure := none, heldTilt := none }

/-- A slot whose confirmation has completed, its IN and its due TOOL handed and its sample not yet
(R66, R72). -/
structure TrackEntered (c : Channel) (v : HitView) (s d y : State) (sm : Sample) : Prop where
  state : (y.slot c).state = .track
  prox : (y.slot c).prox = true
  misses : (y.slot c).misses = [false]
  centre : (y.slot c).centreX = v.peaks.coilX ∧ (y.slot c).centreY = v.peaks.coilY
  bound : (y.slot c).bound = (d.slot c).bound
  sample : sm = fullSample s.cfe.layout s.cfe.panel (boundProfile s.ptb c (d.slot c).bound)
    (freshSlot (s.slot c)) v
  ready : ReportReady c s y (decodedWord c v s) sm
    (if v.period.isSome
      then some (sampleOut (boundProfile s.ptb c (d.slot c).bound) (freshSlot (s.slot c)) v.period)
      else none) (tooledQueue c v s ((alertedQueue c v s).handIn c))

theorem HitPrepared.enters {c : Channel} {v : HitView} {s d : State} (h : HitPrepared c v s d)
    (confirm : (s.slot c).state = .confirm)
    (near : rawDist (hitRaw v s) ((s.slot c).lastX, (s.slot c).lastY) ≤ s.bpl.active.jump)
    (enough : s.bpl.active.confirm ≤ (s.slot c).confirm + 1) :
    ∃ y sm, TrackEntered c v s d y sm
      ∧ closeSlot s c = reportSample c sm (twinSeen s.cfe.threshold v) false y := by
  obtain ⟨-, enters, -⟩ := h.confirms confirm
  have closes := enters near enough
  obtain ⟨u, hu⟩ : ∃ u, u = (hitState c v d).setSlot c
    (countedSlot (hitRaw v s) ((hitState c v d).slot c)) := ⟨_, rfl⟩
  obtain ⟨y, hy⟩ : ∃ y, y = handDueTool (newTool c v s).isSome c (inState c v u) := ⟨_, rfl⟩
  obtain ⟨sm, hsm⟩ : ∃ sm, sm = (sampleSlot c v (beginState c u)).2 := ⟨_, rfl⟩
  rw [← hu, enterTrack_eq, ← hy, ← hsm] at closes
  have slotU : u.slot c = countedSlot (hitRaw v s) (recentre v.peaks (d.slot c)) := by
    simp [hu, hitState]
  have ptbU : u.ptb = s.ptb := by rw [hu]; exact h.ptb
  have rquU : u.rqu = alertedQueue c v s := by rw [hu]; exact h.rqu
  have profile : slotProfile u c = boundProfile s.ptb c (d.slot c).bound := by
    rw [slotProfile, ptbU, slotU]
    rfl
  have out : sampleOut (slotProfile u c) (beginProximity (u.slot c)) v.period
      = sampleOut (boundProfile s.ptb c (d.slot c).bound) (freshSlot (s.slot c)) v.period := by
    rw [profile]
    exact sampleOut_congr rfl _
  have slotY := inState_slot c v u
  rw [← hsm, ← handDueTool_slot (newTool c v s).isSome c c, ← hy, out, slotU] at slotY
  have sample : sm = fullSample s.cfe.layout s.cfe.panel (boundProfile s.ptb c (d.slot c).bound)
      (freshSlot (s.slot c)) v := by
    rw [hsm]
    refine h.sample (x := beginState c u) (freshSlot (s.slot c)) ?_ ?_ ?_ ?_ ?_ ?_
    · simp [beginState, beginProximity, freshSlot]
    · simp [beginState, beginProximity, freshSlot]
    · simp [beginState, beginProximity, freshSlot]
    · simp [beginState, beginProximity, slotU, countedSlot, recentre]
    · rw [beginState, hu]
      rfl
    · rw [beginState, hu]
      rfl
  have alerted := alertedQueue_keeps c v s
  have handedIn := handIn_keeps (alertedQueue c v s) c
  have tooled := tooledQueue_keeps c v s ((alertedQueue c v s).handIn c)
  have rqu : y.rqu = tooledQueue c v s ((alertedQueue c v s).handIn c) := by
    rw [hy, h.handDueTool_rqu, inState_rqu, rquU]
    · rw [inState_slot, slotU]
      rfl
    · rw [inState_slot, slotU]
      rfl
  have ready : ReportReady c s y (decodedWord c v s) sm
      (if v.period.isSome
        then some (sampleOut (boundProfile s.ptb c (d.slot c).bound) (freshSlot (s.slot c)) v.period)
        else none) (tooledQueue c v s ((alertedQueue c v s).handIn c)) := {
    rqu := rqu
    gap := tooled.2.trans alerted.2
    count := tooled.1.trans (handedIn.1.trans alerted.1)
    drops := by
      rw [hy, handDueTool_fmo, inState, hu]
      simpa [beginState, hitState] using h.drops
    frame := by
      rw [hy, handDueTool_fts, inState, hu]
      simpa [beginState, hitState] using congrArg Fts.frameNo h.fts
    word := by
      rw [slotY, h.slot]
      rfl
    tip := by rw [slotY]
    heldTilt := by rw [slotY]
    heldPressure := by rw [slotY] }
  refine ⟨y, sm, ?_, closes⟩
  exact ⟨by rw [slotY], by rw [slotY], by rw [slotY], by rw [slotY]; exact ⟨rfl, rfl⟩,
    by rw [slotY]; rfl, sample, ready⟩

end Sys2Proof.Machine

namespace Sys2Proof.Proofs
open Sys2Proof.Machine

/-- Settles O45: a hit by the state of its slot, its pending relocation and the distances of R66. -/
theorem hitResolves : Obligations.HitResolves := by
  intro c w p v s tip hit sl t raw within' near far bit decoded new alerts built tooled drops held
    record sample sampled keptBack reports silent centred enters
  obtain ⟨-, -, vTip, vPeriod, vCollar, -⟩ := classifyTip_eq_some.1 hit
  have rawEq : rawPosition s.cfe.layout s.cfe.panel v.tip v.peaks = raw := by rw [vTip]
  have nearIff (x y : Int) : rawDist raw (x, y) ≤ s.bpl.active.jump ↔ within' x y := rawDist_le ..
  have builtKeeps := alertedQueue_keeps c v s
  have tooledKeeps := tooledQueue_keeps c v s
  have reported {y : State} {rel : Bool} {r : Rqu} {sm : Sample} {pressure : Option Nat}
      (ready : ReportReady c s y decoded sm pressure r) (isSample : sm = sample)
      (isPressure : pressure = if p.isSome then some (sampleOut record held p) else held.heldPressure)
      (ends : t = reportSample c sm (twinSeen s.cfe.threshold v) rel y) : reports r rel := by
    have slotAfter : t.slot c = reportedSlot sm (y.slot c) := by
      rw [ends, reportSample_slot, if_pos rfl]
    obtain ⟨queue, dropped, last⟩ := ready.queued (twinSeen s.cfe.threshold v) rel
    rw [← ends] at queue dropped last
    subst isSample
    refine ⟨motionOf c y.fts.frameNo (y.slot c) sample (twinSeen s.cfe.threshold v) rel, queue,
      dropped, last, rfl, ready.frame, ?_, ?_, rfl, rfl, ?_, ?_, ?_, ?_, rfl, rfl, rfl, rfl, rfl, rfl,
      rfl, ?_, ?_, ⟨?_, ?_, ?_⟩, ?_⟩
    · rw [← rawEq]
      exact reportedCoord_eq ..
    · rw [← rawEq]
      exact reportedCoord_eq ..
    · exact congrArg Option.isNone vPeriod
    · exact (sampleUnsynced_eq v).trans (by rw [vTip, vCollar])
    · rw [slotAfter]
      rfl
    · rw [slotAfter]
      exact ready.tip.symm
    · exact congrArg (·.bind (·.buttons)) ready.word
    · exact (realignedPending_eq _).trans (congrArg (·.any (·.realigned)) ready.word)
    · rw [slotAfter]
      exact ready.tip
    · rw [slotAfter]
      exact ready.heldTilt
    · rw [slotAfter]
      exact ready.heldPressure.trans isPressure
    · rw [slotAfter]
      exact congrArg (Option.map _) ready.word
  have trackCases (track : sl.state = .track) {r : Resolution}
      (resolved : resolve s.bpl.active.jump s.fts.frameNo (sl.lastX, sl.lastY) sl.pendingRel (some raw)
        = r) :
      let misses := enterOutcomes s.bpl.active.missWindow r.entries sl.misses
      (lostBy s.bpl.active.missLimit r.entries misses = true →
        (t.slot c).state = .search ∧ (t.slot c).misses = [] ∧ (t.slot c).pendingRel = none
          ∧ (t.slot c).prox = false ∧ (t.slot c).toolId = none ∧ (t.slot c).word = none ∧ centred
          ∧ (t.slot c).lastX = sl.lastX ∧ (t.slot c).lastY = sl.lastY
          ∧ t.rqu = (if sl.prox then built.handOut c else built)
          ∧ motionCount t.rqu.queue ≤ motionCount s.rqu.queue
          ∧ t.fmo.recs.get .queueDrop = drops)
      ∧ (lostBy s.bpl.active.missLimit r.entries misses = false →
        (t.slot c).state = .track ∧ (t.slot c).misses = misses
          ∧ (t.slot c).pendingRel = r.pendingRel ∧ (t.slot c).prox = sl.prox ∧ centred
          ∧ (∀ relocated, r.report = some relocated →
            (t.slot c).lastX = raw.1 ∧ (t.slot c).lastY = raw.2 ∧ reports (tooled built) relocated)
          ∧ (r.report = none → (t.slot c).lastX = sl.lastX ∧ (t.slot c).lastY = sl.lastY
            ∧ silent (tooled built) ∧ keptBack)) := by
    intro misses
    obtain ⟨d, prepared⟩ := closeSlot_hit (by rw [track]; rfl) tip hit
    obtain ⟨e, sm, sampledAt⟩ := prepared.sampled track
    rw [← rawEq] at resolved
    have heldEq : held = s.slot c := if_neg (by rw [track]; nofun)
    have sampleOf (bound : (t.slot c).bound = (d.slot c).bound) : sm = sample := by
      rw [sampledAt.sample, ← bound, ← heldEq]
    have pressureOf (bound : (t.slot c).bound = (d.slot c).bound) : (if v.period.isSome
        then some (sampleOut (boundProfile s.ptb c (d.slot c).bound) sl v.period)
        else sl.heldPressure)
        = if p.isSome then some (sampleOut record held p) else held.heldPressure := by
      rw [vPeriod, heldEq, ← bound]
    refine ⟨fun lost => ?_, fun kept => ?_⟩
    · obtain ⟨slot, queue, dropped⟩ := sampledAt.loses prepared resolved lost
      have slotT : t.slot c = _ := slot
      have queueT : t.rqu = if sl.prox then built.handOut c else built := queue
      rw [slotT]
      refine ⟨rfl, rfl, rfl, rfl, rfl, rfl, ⟨by rw [slotT]; rfl, by rw [slotT]; rfl⟩, rfl, rfl,
        queueT, ?_, dropped⟩
      rw [queueT]
      split
      · exact (Rqu.handOut_motionCount ..).trans_eq builtKeeps.1
      · exact builtKeeps.1.le
    · obtain ⟨y, stays, ends⟩ := sampledAt.stays prepared resolved track kept
      cases report : r.report with
      | none =>
        rw [report] at ends
        have same : t = y := ends
        have boundT : (t.slot c).bound = (d.slot c).bound := by rw [same]; exact stays.bound
        have isSample := sampleOf boundT
        have isPressure := pressureOf boundT
        simp only [centred, silent, keptBack, sampled, ← isSample, ← isPressure, same]
        refine ⟨stays.state, stays.misses, stays.pendingRel, stays.prox, stays.centre, nofun,
          fun _ => ⟨stays.last.1, stays.last.2, ⟨stays.ready.rqu, ?_, stays.ready.drops⟩,
          ⟨stays.ready.tip, stays.ready.heldTilt, stays.ready.heldPressure⟩, stays.ready.word⟩⟩
        rw [stays.ready.rqu]
        exact stays.ready.count
      | some relocated =>
        rw [report] at ends
        have same : t = reportSample c sm (twinSeen s.cfe.threshold v) relocated y := ends
        have slotT : t.slot c = reportedSlot sm (y.slot c) := by
          rw [same, reportSample_slot, if_pos rfl]
        have boundT : (t.slot c).bound = (d.slot c).bound := by rw [slotT]; exact stays.bound
        have isSample := sampleOf boundT
        simp only [centred, slotT]
        refine ⟨stays.state, stays.misses, stays.pendingRel, stays.prox, stays.centre,
          fun rel isRel => ?_, nofun⟩
        obtain rfl := Option.some.inj isRel
        exact ⟨(congrArg Sample.rawX isSample).trans (congrArg Prod.fst rawEq),
          (congrArg Sample.rawY isSample).trans (congrArg Prod.snd rawEq),
          reported stays.ready isSample (pressureOf boundT) same⟩
  have entersOf (track : sl.state = .track) {es : List Bool} {report : Option Bool}
      {pending : Option Relocation} (some : es ≠ [])
      (resolved : resolve s.bpl.active.jump s.fts.frameNo (sl.lastX, sl.lastY) sl.pendingRel
        (Option.some raw) = ⟨es, report, pending⟩) : enters es pending report := by
    obtain ⟨lost, kept⟩ := trackCases track resolved
    have window := enterOutcomes_eq (n := s.bpl.active.missWindow) (misses := sl.misses) some
    rw [window] at lost kept
    refine ⟨fun few => ?_, fun many => lost ((lostBy_iff some).2 many)⟩
    obtain ⟨state, misses, relocation, prox, centre, reports', silent'⟩ :=
      kept (Bool.eq_false_iff.2 fun isLost => Nat.not_le.2 few ((lostBy_iff some).1 isLost))
    refine ⟨state, misses, relocation, prox, centre, ?_⟩
    cases report with
    | none => exact silent' rfl
    | some relocated => exact reports' relocated rfl
  have preparedIn (confirm : sl.state = .confirm) : ∃ d, HitPrepared c v s d :=
    closeSlot_hit (by rw [confirm]; rfl) tip hit
  have isNearTo : near ↔ rawDist (hitRaw v s) (sl.lastX, sl.lastY) ≤ s.bpl.active.jump := by
    rw [show hitRaw v s = raw from rawEq]
    exact (nearIff ..).symm
  refine ⟨fun d other => closeSlot_other c d s other, fun track none isNear => ?near,
    fun track none isFar => ?far, fun q track pending isNear => ?relocated,
    fun q track pending isFar isNear => ?returned, fun q track pending isFar away => ?elsewhere,
    fun confirm isNear enough => ?enters, fun confirm isNear few => ?counts,
    fun confirm isFar => ?drops⟩
  case near =>
    refine entersOf track (es := [false]) (report := some false) (pending := Option.none)
      (List.cons_ne_nil _ _) ?_
    rw [none]
    exact resolve_near ((nearIff ..).2 isNear)
  case far =>
    have resolved := resolve_far (frame := s.fts.frameNo) fun h => isFar ((nearIff ..).1 h)
    rw [← none] at resolved
    obtain ⟨-, kept⟩ := trackCases track resolved
    obtain ⟨state, misses, relocation, -, centre, -, silent'⟩ := kept rfl
    obtain ⟨lastX, lastY, rest⟩ := silent' rfl
    exact ⟨state, relocation, misses, centre, lastX, lastY, rest⟩
  case relocated =>
    refine entersOf track (es := [false, false]) (report := some true) (pending := none)
      (List.cons_ne_nil _ _) ?_
    rw [pending]
    exact resolve_relocated ((nearIff ..).2 isNear)
  case returned =>
    refine entersOf track (es := [true, false]) (report := some false) (pending := none)
      (List.cons_ne_nil _ _) ?_
    rw [pending]
    exact resolve_returned (fun h => isFar ((nearIff ..).1 h)) ((nearIff ..).2 isNear)
  case elsewhere =>
    refine entersOf track (es := [true]) (report := none) (pending := some far)
      (List.cons_ne_nil _ _) ?_
    rw [pending]
    exact resolve_elsewhere (fun h => isFar ((nearIff ..).1 h)) fun h => away ((nearIff ..).1 h)
  case enters =>
    obtain ⟨d, prepared⟩ := preparedIn confirm
    obtain ⟨y, sm, entered, ends⟩ := prepared.enters confirm (isNearTo.1 isNear) enough
    have same : t = _ := ends
    have heldEq : held = freshSlot (s.slot c) := if_pos confirm
    have slotT : t.slot c = reportedSlot sm (y.slot c) := by
      rw [same, reportSample_slot, if_pos rfl]
    have boundT : (t.slot c).bound = (d.slot c).bound := by rw [slotT]; exact entered.bound
    have isSample : sm = sample := by rw [entered.sample, ← boundT, ← heldEq]
    have isPressure : (if v.period.isSome
        then some (sampleOut (boundProfile s.ptb c (d.slot c).bound) (freshSlot sl) v.period)
        else none) = if p.isSome then some (sampleOut record held p) else held.heldPressure := by
      rw [vPeriod, heldEq, ← boundT]
      rfl
    have reportedIn := reported entered.ready isSample isPressure same
    have inQueue : Entry.penIn c ∈ t.rqu.queue := by
      rw [same]
      refine reportSample_mem rfl ?_
      rw [entered.ready.rqu]
      exact mem_tooledQueue rfl (by simp)
    simp only [centred, slotT]
    refine ⟨entered.state, entered.prox, entered.misses, entered.centre,
      (congrArg Sample.rawX isSample).trans (congrArg Prod.fst rawEq),
      (congrArg Sample.rawY isSample).trans (congrArg Prod.snd rawEq), inQueue, reportedIn,
      fun none => ?_, fun absent => ?_⟩
    · refine entered.ready.heldPressure.trans ?_
      rw [vPeriod, none]
      rfl
    · refine entered.ready.heldTilt.trans ?_
      rw [entered.sample]
      exact sampleTilt_none rfl absent
  case counts =>
    obtain ⟨d, prepared⟩ := preparedIn confirm
    obtain ⟨-, -, counts⟩ := prepared.confirms confirm
    have same : t = _ := counts (isNearTo.1 isNear) few
    have slotT : t.slot c = countedSlot raw (recentre v.peaks (d.slot c)) := by
      rw [same, State.slot_setSlot, if_pos rfl, hitState, State.slot_setSlot, if_pos rfl, ← rawEq]
      rfl
    have queue : t.rqu = built := by rw [same]; exact prepared.rqu
    rw [slotT, prepared.slot]
    exact ⟨confirm, rfl, ⟨by rw [slotT]; rfl, by rw [slotT]; rfl⟩, rfl, rfl,
      ⟨queue, by rw [queue]; exact builtKeeps.1, by rw [same]; exact prepared.drops⟩, rfl, rfl, rfl, rfl⟩
  case drops =>
    obtain ⟨d, prepared⟩ := preparedIn confirm
    obtain ⟨drops', -⟩ := prepared.confirms confirm
    have same : t = _ := drops' fun isNear => isFar (isNearTo.2 isNear)
    have slotT : t.slot c = dropConfirm ((hitState c v d).slot c) := by
      rw [same, State.slot_setSlot, if_pos rfl]
    have queue : t.rqu = built := by rw [same]; exact prepared.rqu
    rw [slotT]
    exact ⟨rfl, rfl, queue, by rw [queue]; exact builtKeeps.1, by rw [same]; exact prepared.drops⟩

end Sys2Proof.Proofs
end
